-- ==== Sys2Proof/Word.lean ====
section
/-! DEFINITION. The one word type of the block: the byte of its 64-byte frames (R202). -/

namespace Sys2Proof

/-- One byte of a frame. -/
abbrev Byte := BitVec 8

end Sys2Proof
end

