-- ==== Sys2Proof/Syntax.lean ====
section
/-! DEFINITION. The commands of the block: one constructor per row of spec/opcode_table.json.

A request row has no operand: it executes the oldest request of the port queue, whose fields stand in
that request's payload (R184, R185). An event row that brings a measurement carries the measured values
(DESIGN CHOICE, assumption 5). -/

namespace Sys2Proof

/-- The quick reading of one inlet phase over the last 100 ms (R118): RMS voltage in 0.1 V, RMS current
in 0.1 A, active power in W, negative while energy flows back. -/
structure PhaseReading where
  volts : Nat
  amps  : Nat
  watts : Int
  deriving DecidableEq, Repr

/-- The metering front end's values for phases 1 to 3 (R118). -/
structure FrontEnd where
  phase1 : PhaseReading
  phase2 : PhaseReading
  phase3 : PhaseReading
  deriving DecidableEq, Repr

/-- The active energy of phases 1 to 3 in J, signed, that the integrals gathered since the last
CLOCK_ADVANCE or restart (R121). -/
structure PhaseEnergy where
  phase1 : Int
  phase2 : Int
  phase3 : Int
  deriving DecidableEq, Repr

/-- The six zone sensors' readings in 0.1 °C (R46). -/
structure ZoneTemps where
  zone1 : Int
  zone2 : Int
  zone3 : Int
  zone4 : Int
  zone5 : Int
  zone6 : Int
  deriving DecidableEq, Repr

/-- The full pilot periods of one 100 ms window (R3): none, or their high time and their total time in
one common unit. -/
inductive PilotWindow where
  | noFullPeriod
  | periods (high total : Nat)
  deriving DecidableEq, Repr

/-- A change of level between two consecutive samples of the wake line (R198). -/
inductive Edge where
  | rising
  | falling
  deriving DecidableEq, Repr

/-- The block's commands. Each docstring names the rule that owns the row. -/
inductive Instr where
  /-- IDENTIFY (R192). -/
  | identify
  /-- CONFIGURE (R191). -/
  | configure
  /-- HEARTBEAT (R190). -/
  | heartbeat
  /-- RESTART (R193). -/
  | restart
  /-- PARK (R196). -/
  | park
  /-- READ_RESET_CAUSES (R201). -/
  | readResetCauses
  /-- CLEAR_RESET_CAUSES (R201). -/
  | clearResetCauses
  /-- READ_INLET (R15). -/
  | readInlet
  /-- SET_CHARGE_LIMITS (R37). -/
  | setChargeLimits
  /-- REPORT_BATTERY (R38). -/
  | reportBattery
  /-- WRITE_CURVE (R39). -/
  | writeCurve
  /-- READ_CURVE (R40). -/
  | readCurve
  /-- READ_ALLOCATION (R41). -/
  | readAllocation
  /-- WRITE_ZONE (R62). -/
  | writeZone
  /-- READ_ZONE (R63). -/
  | readZone
  /-- RESET_ZONE (R54). -/
  | resetZone
  /-- SET_ALLOWANCE (R61). -/
  | setAllowance
  /-- READ_ALLOWANCE (R61). -/
  | readAllowance
  /-- READ_INSULATION (R80). -/
  | readInsulation
  /-- SET_THRESHOLDS (R81). -/
  | setThresholds
  /-- READ_FAULT (R98). -/
  | readFault
  /-- ACKNOWLEDGE_FAULT (R99). -/
  | acknowledgeFault
  /-- RETIRE_FAULT (R100). -/
  | retireFault
  /-- STOP (R108). -/
  | stop
  /-- RESUME (R109 to R111). -/
  | resume
  /-- DISCARD_SNAPSHOT (R112). -/
  | discardSnapshot
  /-- READ_SNAPSHOT (R113). -/
  | readSnapshot
  /-- READ_METER (R127). -/
  | readMeter
  /-- CLEAR_UNBILLED (R128). -/
  | clearUnbilled
  /-- SET_CLOCK (R134). -/
  | setClock
  /-- READ_CLOCK (R135). -/
  | readClock
  /-- WRITE_TARIFF (R141). -/
  | writeTariff
  /-- READ_TARIFF (R142). -/
  | readTariff
  /-- OPEN_ACCOUNT (R148). -/
  | openAccount
  /-- FIND_ACCOUNT (R149). -/
  | findAccount
  /-- LIST_ACCOUNTS (R150). -/
  | listAccounts
  /-- READ_ACCOUNT (R151). -/
  | readAccount
  /-- AMEND_ACCOUNT (R152). -/
  | amendAccount
  /-- ACTIVATE_ACCOUNT (R153). -/
  | activateAccount
  /-- SUSPEND_ACCOUNT (R154). -/
  | suspendAccount
  /-- CLOSE_ACCOUNT (R156). -/
  | closeAccount
  /-- RETIRE_ACCOUNT (R158). -/
  | retireAccount
  /-- TAKE_ATTENTION (R174). -/
  | takeAttention
  /-- RELEASE_ATTENTION (R175). -/
  | releaseAttention
  /-- SET_ATTENTION_SOURCE (R177). -/
  | setAttentionSource
  /-- UNKNOWN_REQUEST (R185): the oldest request's code names no request. -/
  | unknownRequest
  /-- TRANSACTION_START (R182): the port select is asserted. -/
  | transactionStart
  /-- TRANSACTION_END (R183): the port select is released after these bytes were clocked in. -/
  | transactionEnd (clocked : List Byte)
  /-- PROXIMITY_READING (R2): the proximity resistance in Ω, and the quick reading that a wake from
  Keep-Warm takes (R199). -/
  | proximityReading (ohms : Nat) (front : FrontEnd)
  /-- PILOT_WINDOW_END (R3). -/
  | pilotWindowEnd (window : PilotWindow)
  /-- IDLE_TIMER_EXPIRY (R10). -/
  | idleTimerExpiry
  /-- PAUSING_TIMER_EXPIRY (R11). -/
  | pausingTimerExpiry
  /-- QUICK_READING (R118). -/
  | quickReading (front : FrontEnd)
  /-- PERIODIC_PASS (R19). -/
  | periodicPass
  /-- BATTERY_REPORT_STALE (R31). -/
  | batteryReportStale
  /-- ZONE_SENSOR_READING (R46). -/
  | zoneSensorReading (temps : ZoneTemps)
  /-- CLOCK_ADVANCE (R132): the second timer expires; the energy that flowed since the last one. -/
  | clockAdvance (energy : PhaseEnergy)
  /-- POLE_VOLTAGE_READING (R68): U_p and U_n in 0.1 V, before a value below 0 is taken as 0. -/
  | poleVoltageReading (up un : Int)
  /-- CYCLE_PERIOD_EXPIRY (R71). -/
  | cyclePeriodExpiry
  /-- BASE_SETTLE_END (R69). -/
  | baseSettleEnd
  /-- BASE_SAMPLE_END (R70). -/
  | baseSampleEnd
  /-- SHIFT_SETTLE_END (R69). -/
  | shiftSettleEnd
  /-- SHIFT_SAMPLE_END (R69, with the Compute of R75 to R79). -/
  | shiftSampleEnd
  /-- SUPERVISION_EXPIRY (R189). -/
  | supervisionExpiry
  /-- WAKE_LINE_EDGE (R198), with the quick reading that a wake from Keep-Warm takes (R199). -/
  | wakeLineEdge (edge : Edge) (front : FrontEnd)
  /-- WAKE_TIMER_EXPIRY (R198), with the quick reading that a wake from Keep-Warm takes (R199). -/
  | wakeTimerExpiry (front : FrontEnd)
  /-- RESUMPTION_END (R199), with the first readings of MTR and HZC. -/
  | resumptionEnd (front : FrontEnd) (temps : ZoneTemps)
  /-- STARTING_END (R195), with the single proximity reading of R16 and the first readings. -/
  | startingEnd (ohms : Nat) (front : FrontEnd) (temps : ZoneTemps)
  /-- SUPPLY_RESET (R200). -/
  | supplyReset
  /-- RESET_PIN (R187): the reset pin goes low. -/
  | resetPin
  /-- RESET_PIN_RELEASE (R187): the reset pin returns high. -/
  | resetPinRelease
  deriving DecidableEq, Repr

end Sys2Proof
end

