-- ==== Sys2Proof/Decode.lean ====
section
/-! DEFINITION. The commands that a word spells. spec/opcode_table.json gives no row any bits
(98_reader.md: n_rows_with_fixed 0, n_rows_with_fields 0), so no word spells a command. The bytes that reach
the block come in request frames, which TRANSACTION_END takes (R183). -/

namespace Sys2Proof

/-- The command a word of `nbits` bits spells by the table's bits: none, for the table gives none. -/
def decodeTableWord (_nbits _w : Nat) : Option Instr := none

end Sys2Proof
end

