-- ==== Sys2Proof/Config.lean ====
section
/-! DEFINITION. What the manual fixes once (durations, limits, maxima), and the orders and the value it leaves open. -/

namespace Sys2Proof.Config

/-! ### What the manual leaves open (free values: no body, so no proof can see them) -/

/-- R52: at the end of a Sample phase with a held pass, "the zone changes and ALC's pass may be taken in
either order". True: ALC's fresh pass first. The argument counts the choices made (DESIGN CHOICE, assumption 10). -/
opaque freshPassFirst : Nat → Bool

/-- R79: at a Compute that newly confirms a Fault, "the pass and the stop may be taken in either order".
True: the pass first. The argument counts the choices made (DESIGN CHOICE, assumption 11). -/
opaque passBeforeStop : Nat → Bool

/-- R68 gives a Sample phase 50 readings; the mean of a phase in which none was taken is not stated. The
arguments say which pole and which Sample phase (DESIGN CHOICE, assumption 16). -/
opaque meanOfNone (positive shifted : Bool) : Nat

/-! ### Durations in ms -/

/-- R10: the idle timer releases the draw at 30 s. -/
def idleLimitMs : Nat := 30000
/-- R11: the Pausing timer's limit. -/
def pausingLimitMs : Nat := 3000
/-- R19: the allocation period in Active. -/
def activePassMs : Nat := 100
/-- R19: the allocation period in Keep-Warm. -/
def warmPassMs : Nat := 1000
/-- R31: a battery report's life. -/
def staleLimitMs : Nat := 2000
/-- R69: BaseSettle and ShiftSettle. -/
def settleMs : Nat := 1500
/-- R69: BaseSample and ShiftSample. -/
def sampleMs : Nat := 500
/-- R71: the measurement period in Active. -/
def activeCycleMs : Nat := 10000
/-- R71: the measurement period in Keep-Warm. -/
def warmCycleMs : Nat := 600000
/-- R132: the wall clock's second. -/
def secondMs : Nat := 1000
/-- One minute, for the wake timer (R195). -/
def minuteMs : Nat := 60000

/-! ### Limits -/

/-- R2: consecutive readings that accept a band. -/
def bandRun : Nat := 5
/-- R4, R118: RMS voltage at which a phase is live, 0.1 V. -/
def liveVolts : Nat := 1800
/-- R8, R21: the nominal phase voltage, 0.1 V. -/
def nominalVolts : Nat := 2300
/-- R3, R22: the least valid offer and the charger's least current, 0.1 A. -/
def minAmps : Nat := 60
/-- R23: the charger window of V_bus, 0.1 V. -/
def busLow : Nat := 2000
def busHigh : Nat := 5000
/-- R68, R74: below this sum of the pole voltages there is no bus, 0.1 V. -/
def noBusVolts : Nat := 500
/-- R46: sensor range and cut-off, 0.1 °C. -/
def sensorLow : Int := -450
def sensorHigh : Int := 900
def cutOff : Int := 600
/-- R48: the hysteresis of Holding, 0.1 °C. -/
def hysteresis : Int := 10
/-- Measuring resistor R_m, kΩ (00_scope.md section 4, R75). -/
def measuringKOhm : Nat := 400
/-- R75: the largest resistance reported, kΩ. -/
def maxKOhm : Nat := 50000
/-- R60: the largest allowance, Wh. -/
def maxAllowance : Nat := 20000
/-- R121: the largest phase energy of a tick, J. -/
def maxPhaseJ : Nat := 20000
/-- R126, R145: the largest energy register, Wh. -/
def maxWh : Nat := 99999999
/-- R145: the largest cost register, µ. -/
def maxCost : Nat := 999999999999
/-- J in a Wh (R60, R126, R159). -/
def joulesPerWh : Nat := 3600
/-- R131: the last reading of the wall clock. -/
def maxWall : Nat := 4294967295
/-- R123, R133: seconds in an interval. -/
def intervalSeconds : Nat := 900
/-- R181, R184: the queue limit. -/
def queueLimit : Nat := 4
/-- R171: the floor stack's depth. -/
def stackLimit : Nat := 4
/-- R195: the longest wake timer, min. -/
def maxWakeMinutes : Nat := 10080
/-- The passes one event can lead to; the model's bound (DEDUCED, assumption 15). -/
def passFuel : Nat := 32

end Sys2Proof.Config
end

