-- ==== Sys2Proof/Machine/Table.lean ====
section
/-! DEFINITION. Tables of a fixed number of like records ("a fixed table of slots", 00_scope.md section 1),
as plain data: a list with its length. -/

namespace Sys2Proof.Machine

/-- A table of `n` records. -/
structure Table (n : Nat) (α : Type) where
  items : List α
  size  : items.length = n
  deriving DecidableEq, Repr

/-- The indices 0 … n−1, ascending. -/
def fins : (n : Nat) → List (Fin n)
  | 0     => []
  | n + 1 => 0 :: (fins n).map Fin.succ

theorem fins_length : (n : Nat) → (fins n).length = n
  | 0     => rfl
  | n + 1 => by simp [fins, fins_length n]

/-- The record in slot `i`. -/
def Table.get {n : Nat} {α : Type} (t : Table n α) (i : Fin n) : α :=
  t.items.get ⟨i.val, by rw [t.size]; exact i.isLt⟩

/-- The table with slot `i` replaced; the other slots keep their place. -/
def Table.set {n : Nat} {α : Type} (t : Table n α) (i : Fin n) (v : α) : Table n α :=
  ⟨t.items.set i.val v, by simp [t.size]⟩

/-- The table with slot `i` changed by `f`. -/
def Table.modify {n : Nat} {α : Type} (t : Table n α) (i : Fin n) (f : α → α) : Table n α :=
  t.set i (f (t.get i))

/-- The table whose slot `i` holds `f i`. -/
def Table.ofFn {n : Nat} {α : Type} (f : Fin n → α) : Table n α :=
  ⟨(fins n).map f, by simp [fins_length]⟩

/-- Every record changed by `f`. -/
def Table.map {n : Nat} {α β : Type} (t : Table n α) (f : α → β) : Table n β :=
  ⟨t.items.map f, by simp [t.size]⟩

/-- The table with the same record in every slot. -/
def Table.replicate (n : Nat) {α : Type} (v : α) : Table n α :=
  ⟨List.replicate n v, by simp⟩

/-- The lowest-numbered slot whose record satisfies `p`. -/
def Table.find {n : Nat} {α : Type} (t : Table n α) (p : α → Bool) : Option (Fin n) :=
  (fins n).find? fun i => p (t.get i)

end Sys2Proof.Machine
end

