-- ==== Sys2Proof/Machine/State.lean ====
section
/-! DEFINITION. The state of the GN-742, block by block (00_scope.md section 2), and State.reset: the part
right after a supply reset. Units are those of 00_scope.md section 5.1. -/

namespace Sys2Proof.Machine

/-! ### Inlet (R1, R2) -/

inductive InletState where
  | unplugged | plugged | offered | ready | drawing | pausing | faulted
  deriving DecidableEq, Repr

/-- The proximity bands other than open (R2). A band is an `Option CableClass`, `none` being open. -/
inductive CableClass where
  | a | b | c | d | invalid
  deriving DecidableEq, Repr

/-- INL: the inlet session record (R1) and the band acceptance (R2). -/
structure Inlet where
  state     : InletState
  cls       : Option CableClass
  pilot     : Bool
  duty      : Nat
  offered   : Nat
  /-- the inlet-enable output: asserted -/
  enable    : Bool
  entryTime : Nat
  idleMs    : Nat
  pausingMs : Nat
  /-- the accepted band (R2) -/
  accepted  : Option CableClass
  /-- the band of the latest run of readings and the run's length, at most 5 (R2) -/
  runBand   : Option CableClass
  runCount  : Nat
  deriving DecidableEq, Repr

/-! ### Severities, zones, supervision, power: names other blocks read -/

inductive Pole where
  | pos | neg
  deriving DecidableEq, Repr

/-- R67: confirmed severity. -/
inductive Severity where
  | unknown | normal | warning | fault
  deriving DecidableEq, Repr

/-- R76: the grade of a pole in one cycle; absent (`none`) before the first. -/
inductive Grade where
  | fault | warning | margin | clear
  deriving DecidableEq, Repr

/-- R44. -/
inductive ZoneState where
  | off | requested | heating | holding | isolated | faulted
  deriving DecidableEq, Repr

/-- R44. -/
inductive ZoneFault where
  | overTemperature | sensor | insulation
  deriving DecidableEq, Repr

/-- R188: armed with the ms left to the deadline. -/
inductive Supervision where
  | disarmed
  | armed (msLeft : Nat)
  | expired
  deriving DecidableEq, Repr

/-- R195. -/
inductive PowerState where
  | starting | active | keepWarm | dormant
  deriving DecidableEq, Repr

/-! ### Allocation (R17, R18, R21, R31) -/

/-- A subset of the 18 causes; bit n is cause n of 13.3. -/
abbrev CauseSet := BitVec 18

/-- R17: the source of the figures in force. -/
inductive FigureSource where
  | battery | grid
  deriving DecidableEq, Repr

/-- One point of the acceptance curve (R30). -/
structure CurvePoint where
  temp : Int
  amps : Nat
  deriving DecidableEq, Repr

/-- What a pass reads of a zone (R21). -/
structure ZoneInput where
  state  : ZoneState
  demand : Nat
  deriving DecidableEq, Repr

/-- The inputs used by a pass (R17, R21), in the order of R21, with the nominal-AC flag. -/
structure PassInputs where
  offered       : Nat
  cable         : Nat
  ceiling       : Nat
  acMax         : Nat
  n             : Nat
  vph           : Nat
  eff           : Nat
  dcMax         : Nat
  vbus          : Nat
  temp          : Int
  bms           : Nat
  stale         : Bool
  zones         : Table 6 ZoneInput
  share         : Nat
  sevPos        : Severity
  sevNeg        : Severity
  acctExists    : Bool
  capReached    : Bool
  saturated     : Bool
  sup           : Supervision
  heatLimit     : Nat
  allowanceZero : Bool
  inlet         : InletState
  nominal       : Bool
  deriving DecidableEq, Repr

/-- The prospective grid figures (R17). -/
structure GridFigures where
  iLim   : Nat
  pAc    : Nat
  pDc    : Nat
  bGrant : Nat
  hGrant : Nat
  deriving DecidableEq, Repr

/-- The figures in force (R17). -/
structure Figures where
  source : FigureSource
  bGrant : Nat
  hGrant : Nat
  zones  : Table 6 Nat
  iChg   : Nat
  deriving DecidableEq, Repr

/-- ALC: charge settings (R18), curve (R30), battery report (R31), allocation record (R17), period timer
(R19) and the charger command output (R32). -/
structure Alloc where
  ceiling    : Nat
  share      : Nat
  heatLimit  : Nat
  mask       : CauseSet
  curve      : List CurvePoint
  repTemp    : Int
  repBms     : Nat
  repTime    : Nat
  repStale   : Bool
  staleMs    : Nat
  inputs     : PassInputs
  grid       : GridFigures
  force      : Figures
  causes     : CauseSet
  prevCauses : CauseSet
  held       : Bool
  periodMs   : Nat
  chargerCmd : Nat
  deriving DecidableEq, Repr

/-! ### Heater zones (R44, R60) -/

/-- One zone record (R44). -/
structure Zone where
  enabled   : Bool
  target    : Int
  gain      : Nat
  pMax      : Nat
  priority  : Nat
  temp      : Int
  state     : ZoneState
  demand    : Nat
  grant     : Nat
  duty      : Nat
  /-- the contactor drive: closed -/
  contactor : Bool
  reason    : Option ZoneFault
  resume    : Option ZoneState
  disableAfter : Bool
  deriving DecidableEq, Repr

/-- HZC: six zones and the battery heat allowance. -/
structure Heater where
  zones   : Table 6 Zone
  allowWh : Nat
  allowJ  : Nat
  deriving DecidableEq, Repr

/-! ### Insulation (R67, R85, R86, R92) -/

/-- R67; Compute takes no time and is never found standing (R69). -/
inductive Cycle where
  | idle | baseSettle | baseSample | shiftSettle | shiftSample
  deriving DecidableEq, Repr

/-- R67: how the last cycle ended. -/
inductive CycleOutcome where
  | none | measured | noBus
  deriving DecidableEq, Repr

/-- R67: what IMON holds per pole. -/
structure PoleRec where
  severity    : Severity
  grade       : Option Grade
  warnCount   : Nat
  faultCount  : Nat
  normalCount : Nat
  deriving DecidableEq, Repr

/-- R85. -/
inductive Origin where
  | pole (p : Pole)
  | zone (z : Fin 6)
  deriving DecidableEq, Repr

/-- R86; a Free slot holds no record. -/
inductive FaultState where
  | active | acknowledged | cleared | resolved
  deriving DecidableEq, Repr

/-- One fault record (R86); `highest` is Warning or Fault. -/
structure FaultRec where
  origin  : Origin
  state   : FaultState
  highest : Severity
  lowestR : Nat
  first   : Nat
  last    : Nat
  count   : Nat
  deriving DecidableEq, Repr

/-- R92. -/
inductive LocateOutcome where
  | none | found | notExplained | abandoned
  deriving DecidableEq, Repr

/-- The locating sequence record (R92). The sequence is active exactly when `pole` is present. -/
structure Locating where
  pole       : Option Pole
  candidates : List (Fin 6)
  current    : Option (Fin 6)
  tried      : Nat
  deferred   : Option Pole
  outcome    : LocateOutcome
  origin     : Option Origin
  endTime    : Nat
  deriving DecidableEq, Repr

/-- IMON. -/
structure Insulation where
  cycle      : Cycle
  phaseMs    : Nat
  /-- the pole whose injection switch is closed (R67) -/
  shifted    : Option Pole
  discards   : Nat
  uP0        : Nat
  uN0        : Nat
  uP1        : Nat
  uN1        : Nat
  vbus       : Nat
  rPos       : Nat
  rNeg       : Nat
  outcome    : CycleOutcome
  endTime    : Nat
  warnTh     : Nat
  faultTh    : Nat
  warnK      : Nat
  faultK     : Nat
  returnK    : Nat
  pos        : PoleRec
  neg        : PoleRec
  /-- running sums of the Sample phase and its count of readings (R68) -/
  sumP       : Nat
  sumN       : Nat
  samples    : Nat
  /-- ms since the last cycle start (R71) -/
  periodMs   : Nat
  faults     : Table 8 (Option FaultRec)
  loc        : Locating
  deriving DecidableEq, Repr

/-! ### Stops (R103) -/

/-- A handle: a slot with a generation (R144). -/
structure Handle where
  slot : Fin 16
  gen  : Nat
  deriving DecidableEq, Repr

inductive StopCause where
  | insulationFault | request
  deriving DecidableEq, Repr

/-- A banked context (R103). -/
structure Context where
  epoch   : Nat
  cause   : StopCause
  handle  : Option Handle
  enabled : Table 6 Bool
  targets : Table 6 Int
  ceiling : Nat
  share   : Nat
  time    : Nat
  deriving DecidableEq, Repr

/-- STU. -/
structure Stops where
  epoch    : Nat
  bank     : Option Context
  overflow : Bool
  deriving DecidableEq, Repr

/-! ### Metering (R117, R124, R126) -/

/-- The quick reading of a phase (R117). -/
structure PhaseRec where
  volts : Nat
  amps  : Nat
  watts : Int
  live  : Bool
  deriving DecidableEq, Repr

/-- The last tick record (R124); `target` absent is the Unbilled register. -/
structure TickRec where
  t        : Nat
  spanMs   : Nat
  p1       : Nat
  p2       : Nat
  p3       : Nat
  total    : Nat
  heat     : Nat
  source   : FigureSource
  bGrant   : Nat
  hGrant   : Nat
  target   : Option Handle
  index    : Nat
  crossing : Bool
  deriving DecidableEq, Repr

/-- MTR. -/
structure Meter where
  phases     : Table 3 PhaseRec
  n          : Nat
  vph        : Nat
  /-- the wired phase count as MTR last took it (R191) -/
  wired      : Nat
  integrals  : Table 3 Int
  spanMs     : Nat
  last       : Option TickRec
  lastIndex  : Option Nat
  unbilledWh : Nat
  unbilledJ  : Nat
  deriving DecidableEq, Repr

/-! ### Tariffs and time (R131, R132, R136) -/

structure TariffBand where
  start : Nat
  price : Nat
  deriving DecidableEq, Repr

/-- A tariff record (R136). It is defined exactly when it has bands. -/
structure Tariff where
  bands   : List TariffBand
  idleFee : Nat
  grace   : Nat
  refs    : Nat
  deriving DecidableEq, Repr

/-- TCK. -/
structure Clock where
  wall     : Nat
  offset   : Int
  isSet    : Bool
  secondMs : Nat
  tariffs  : Table 8 Tariff
  deriving DecidableEq, Repr

/-! ### Accounts (R144, R145, R157) -/

inductive AcctState where
  | opened | active | suspended | closed
  deriving DecidableEq, Repr

inductive SuspendReason where
  | request | unplug | stop | portReset
  deriving DecidableEq, Repr

/-- The statement formed at Close (R157). -/
structure Statement where
  rounded : Nat
  totalWh : Nat
  totalJ  : Nat
  heatWh  : Nat
  heatJ   : Nat
  idleMin : Nat
  sticky  : CauseSet
  closed  : Nat
  deriving DecidableEq, Repr

/-- An account record (R145). Saturated is set exactly when one of the three registers is. -/
structure Account where
  state      : AcctState
  token      : Nat
  tariff     : Fin 8
  pending    : Option (Fin 8)
  energyCap  : Option Nat
  costCap    : Option Nat
  totalWh    : Nat
  totalJ     : Nat
  heatWh     : Nat
  heatJ      : Nat
  costEnergy : Nat
  costIdle   : Nat
  idleSec    : Nat
  idleMin    : Nat
  graceUsed  : Nat
  hasDrawn   : Bool
  sticky     : CauseSet
  capReached : Bool
  satTotal   : Bool
  satEnergy  : Bool
  satIdle    : Bool
  reason     : Option SuspendReason
  opened     : Nat
  firstActive : Option Nat
  closed     : Option Nat
  statement  : Option Statement
  deriving DecidableEq, Repr

/-- A slot: its generation, and its account unless it is Free (R144). -/
structure Slot where
  gen  : Nat
  acct : Option Account
  deriving DecidableEq, Repr

/-- ACT. -/
structure Accounts where
  slots : Table 16 Slot
  deriving DecidableEq, Repr

/-! ### Attention (R170, R171) -/

/-- The eleven sources, in index order (R170). -/
inductive Source where
  | insFault | insWarning | locatingDone | stop | supervision | inlet | account | allocation | zone
  | tariff | wake
  deriving DecidableEq, Repr

/-- R167. -/
inductive AcctEvent where
  | capReached | totalSaturated | costEnergySaturated | costIdleSaturated
  | suspendedUnplug | suspendedStop | suspendedPortReset
  deriving DecidableEq, Repr

/-- R64. -/
inductive ZoneEvent where
  | targetReached | overTemperature | sensor | insulation | allowanceExhausted
  deriving DecidableEq, Repr

/-- R198. -/
inductive WakeCause where
  | plug | wakeLine | wakeTimer
  deriving DecidableEq, Repr

/-- What an owner says at a raise (R170, 13.6). -/
inductive Detail where
  /-- INS_FAULT, INS_WARNING, LOCATING_DONE: the fault slot -/
  | faultSlot (slot : Nat)
  | stop (epoch : Nat) (cause : StopCause) (banked : Bool)
  /-- SUPERVISION: the event expired, with the Active account's handle -/
  | expired (handle : Option Handle)
  | inlet (state : InletState) (cls : Option CableClass)
  | account (handle : Handle) (event : AcctEvent)
  | causes (new : CauseSet)
  /-- ZONE: the zone, absent for allowance exhausted -/
  | zone (zone : Option (Fin 6)) (event : ZoneEvent)
  | tariff (handle : Handle) (tariff : Fin 8)
  | wake (cause : WakeCause) (woken : PowerState)
  deriving DecidableEq, Repr

/-- One attention source (R170). -/
structure SourceRec where
  flag   : Bool
  level  : Nat
  id     : Nat
  detail : Option Detail
  deriving DecidableEq, Repr

/-- ATN: the sources and the floor stack, its top first. `owed` is the account that a port reset suspended,
until the end of Starting, when its ACCOUNT raise is made (R155, R179; DEDUCED, assumption 43). -/
structure Attention where
  sources : Table 11 SourceRec
  stack   : List Nat
  owed    : Option Handle
  deriving DecidableEq, Repr

/-! ### Request port (R181, R182, R191) -/

/-- R185, 13.3. -/
inductive Status where
  | ok | none | unknown | length | range | state | stale | notFound | duplicate | full | inUse | locked
  | notReady
  deriving DecidableEq, Repr

/-- R181: a request awaiting execution, or a response awaiting collection, each with its tag. -/
inductive Item where
  | request (tag : Nat) (code : Byte) (payload : List Byte)
  | response (tag : Nat) (status : Status) (payload : List Byte)
  deriving DecidableEq, Repr

inductive DropReason where
  | none | frame | busy
  deriving DecidableEq, Repr

inductive WakeSense where
  | rising | falling | either
  deriving DecidableEq, Repr

/-- The Configure values (R191). -/
structure HwConfig where
  wired  : Nat
  acMax  : Nat
  dcMax  : Nat
  eff    : Nat
  window : Nat
  sense  : WakeSense
  deriving DecidableEq, Repr

/-- A transaction in progress (R182): the frame going out, and whether it carries a response. -/
structure Transaction where
  frame   : List Byte
  carries : Bool
  deriving DecidableEq, Repr

/-- RQP. -/
structure Port where
  queue      : List Item
  dropReason : DropReason
  dropTag    : Nat
  sup        : Supervision
  config     : HwConfig
  configured : Bool
  txn        : Option Transaction
  deriving DecidableEq, Repr

/-! ### Power (R195) -/

inductive ParkMode where
  | none | keepWarm | dormant
  deriving DecidableEq, Repr

/-- R195: the reset cause record. -/
structure ResetCauses where
  supply  : Bool
  pin     : Bool
  restart : Bool
  deriving DecidableEq, Repr

/-- PWC. -/
structure Power where
  state      : PowerState
  park       : ParkMode
  wakeMin    : Nat
  elapsedMin : Nat
  elapsedMs  : Nat
  sense      : WakeSense
  causes     : ResetCauses
  /-- the resumption of a wake from Dormant is in progress (R199) -/
  resuming   : Bool
  /-- the reset pin is held low (R187) -/
  pinLow     : Bool
  deriving DecidableEq, Repr

/-! ### The model's own fields -/

/-- What one command has gathered so far; clear between commands (DESIGN CHOICE, assumption 23). -/
structure Work where
  /-- an allocation pass is triggered (R20) -/
  trigger : Bool
  /-- that pass is a safety pass by its trigger (R34) -/
  safety  : Bool
  /-- a safety change is told to IMON: a contactor's opening, a stop or an unplug (R51, R106, R6) -/
  opening : Bool
  /-- a safety pass changed the figures in a Sample phase (R34) -/
  changed : Bool
  deriving DecidableEq, Repr

/-- The state of the block: its eleven sub-blocks, the model's own fields `work` and `choices`, and the
commands that wait, first in, first out. -/
structure State where
  inl     : Inlet
  alc     : Alloc
  hzc     : Heater
  imon    : Insulation
  stu     : Stops
  mtr     : Meter
  tck     : Clock
  act     : Accounts
  atn     : Attention
  rqp     : Port
  pwc     : Power
  work    : Work
  choices : Nat
  pending : List Instr
  deriving DecidableEq, Repr

/-! ### Outcomes -/

/-- No command of the block stops it: the manual answers, drops, records or ignores everything that
reaches it (INVENTORY.md, 'Faults'). So there is no fault, which is safe: nothing is cut short. -/
inductive Fault where
  deriving DecidableEq, Repr

/-- Why a command has no meaning in the model. -/
inductive Refusal where
  /-- Raised by `exec` for a command whose meaning is not written; no arm does. Safe. -/
  | notModelled (mnemonic : String)
  deriving DecidableEq, Repr

/-! ### Updates, one per block -/

def State.modInl (f : Inlet → Inlet) (s : State) : State := { s with inl := f s.inl }
def State.modAlc (f : Alloc → Alloc) (s : State) : State := { s with alc := f s.alc }
def State.modHzc (f : Heater → Heater) (s : State) : State := { s with hzc := f s.hzc }
def State.modImon (f : Insulation → Insulation) (s : State) : State := { s with imon := f s.imon }
def State.modStu (f : Stops → Stops) (s : State) : State := { s with stu := f s.stu }
def State.modMtr (f : Meter → Meter) (s : State) : State := { s with mtr := f s.mtr }
def State.modTck (f : Clock → Clock) (s : State) : State := { s with tck := f s.tck }
def State.modAct (f : Accounts → Accounts) (s : State) : State := { s with act := f s.act }
def State.modAtn (f : Attention → Attention) (s : State) : State := { s with atn := f s.atn }
def State.modRqp (f : Port → Port) (s : State) : State := { s with rqp := f s.rqp }
def State.modPwc (f : Power → Power) (s : State) : State := { s with pwc := f s.pwc }
def State.modWork (f : Work → Work) (s : State) : State := { s with work := f s.work }
def State.nextChoice (s : State) : State := { s with choices := s.choices + 1 }

/-! ### Supply-reset values -/

/-- R16; the band acceptance and the entry time are the model's choice (DESIGN CHOICE, assumption 25). -/
def Inlet.reset : Inlet :=
  { state := .unplugged, cls := none, pilot := false, duty := 0, offered := 0, enable := false,
    entryTime := 0, idleMs := 0, pausingMs := 0, accepted := none, runBand := none, runCount := 0 }

/-- R42: "Prospective figures, inputs used: 0". -/
def PassInputs.zero : PassInputs :=
  { offered := 0, cable := 0, ceiling := 0, acMax := 0, n := 0, vph := 0, eff := 0, dcMax := 0,
    vbus := 0, temp := 0, bms := 0, stale := false, zones := Table.replicate 6 ⟨.off, 0⟩, share := 0,
    sevPos := .unknown, sevNeg := .unknown, acctExists := false, capReached := false,
    saturated := false, sup := .disarmed, heatLimit := 0, allowanceZero := false,
    inlet := .unplugged, nominal := false }

def GridFigures.zero : GridFigures := ⟨0, 0, 0, 0, 0⟩

/-- R42: source battery, grants 0, I_chg 0. -/
def Figures.zero : Figures := ⟨.battery, 0, 0, Table.replicate 6 0, 0⟩

/-- R42. -/
def Alloc.reset : Alloc :=
  { ceiling := 320, share := 300, heatLimit := 0, mask := 0, curve := [], repTemp := 0, repBms := 0,
    repTime := 0, repStale := true, staleMs := 0, inputs := PassInputs.zero, grid := GridFigures.zero,
    force := Figures.zero, causes := 0, prevCauses := 0, held := false, periodMs := 0, chargerCmd := 0 }

/-- R65. -/
def Zone.reset : Zone :=
  { enabled := false, target := 0, gain := 10, pMax := 1000, priority := 0, temp := 0, state := .off,
    demand := 0, grant := 0, duty := 0, contactor := false, reason := none, resume := none,
    disableAfter := false }

/-- R65. -/
def Heater.reset : Heater := ⟨Table.replicate 6 Zone.reset, 0, 0⟩

/-- R78, R82. -/
def PoleRec.reset : PoleRec := ⟨.unknown, none, 0, 0, 0⟩

/-- R101. -/
def Locating.reset : Locating := ⟨none, [], none, 0, none, .none, none, 0⟩

/-- R82, R101. -/
def Insulation.reset : Insulation :=
  { cycle := .idle, phaseMs := 0, shifted := none, discards := 0, uP0 := 0, uN0 := 0, uP1 := 0,
    uN1 := 0, vbus := 0, rPos := 0, rNeg := 0, outcome := .none, endTime := 0, warnTh := 500,
    faultTh := 100, warnK := 0, faultK := 0, returnK := 0, pos := PoleRec.reset, neg := PoleRec.reset,
    sumP := 0, sumN := 0, samples := 0, periodMs := 0, faults := Table.replicate 8 none,
    loc := Locating.reset }

/-- R115. -/
def Stops.reset : Stops := ⟨0, none, false⟩

def PhaseRec.zero : PhaseRec := ⟨0, 0, 0, false⟩

/-- R129; before Configure the default of 3 wired phases applies (R117). The covered time starts at 0 with the
integrals (DESIGN CHOICE, assumption 25). -/
def Meter.reset : Meter :=
  { phases := Table.replicate 3 PhaseRec.zero, n := 0, vph := 0, wired := 3,
    integrals := Table.replicate 3 0, spanMs := 0, last := none, lastIndex := none, unbilledWh := 0,
    unbilledJ := 0 }

/-- R136: an Undefined tariff. -/
def Tariff.undefined : Tariff := ⟨[], 0, 0, 0⟩

/-- R143. -/
def Clock.reset : Clock := ⟨0, 0, false, 0, Table.replicate 8 Tariff.undefined⟩

/-- R168. -/
def Accounts.reset : Accounts := ⟨Table.replicate 16 ⟨0, none⟩⟩

/-- R170: the supply-reset levels. -/
def resetLevels : List Nat := [7, 5, 4, 6, 6, 3, 4, 2, 3, 1, 2]

/-- R179. -/
def Attention.reset : Attention :=
  ⟨⟨resetLevels.map fun l => ⟨false, l, 0, none⟩, rfl⟩, [], none⟩

/-- R191: the defaults. -/
def HwConfig.defaults : HwConfig := ⟨3, 160, 300, 940, 1000, .falling⟩

/-- R194. -/
def Port.reset : Port := ⟨[], .none, 0, .disarmed, HwConfig.defaults, false, none⟩

/-- R200: SUPPLY alone; the sense in use is Configure's. -/
def Power.reset : Power :=
  { state := .starting, park := .none, wakeMin := 0, elapsedMin := 0, elapsedMs := 0,
    sense := HwConfig.defaults.sense, causes := ⟨true, false, false⟩, resuming := false,
    pinLow := false }

def Work.clear : Work := ⟨false, false, false, false⟩

/-- The part right after a supply reset (R200), in Starting, with no command waiting. -/
def State.reset : State :=
  { inl := Inlet.reset, alc := Alloc.reset, hzc := Heater.reset, imon := Insulation.reset,
    stu := Stops.reset, mtr := Meter.reset, tck := Clock.reset, act := Accounts.reset,
    atn := Attention.reset, rqp := Port.reset, pwc := Power.reset, work := Work.clear, choices := 0,
    pending := [] }

end Sys2Proof.Machine
end

