-- ==== Sys2Proof/Machine/Flags.lean ====
section
/-! DEFINITION. Causes as bits, and the conditions read off the state: the attention line (R172), the
injection switches (R67), the quiet window (R72), which blocks run in which power state. -/

namespace Sys2Proof.Machine

/-! ### Causes (13.3, chapter 2 section 2.7) -/

inductive Cause where
  | offer | cable | ceiling | chargerAc | derate | belowMin | noAc | chargerDc | busRange | noAccount
  | cap | saturated | supervision | staleBattery | accept | heatShort | batterySource | allowance
  deriving DecidableEq, Repr

/-- The bit of a cause in the 24-bit cause field (13.3). -/
def Cause.bit : Cause → Nat
  | .offer => 0 | .cable => 1 | .ceiling => 2 | .chargerAc => 3 | .derate => 4 | .belowMin => 5
  | .noAc => 6 | .chargerDc => 7 | .busRange => 8 | .noAccount => 9 | .cap => 10 | .saturated => 11
  | .supervision => 12 | .staleBattery => 13 | .accept => 14 | .heatShort => 15 | .batterySource => 16
  | .allowance => 17

/-- The set that holds one cause. -/
def Cause.only (c : Cause) : CauseSet := 1#18 <<< c.bit

/-- The set that holds `c` exactly when `b`. -/
def causeIf (b : Bool) (c : Cause) : CauseSet := if b then c.only else 0

/-- Whether a set holds a cause. -/
def CauseSet.has (s : CauseSet) (c : Cause) : Bool := s.getLsbD c.bit

/-- R36: the causes present now, absent at the previous pass, and enabled. -/
def newCauses (now before mask : CauseSet) : CauseSet := now &&& ~~~before &&& mask

/-! ### Attention (R170 to R173) -/

def Source.index : Source → Fin 11
  | .insFault => 0 | .insWarning => 1 | .locatingDone => 2 | .stop => 3 | .supervision => 4
  | .inlet => 5 | .account => 6 | .allocation => 7 | .zone => 8 | .tariff => 9 | .wake => 10

/-- R171: the top of the floor stack, or 0. -/
def Attention.floor (a : Attention) : Nat := a.stack.headD 0

/-- R173: a source takes part when it is flagged and its level is above the floor. -/
def Attention.contends (a : Attention) (i : Fin 11) : Bool :=
  (a.sources.get i).flag && decide (a.floor < (a.sources.get i).level)

/-- R172: the attention line is asserted exactly when some flagged source stands above the floor. -/
def Attention.line (a : Attention) : Bool := (fins 11).any a.contends

/-- R173: `j` comes before `i` when its level is higher, or equal with a higher arbitration ID. -/
def Attention.beats (a : Attention) (j i : Fin 11) : Bool :=
  let sj := a.sources.get j
  let si := a.sources.get i
  decide (si.level < sj.level) || (decide (si.level = sj.level) && decide (si.id < sj.id))

/-- One candidate against the best of the lower indices: a tie keeps the lower index (R173). -/
def Attention.better (a : Attention) (best : Option (Fin 11)) (j : Fin 11) : Option (Fin 11) :=
  if a.contends j then
    match best with
    | none => some j
    | some i => if a.beats j i then some j else some i
  else best

/-- R173: the winner of a Take, if any source contends. -/
def Attention.winner (a : Attention) : Option (Fin 11) := (fins 11).foldl a.better none

/-- The set of sources whose request flag is set; bit n is source n (R203). -/
def Attention.flagged (a : Attention) : Nat :=
  (fins 11).foldl (fun acc i => acc + if (a.sources.get i).flag then 2 ^ i.val else 0) 0

/-! ### Insulation -/

/-- R72: BaseSample and ShiftSample are the quiet windows. -/
def State.sampleOpen (s : State) : Bool :=
  match s.imon.cycle with
  | .baseSample | .shiftSample => true
  | .idle | .baseSettle | .shiftSettle => false

/-- R67: the switch of the shifted pole is closed in ShiftSettle and ShiftSample; all others are open. -/
def Insulation.switchClosed (m : Insulation) (p : Pole) : Bool :=
  match m.cycle with
  | .shiftSettle | .shiftSample => decide (m.shifted = some p)
  | .idle | .baseSettle | .baseSample => false

def Insulation.pole (m : Insulation) : Pole → PoleRec
  | .pos => m.pos
  | .neg => m.neg

def Pole.other : Pole → Pole
  | .pos => .neg
  | .neg => .pos

/-- R85: the condition of a pole origin is present at confirmed Warning or Fault. -/
def Severity.raised : Severity → Bool
  | .warning | .fault => true
  | .unknown | .normal => false

/-- The worse of two severities of a record (R87, R95). -/
def Severity.worse : Severity → Severity → Severity
  | .fault, _ | _, .fault => .fault
  | .warning, _ | _, .warning => .warning
  | .normal, _ | _, .normal => .normal
  | .unknown, .unknown => .unknown

/-! ### Inlet and figures -/

/-- R3: the offer is valid when a pilot is present and the offered current is at least 60. -/
def Inlet.offerValid (i : Inlet) : Bool := i.pilot && decide (Config.minAmps ≤ i.offered)

/-- R10: the grid grant in force. -/
def Figures.gridGrant (f : Figures) : Nat :=
  match f.source with
  | .grid => f.bGrant + f.hGrant
  | .battery => 0

/-- R8: the prospective grid grant. -/
def GridFigures.grant (g : GridFigures) : Nat := g.bGrant + g.hGrant

/-- R61: the allowance is being debited when the source is battery with a heat grant. -/
def State.debiting (s : State) : Bool :=
  decide (s.alc.force.source = .battery) && decide (0 < s.alc.force.hGrant)

/-! ### What runs in which power state (R19, R46, R66, R120, R187, R197, R199) -/

/-- ALC, HZC and IMON run in Active and Keep-Warm, and not during a resumption (R199). -/
def State.blocksRun (s : State) : Bool :=
  match s.pwc.state with
  | .active => !s.pwc.resuming
  | .keepWarm => true
  | .starting | .dormant => false

/-- MTR reads and ticks in Active alone, and not during a resumption (R118, R120, R199). -/
def State.meterRuns (s : State) : Bool :=
  match s.pwc.state with
  | .active => !s.pwc.resuming
  | .starting | .keepWarm | .dormant => false

/-- The part is parked (R195). -/
def State.parked (s : State) : Bool :=
  match s.pwc.state with
  | .keepWarm | .dormant => true
  | .starting | .active => false

/-- R187: the port takes transactions and executes requests, except in Dormant and at the reset pin. -/
def State.portRuns (s : State) : Bool :=
  match s.pwc.state with
  | .dormant => false
  | .starting | .active | .keepWarm => !s.pwc.pinLow

/-- R2, R14, R16: INL reads the proximity input in every power state but Starting. -/
def State.proximityRuns (s : State) : Bool := decide (s.pwc.state ≠ .starting)

/-- R19: the allocation period of the power state. -/
def State.passPeriod (s : State) : Nat :=
  match s.pwc.state with
  | .keepWarm => Config.warmPassMs
  | .starting | .active | .dormant => Config.activePassMs

/-- R71: the measurement period of the power state. -/
def State.cyclePeriod (s : State) : Nat :=
  match s.pwc.state with
  | .keepWarm => Config.warmCycleMs
  | .starting | .active | .dormant => Config.activeCycleMs

/-- R69: how long the phase in progress lasts. -/
def Cycle.duration : Cycle → Nat
  | .idle => 0
  | .baseSettle | .shiftSettle => Config.settleMs
  | .baseSample | .shiftSample => Config.sampleMs

/-! ### Accounts -/

/-- R164: Saturated is set exactly when some register has saturated. -/
def Account.saturated (a : Account) : Bool := a.satTotal || a.satEnergy || a.satIdle

/-- A slot whose account is Active. -/
def Slot.isActive (s : Slot) : Bool :=
  match s.acct with
  | some a => decide (a.state = .active)
  | none => false

/-- The slot of the Active account (R145: at most one). -/
def Accounts.activeSlot (t : Accounts) : Option (Fin 16) := t.slots.find Slot.isActive

/-- The Active account with its slot. -/
def Accounts.active (t : Accounts) : Option (Fin 16 × Account) :=
  match t.activeSlot with
  | none => none
  | some i =>
    match (t.slots.get i).acct with
    | some a => some (i, a)
    | none => none

/-- The handle of a slot: the slot with its generation (R144). -/
def Accounts.handle (t : Accounts) (i : Fin 16) : Handle := ⟨i, (t.slots.get i).gen⟩

/-- The handle of the Active account, if any. -/
def Accounts.activeHandle (t : Accounts) : Option Handle := t.activeSlot.map t.handle

end Sys2Proof.Machine
end

