-- ==== Sys2Proof/Machine/Operands.lean ====
section
/-! DEFINITION. The fields of frames and payloads: big-endian numbers (R202, R203), the check value (R202),
the codes of 13.3 and 13.4, the attention details of 13.6. -/

namespace Sys2Proof.Machine

/-! ### Numbers in frames -/

/-- `n` in `w` bytes, most significant first; what does not fit is dropped (DESIGN CHOICE, assumption 21). -/
def be : Nat → Nat → List Byte
  | 0, _ => []
  | w + 1, n => BitVec.ofNat 8 (n / 256 ^ w) :: be w n

/-- A signed value in `w` bytes, two's complement (00_scope.md section 5.4). -/
def beInt (w : Nat) (i : Int) : List Byte := be w (i % (256 ^ w : Nat)).toNat

/-- The number that big-endian bytes spell. -/
def ofBytes (bytes : List Byte) : Nat := bytes.foldl (fun acc b => acc * 256 + b.toNat) 0

/-- The unsigned field of `w` bytes at offset `off` of a payload. -/
def field (p : List Byte) (off w : Nat) : Nat := ofBytes ((p.drop off).take w)

/-- The signed field of `w` bytes at offset `off` of a payload. -/
def fieldInt (p : List Byte) (off w : Nat) : Int :=
  let n := field p off w
  if 2 * n < 256 ^ w then (n : Int) else (n : Int) - (256 ^ w : Nat)

/-- R203: a flag byte reads yes for any non-zero value. -/
def fieldFlag (p : List Byte) (off : Nat) : Bool := decide (field p off 1 ≠ 0)

/-- Bit `k` of a presence byte (Open Account, Amend Account; 13.4). The bits that 13.4 does not define are
read by nobody: R203 ignores such bits in a cause mask, a source set and a zone set, and is silent on a
presence byte (DESIGN CHOICE, assumption 45). -/
def fieldBit (p : List Byte) (off k : Nat) : Bool := (field p off 1).testBit k

/-- The nearest bound of a range (00_scope.md section 5.2, Clamped). -/
def clampNat (lo hi x : Nat) : Nat := min hi (max lo x)

def clampInt (lo hi x : Int) : Int := min hi (max lo x)

/-- A flag in a response. -/
def flagByte (b : Bool) : List Byte := be 1 (if b then 1 else 0)

/-- One bit of a byte in a response. -/
def bitIf (b : Bool) (k : Nat) : Nat := if b then 2 ^ k else 0

/-- A cause set in a response (R203). -/
def causeBytes (c : CauseSet) : List Byte := be 3 c.toNat

/-- A cause set in a request: bits above the defined ones are ignored (R203). -/
def fieldCauses (p : List Byte) (off : Nat) : CauseSet := BitVec.ofNat 18 (field p off 3)

/-! ### The check value (R202) -/

/-- One bit of the cyclic redundancy check, generator x⁸ + x² + x + 1. -/
def crcBit (c : Byte) : Byte := if c.msb then (c <<< 1) ^^^ 0x07#8 else c <<< 1

/-- One byte, most significant bit first. -/
def crcByte (c b : Byte) : Byte :=
  crcBit (crcBit (crcBit (crcBit (crcBit (crcBit (crcBit (crcBit (c ^^^ b))))))))

/-- The register starts at all ones; no reflection, no final inversion. -/
def crc (bytes : List Byte) : Byte := bytes.foldl crcByte 0xFF#8

/-! ### Codes of 13.3 -/

def Status.code : Status → Nat
  | .ok => 0x00 | .none => 0x01 | .unknown => 0x02 | .length => 0x03 | .range => 0x04 | .state => 0x05
  | .stale => 0x06 | .notFound => 0x07 | .duplicate => 0x08 | .full => 0x09 | .inUse => 0x0A
  | .locked => 0x0B | .notReady => 0x0C

def PowerState.code : PowerState → Nat
  | .starting => 0 | .active => 1 | .keepWarm => 2 | .dormant => 3

def ParkMode.code : ParkMode → Nat
  | .none => 0 | .keepWarm => 1 | .dormant => 2

def WakeSense.code : WakeSense → Nat
  | .rising => 0 | .falling => 1 | .either => 2

def WakeCause.code : WakeCause → Nat
  | .plug => 1 | .wakeLine => 2 | .wakeTimer => 3

def ResetCauses.code (c : ResetCauses) : Nat := bitIf c.supply 0 + bitIf c.pin 1 + bitIf c.restart 2

def InletState.code : InletState → Nat
  | .unplugged => 0 | .plugged => 1 | .offered => 2 | .ready => 3 | .drawing => 4 | .pausing => 5
  | .faulted => 6

def classCode : Option CableClass → Nat
  | none => 0 | some .a => 1 | some .b => 2 | some .c => 3 | some .d => 4 | some .invalid => 5

def FigureSource.code : FigureSource → Nat
  | .battery => 0 | .grid => 1

def Supervision.code : Supervision → Nat
  | .disarmed => 0 | .armed _ => 1 | .expired => 2

/-- R190, R192: the time to the deadline, 0 unless armed. -/
def Supervision.left : Supervision → Nat
  | .armed ms => ms
  | .disarmed | .expired => 0

def ZoneState.code : ZoneState → Nat
  | .off => 0 | .requested => 1 | .heating => 2 | .holding => 3 | .isolated => 4 | .faulted => 5

def zoneFaultCode : Option ZoneFault → Nat
  | none => 0 | some .overTemperature => 1 | some .sensor => 2 | some .insulation => 3

/-- R203: an absent resume-state is coded 0xFF. -/
def resumeCode : Option ZoneState → Nat
  | none => 0xFF
  | some st => st.code

def Cycle.code : Cycle → Nat
  | .idle => 0 | .baseSettle => 1 | .baseSample => 2 | .shiftSettle => 3 | .shiftSample => 4

def poleCode : Option Pole → Nat
  | none => 0 | some .pos => 1 | some .neg => 2

def Severity.code : Severity → Nat
  | .unknown => 0 | .normal => 1 | .warning => 2 | .fault => 3

def gradeCode : Option Grade → Nat
  | none => 0 | some .fault => 1 | some .warning => 2 | some .margin => 3 | some .clear => 4

def CycleOutcome.code : CycleOutcome → Nat
  | .none => 0 | .measured => 1 | .noBus => 2

def FaultState.code : FaultState → Nat
  | .active => 1 | .acknowledged => 2 | .cleared => 3 | .resolved => 4

/-- 0 is Free. -/
def faultCode : Option FaultRec → Nat
  | none => 0
  | some r => r.state.code

def Origin.code : Origin → Nat
  | .pole .pos => 1 | .pole .neg => 2 | .zone z => 3 + z.val

def originCode : Option Origin → Nat
  | none => 0
  | some o => o.code

def LocateOutcome.code : LocateOutcome → Nat
  | .none => 0 | .found => 1 | .notExplained => 2 | .abandoned => 3

def StopCause.code : StopCause → Nat
  | .insulationFault => 1 | .request => 2

def AcctState.code : AcctState → Nat
  | .opened => 1 | .active => 2 | .suspended => 3 | .closed => 4

def reasonCode : Option SuspendReason → Nat
  | none => 0 | some .request => 1 | some .unplug => 2 | some .stop => 3 | some .portReset => 4

def AcctEvent.code : AcctEvent → Nat
  | .capReached => 1 | .totalSaturated => 2 | .costEnergySaturated => 3 | .costIdleSaturated => 4
  | .suspendedUnplug => 5 | .suspendedStop => 6 | .suspendedPortReset => 7

def ZoneEvent.code : ZoneEvent → Nat
  | .targetReached => 1 | .overTemperature => 2 | .sensor => 3 | .insulation => 4
  | .allowanceExhausted => 5

def DropReason.code : DropReason → Nat
  | .none => 0 | .frame => 1 | .busy => 2

/-- The number of a zone, or 0 for none (R92, 13.6). -/
def zoneNumber : Option (Fin 6) → Nat
  | none => 0
  | some z => z.val + 1

/-- A set of zones; bit n−1 is zone n (R203). -/
def zoneSet (p : Fin 6 → Bool) : Nat :=
  (fins 6).foldl (fun acc z => acc + bitIf (p z) z.val) 0

/-- A handle: slot, then generation (R203). -/
def Handle.bytes (h : Handle) : List Byte := be 1 h.slot.val ++ be 1 h.gen

/-- An optional handle: its presence flag, then the handle or zeros. -/
def handleBytes : Option Handle → List Byte
  | none => be 1 0 ++ be 2 0
  | some h => be 1 1 ++ h.bytes

/-- An optional number in `w` bytes, 0 when absent (R203). -/
def optBytes (w : Nat) (x : Option Nat) : List Byte := be w (x.getD 0)

/-- 13.6: the fields of a detail. -/
def Detail.fields : Detail → List Byte
  | .faultSlot slot => be 1 slot
  | .stop epoch cause banked => be 2 epoch ++ be 1 cause.code ++ flagByte banked
  | .expired handle => be 1 1 ++ handleBytes handle
  | .inlet state cls => be 1 state.code ++ be 1 (classCode cls)
  | .account handle event => handle.bytes ++ be 1 event.code
  | .causes new => causeBytes new
  | .zone z event => be 1 (zoneNumber z) ++ be 1 event.code
  | .tariff handle new => handle.bytes ++ be 1 new.val
  | .wake cause woken => be 1 cause.code ++ be 1 woken.code

/-- 13.6: a detail takes 8 bytes, zeros after its fields; none is 8 bytes of 0. -/
def detailBytes : Option Detail → List Byte
  | none => be 8 0
  | some d => d.fields ++ List.replicate (8 - d.fields.length) 0#8

/-! ### Request codes (13.4) -/

/-- The codes that name a request; 0x00 is the null code of a poll. -/
def requestCodes : List Byte :=
  [0x01, 0x02, 0x03, 0x04, 0x08, 0x09, 0x0A, 0x10, 0x18, 0x19, 0x1A, 0x1B, 0x1C, 0x20, 0x21, 0x22,
   0x23, 0x24, 0x28, 0x29, 0x2A, 0x2B, 0x2C, 0x30, 0x31, 0x32, 0x33, 0x38, 0x39, 0x40, 0x41, 0x42,
   0x43, 0x48, 0x49, 0x4A, 0x4B, 0x4C, 0x4D, 0x4E, 0x4F, 0x50, 0x58, 0x59, 0x5A]

/-- What the owner of a request answers (R185). -/
structure Reply where
  status  : Status
  payload : List Byte
  deriving DecidableEq, Repr

/-- A refusal without payload (R185). -/
def Reply.bare (st : Status) : Reply := ⟨st, []⟩

/-- The Configure values as 13.5 lays them out. -/
def HwConfig.bytes (c : HwConfig) : List Byte :=
  be 1 c.wired ++ be 2 c.acMax ++ be 2 c.dcMax ++ be 2 c.eff ++ be 2 c.window ++ be 1 c.sense.code

/-! ### Frames (13.1) -/

/-- The frame whose check value is added to bytes 0 to 62. -/
def sealFrame (body : List Byte) : List Byte := body ++ [crc body]

/-- R186, 13.1: the port status byte. -/
def statusByte (p : Port) (line : Bool) : Byte :=
  BitVec.ofNat 8 (p.dropTag * 64 + p.dropReason.code * 16 + bitIf line 3 + p.queue.length)

/-- An empty response frame (R182, R202). -/
def emptyFrame (status : Byte) : List Byte := sealFrame (status :: List.replicate 62 0#8)

/-- The frame that carries a response (R182, 13.1). -/
def responseFrame (status : Byte) (tag : Nat) (st : Status) (payload : List Byte) : List Byte :=
  sealFrame ([status, BitVec.ofNat 8 (128 + tag), BitVec.ofNat 8 st.code,
    BitVec.ofNat 8 payload.length] ++ payload ++ List.replicate (59 - payload.length) 0#8)

/-- The tag a request frame carries, or 0 when byte 1 was not clocked in (R183, 13.1). -/
def frameTag (clocked : List Byte) : Nat := field clocked 1 1 % 4

/-- R183 step 3: the frame is dropped when other than 64 bytes were clocked, when its check value does not
match, or when its payload length is above 60. -/
def frameOk (clocked : List Byte) : Bool :=
  decide (clocked.length = 64) && decide (clocked.drop 63 = [crc (clocked.take 63)]) &&
  decide (field clocked 2 1 ≤ 60)

/-- The request code of a frame. -/
def frameCode (clocked : List Byte) : Byte := clocked.headD 0

/-- The payload of a frame: as many bytes as its length field says (13.1). -/
def framePayload (clocked : List Byte) : List Byte := (clocked.drop 3).take (field clocked 2 1)

end Sys2Proof.Machine
end

