-- ==== Sys2Proof/Machine/Ops.lean ====
section
/-! DEFINITION. The operations the blocks share: raises, pass triggers, the inlet's entry to a state,
supervision, the Active account's coming and going, the zones' changes of state. Each is one `State → State`
that leaves `pending` alone; passes they trigger are run by `State.settle` (Machine/Quiet.lean). -/

namespace Sys2Proof.Machine

/-- The wall seconds that TCK reports (R131). -/
def State.now (s : State) : Nat := s.tck.wall

/-- R170: a raise sets the source's request flag and overwrites its detail. -/
def State.raise (src : Source) (d : Detail) (s : State) : State :=
  s.modAtn fun a =>
    { a with sources := a.sources.modify src.index fun r => { r with flag := true, detail := some d } }

/-- R20: the event in progress triggers a pass. -/
def State.trigger (s : State) : State := s.modWork fun w => { w with trigger := true }

/-- R34: the event in progress triggers a pass that is a safety pass by its trigger. -/
def State.triggerSafety (s : State) : State :=
  s.modWork fun w => { w with trigger := true, safety := true }

/-! ### Supervision (R188) -/

/-- R188, Arming: Expired stays Expired; otherwise armed with one window from now. A change of state
triggers a pass. -/
def State.armSupervision (s : State) : State :=
  let fresh := s.modRqp fun p => { p with sup := .armed p.config.window }
  match s.rqp.sup with
  | .disarmed => fresh.trigger
  | .armed _ => fresh
  | .expired => s

/-- R188, Disarming. -/
def State.disarmSupervision (s : State) : State :=
  match s.rqp.sup with
  | .armed _ => (s.modRqp fun p => { p with sup := .disarmed }).trigger
  | .disarmed | .expired => s

/-! ### Accounts entering and leaving Active (R146, R153, R155) -/

/-- The account of a slot changed; a Free slot stays as it is. -/
def State.modAccount (i : Fin 16) (f : Account → Account) (s : State) : State :=
  s.modAct fun t =>
    { t with slots := t.slots.modify i fun sl => { sl with acct := sl.acct.map f } }

/-- R153, R146: the account in slot `i` becomes Active; supervision is armed and a pass triggered. -/
def State.activateSlot (i : Fin 16) (s : State) : State :=
  ((s.modAccount i fun a =>
      { a with state := .active, reason := none,
               firstActive := some (a.firstActive.getD s.now) }).armSupervision).trigger

/-- R146: the departure of an account from Active. -/
def State.leaveActive (s : State) : State := s.disarmSupervision.trigger

/-- R154, R155: the account in slot `i` is Suspended with a reason, leaving Active. -/
def State.suspendSlot (i : Fin 16) (r : SuspendReason) (s : State) : State :=
  (s.modAccount i fun a => { a with state := .suspended, reason := some r }).leaveActive

/-- R155: an event outside the host's requests suspends the Active account, if any, and raises ACCOUNT. -/
def State.autoSuspend (r : SuspendReason) (e : AcctEvent) (s : State) : State :=
  match s.act.activeSlot with
  | none => s
  | some i => (s.suspendSlot i r).raise .account (.account (s.act.handle i) e)

/-! ### The inlet (R1, R13) -/

/-- R13: INL raises INLET with the state and class after the change, and triggers a pass. -/
def State.inletChanged (s : State) : State :=
  (s.raise .inlet (.inlet s.inl.state s.inl.cls)).trigger

/-- R1: the state decides the enable output. -/
def InletState.enables : InletState → Bool
  | .ready | .drawing => true
  | .unplugged | .plugged | .offered | .pausing | .faulted => false

/-- R1: INL enters a state: the enable output follows, the entry time is recorded, both timers start at 0. -/
def State.setInlet (st : InletState) (s : State) : State :=
  s.modInl fun i =>
    { i with state := st, enable := st.enables, entryTime := s.now, idleMs := 0, pausingMs := 0 }

/-- R1, R13: a change of the inlet state. -/
def State.enterInlet (st : InletState) (s : State) : State := (s.setInlet st).inletChanged

/-- R9, AC appears. -/
def State.acAppears (s : State) : State :=
  match s.inl.state with
  | .ready => s.enterInlet .drawing
  | .unplugged | .plugged | .offered | .drawing | .pausing | .faulted => s

/-- R9, AC gone. -/
def State.acGone (s : State) : State :=
  match s.inl.state with
  | .drawing => s.enterInlet .ready
  | .pausing => s.enterInlet (if s.inl.offerValid then .offered else .plugged)
  | .unplugged | .plugged | .offered | .ready | .faulted => s

/-- R8: what INL does with the prospective grid grant of a completed pass. Entering Ready with AC present
goes on to Drawing at the same event. -/
def State.enableDecision (grant : Nat) (s : State) : State :=
  match s.inl.state with
  | .offered =>
    if 0 < grant then
      if 0 < s.mtr.n then (s.enterInlet .ready).enterInlet .drawing else s.enterInlet .ready
    else s
  | .ready => if 0 < grant then s else s.enterInlet .offered
  | .unplugged | .plugged | .drawing | .pausing | .faulted => s

/-- R12: at a stop INL withdraws enable. -/
def State.withdrawEnable (s : State) : State :=
  match s.inl.state with
  | .drawing => s.enterInlet .pausing
  | .ready => s.enterInlet .offered
  | .unplugged | .plugged | .offered | .pausing | .faulted => s

/-! ### Zones (R44, R45, R47) -/

/-- R45: Requested, Heating and Holding keep the contactor closed. -/
def ZoneState.connected : ZoneState → Bool
  | .requested | .heating | .holding => true
  | .off | .isolated | .faulted => false

/-- R47: Requested and Heating ask for power. -/
def ZoneState.asks : ZoneState → Bool
  | .requested | .heating => true
  | .off | .holding | .isolated | .faulted => false

/-- R47: Q = min(P_max, k × max(0, target − temperature)) in Requested and Heating, 0 otherwise. -/
def Zone.asked (z : Zone) : Nat :=
  if z.state.asks then min z.pMax (z.gain * (z.target - z.temp).toNat) else 0

/-- The demand recomputed (R47). -/
def Zone.recompute (z : Zone) : Zone := { z with demand := z.asked }

/-- R45: entry to Off, Isolated or Faulted: duty, grant and demand 0, contactor open. -/
def Zone.rest (st : ZoneState) (z : Zone) : Zone :=
  { z with state := st, demand := 0, grant := 0, duty := 0, contactor := false }

/-- Entry to Off: no fault reason, no isolation. -/
def Zone.toOff (z : Zone) : Zone :=
  { z.rest .off with reason := none, resume := none, disableAfter := false }

/-- R53, R55: entry to Faulted. -/
def Zone.toFaulted (r : ZoneFault) (z : Zone) : Zone :=
  { z.rest .faulted with reason := some r, resume := none, disableAfter := false }

/-- R56: entry to Isolated; the state it leaves is kept. -/
def Zone.toIsolated (z : Zone) : Zone :=
  { z.rest .isolated with resume := some z.state, disableAfter := false }

/-- R45: entry to Requested, Heating or Holding. The contactor closes, but not while HZC stands as in
Dormant (`live` false; R66, R199). The duty is kept: it is 0 after Off and Isolated. -/
def Zone.connect (live : Bool) (st : ZoneState) (z : Zone) : Zone :=
  { z with state := st, contactor := live }.recompute

/-- R57: release from isolation. -/
def Zone.released (live : Bool) (z : Zone) : Zone :=
  if z.disableAfter then z.toOff
  else { z.connect live (z.resume.getD .requested) with resume := none }

/-- Zone `i` changed. -/
def State.modZone (i : Fin 6) (f : Zone → Zone) (s : State) : State :=
  s.modHzc fun h => { h with zones := h.zones.modify i f }

def State.zone (s : State) (i : Fin 6) : Zone := s.hzc.zones.get i

/-- R51, R73: a safety change is told to IMON, which discards the sample in progress (taken up by
`State.settle`). -/
def State.tellImon (s : State) : State := s.modWork fun w => { w with opening := true }

/-- R51: the safety opening of a zone's contactor is told to IMON, when it stood closed (DEDUCED,
assumption 28). -/
def State.noteOpening (z : Zone) (s : State) : State := if z.contactor then s.tellImon else s

/-- R97: the locating record of an abandoned sequence; nothing when none is active. -/
def State.abandonRecord (s : State) : State :=
  match s.imon.loc.pole with
  | none => s
  | some p =>
    s.modImon fun m =>
      { m with loc := { m.loc with pole := none, current := none, candidates := [], deferred := none,
                                   outcome := .abandoned, origin := some (.pole p), endTime := s.now } }

/-- R53: a zone enters Faulted by a reading, from any other state. An isolation in progress ends, and with
it the locating sequence (R97). -/
def State.zoneFault (i : Fin 6) (r : ZoneFault) (e : ZoneEvent) (s : State) : State :=
  let z := s.zone i
  let s1 := (s.noteOpening z).modZone i (Zone.toFaulted r)
  let s2 := if z.state = .isolated then s1.abandonRecord else s1
  (s2.raise .zone (.zone (some i) e)).triggerSafety

/-- R48: the temperature transitions of a zone whose demand has just been recomputed. -/
def State.zoneTransition (i : Fin 6) (s : State) : State :=
  let z := s.zone i
  match z.state with
  | .requested | .heating =>
    if z.target ≤ z.temp then
      ((s.modZone i fun z => { z with state := .holding, demand := 0 }).raise .zone
        (.zone (some i) .targetReached)).trigger
    else s
  | .holding =>
    if z.temp < z.target - Config.hysteresis then
      (s.modZone i fun z => { z with state := .heating }.recompute).trigger
    else s
  | .off | .isolated | .faulted => s

/-- R46: one sensor reading: range, cut-off, demand and transitions, in that order. -/
def State.zoneReading (i : Fin 6) (temp : Int) (s : State) : State :=
  let s1 := s.modZone i fun z => { z with temp := temp }
  if (s1.zone i).state = .faulted then s1
  else if temp < Config.sensorLow ∨ Config.sensorHigh < temp then s1.zoneFault i .sensor .sensor
  else if Config.cutOff ≤ temp then s1.zoneFault i .overTemperature .overTemperature
  else (s1.modZone i Zone.recompute).zoneTransition i

/-- R46, R64: the six sensors, in ascending zone number. -/
def State.readZones (t : ZoneTemps) (s : State) : State :=
  (((((s.zoneReading 0 t.zone1).zoneReading 1 t.zone2).zoneReading 2 t.zone3).zoneReading 3
    t.zone4).zoneReading 4 t.zone5).zoneReading 5 t.zone6

/-- R52: whether a zone stands out of line with its enabled flag. -/
def Zone.outOfLine (z : Zone) : Bool :=
  match z.state with
  | .requested | .heating | .holding => !z.enabled
  | .off => z.enabled
  | .isolated | .faulted => false

/-- R52: a zone brought in line with its enabled flag. -/
def Zone.inLine (live : Bool) (z : Zone) : Zone :=
  match z.state with
  | .requested | .heating | .holding => if z.enabled then z else z.toOff
  | .off => if z.enabled then z.connect live .requested else z
  | .isolated | .faulted => z

def State.anyOutOfLine (s : State) : Bool := (fins 6).any fun i => (s.zone i).outOfLine

/-- R52: HZC brings every zone in line with its enabled flag; an entry triggers a pass. -/
def State.zonesInLine (s : State) : State :=
  if s.anyOutOfLine then
    (s.modHzc fun h => { h with zones := h.zones.map (Zone.inLine s.blocksRun) }).trigger
  else s

/-- R62, R58: the enabled flag and settings written, and the zone's answer by its state; `window` is an
open Sample phase, in which the entries of R51 wait. -/
def Zone.write (live window enabled : Bool) (target : Int) (gain pMax priority : Nat) (z : Zone) : Zone :=
  let z1 := { z with enabled := enabled, target := target, gain := gain, pMax := pMax,
                     priority := priority }
  match z.state with
  | .off | .requested | .heating | .holding =>
    if window then z1.recompute else (z1.inLine live).recompute
  | .isolated => { z1 with disableAfter := !enabled }
  | .faulted => z1

/-- R62: Write Zone's effect on a zone record; it triggers a pass. -/
def State.writeZone (i : Fin 6) (enabled : Bool) (target : Int) (gain pMax priority : Nat)
    (s : State) : State :=
  (s.modZone i (Zone.write s.blocksRun s.sampleOpen enabled target gain pMax priority)).trigger

/-- R50, R49: an applied grant driven as duty; a Requested zone that is granted power enters Heating. -/
def Zone.drive (g : Nat) (z : Zone) : Zone :=
  match z.state with
  | .requested =>
    { z with grant := g, duty := g * 1000 / z.pMax, state := if 0 < g then .heating else .requested }
  | .heating | .holding => { z with grant := g, duty := g * 1000 / z.pMax }
  | .off | .isolated | .faulted => z

/-- R49: some zone leaves Requested at these grants. -/
def State.anyHeats (g : Table 6 Nat) (s : State) : Bool :=
  (fins 6).any fun i => decide ((s.zone i).state = .requested) && decide (0 < g.get i)

/-- R50: HZC takes the six grants of an applied pass; a change of state triggers a pass. -/
def State.applyGrants (g : Table 6 Nat) (s : State) : State :=
  let s1 := s.modHzc fun h => { h with zones := Table.ofFn fun i => (h.zones.get i).drive (g.get i) }
  if s.anyHeats g then s1.trigger else s1

/-- R57: a release; ignored unless the zone is Isolated. It triggers a pass. -/
def State.releaseZone (i : Fin 6) (s : State) : State :=
  if (s.zone i).state = .isolated then (s.modZone i (Zone.released s.blocksRun)).trigger else s

/-- The zone that is Isolated, if any (R45: at most one). -/
def State.isolatedZone (s : State) : Option (Fin 6) :=
  s.hzc.zones.find fun z => decide (z.state = .isolated)

/-- R56: an isolation request for zone `i`. Another isolated zone is released first. -/
def State.isolateZone (i : Fin 6) (s : State) : State :=
  let s1 := match s.isolatedZone with
    | some j => if j = i then s else s.releaseZone j
    | none => s
  if (s1.zone i).state.connected then (s1.modZone i Zone.toIsolated).trigger else s1

/-- R55: the isolated zone explains the condition. -/
def State.insulationFault (i : Fin 6) (s : State) : State :=
  ((s.modZone i (Zone.toFaulted .insulation)).raise .zone (.zone (some i) .insulation)).trigger

/-- R59: a zone at a stop. -/
def Zone.stopped (z : Zone) : Zone :=
  match z.state with
  | .faulted => { z with enabled := false }
  | .off | .requested | .heating | .holding | .isolated => { z.toOff with enabled := false }

/-- R59, R51: at a stop every zone that is not Faulted enters Off and every enabled flag is cleared. R106: a
stop inside a quiet window discards the sample in progress, whether or not a contactor stood closed. -/
def State.zonesStop (s : State) : State :=
  let isolated := s.isolatedZone.isSome
  let s1 := (s.modHzc fun h => { h with zones := h.zones.map Zone.stopped }).tellImon
  if isolated then s1.abandonRecord else s1

/-- R66: at Dormant entry every contactor opens and every duty and grant goes to 0; the states are kept. -/
def Zone.sleep (z : Zone) : Zone := { z with grant := 0, duty := 0, contactor := false }

/-- R66: when the stopped blocks resume, the contactors of connected zones close with duty 0. -/
def Zone.wake (z : Zone) : Zone := { z with contactor := z.state.connected }

/-! ### The battery heat allowance (R60) -/

/-- The allowance in joules. -/
def Heater.allowance (h : Heater) : Nat := h.allowWh * Config.joulesPerWh + h.allowJ

/-- R60: the allowance reduced by a debit; a debit larger than what remains leaves 0. -/
def Heater.debit (j : Nat) (h : Heater) : Heater :=
  { h with allowWh := (h.allowance - j) / Config.joulesPerWh,
           allowJ := (h.allowance - j) % Config.joulesPerWh }

/-- R60, R61: the allowance has reached 0. Whether its pass is a safety pass is judged by R34, from which R60
concludes it (DEDUCED, assumption 47). -/
def State.allowanceExhausted (s : State) : State :=
  (s.raise .zone (.zone none .allowanceExhausted)).trigger

/-- R60: the debit of one second. -/
def State.debitAllowance (s : State) : State :=
  if s.debiting then
    let s1 := s.modHzc (Heater.debit s.alc.force.hGrant)
    if 0 < s.hzc.allowance ∧ s1.hzc.allowance = 0 then s1.allowanceExhausted else s1
  else s

end Sys2Proof.Machine
end

