-- ==== Sys2Proof/Machine/Pass.lean ====
section
/-! DEFINITION. One allocation pass (R19 to R36): its inputs, its nine stages, and its completion. A pass
is computed from its inputs alone (`PassInputs.result`), with the six zones' priorities for Stage 9 and the
acceptable current of the curve. -/

namespace Sys2Proof.Machine

/-! ### The acceptance curve (R30) -/

/-- R30: between two neighbouring points; floor on a rising section, ceiling on a falling one. -/
def interpolate (p q : CurvePoint) (t : Int) : Nat :=
  let dx := (t - p.temp).toNat
  let span := (q.temp - p.temp).toNat
  if p.amps ≤ q.amps then p.amps + (q.amps - p.amps) * dx / span
  else p.amps - ((p.amps - q.amps) * dx + (span - 1)) / span

/-- R30: the lookup at or above the first of the points that remain. -/
def curveFrom : CurvePoint → List CurvePoint → Int → Nat
  | p, [], _ => p.amps
  | p, q :: rest, t => if t < q.temp then interpolate p q t else curveFrom q rest t

/-- R30: curve(T). -/
def curveAt (curve : List CurvePoint) (t : Int) : Nat :=
  match curve with
  | [] => 0
  | p :: rest => if t ≤ p.temp then p.amps else curveFrom p rest t

/-! ### Inputs (R21) -/

/-- R21: the cable current of a proximity class. -/
def cableAmps : Option CableClass → Nat
  | some .a => 160
  | some .b => 200
  | some .c => 320
  | some .d => 500
  | some .invalid => 0
  | none => 0

/-- R21: the inputs as they stand. -/
def State.passInputs (s : State) : PassInputs :=
  let a := s.act.active
  { offered := s.inl.offered, cable := cableAmps s.inl.cls, ceiling := s.alc.ceiling,
    acMax := s.rqp.config.acMax, n := s.mtr.n, vph := s.mtr.vph, eff := s.rqp.config.eff,
    dcMax := s.rqp.config.dcMax, vbus := s.imon.vbus, temp := s.alc.repTemp, bms := s.alc.repBms,
    stale := s.alc.repStale, zones := s.hzc.zones.map fun z => ⟨z.state, z.demand⟩,
    share := s.alc.share, sevPos := s.imon.pos.severity, sevNeg := s.imon.neg.severity,
    acctExists := a.isSome, capReached := (a.map fun x => x.2.capReached).getD false,
    saturated := (a.map fun x => x.2.saturated).getD false, sup := s.rqp.sup,
    heatLimit := s.alc.heatLimit, allowanceZero := decide (s.hzc.allowance = 0),
    inlet := s.inl.state,
    nominal := decide (s.inl.state ≠ .drawing) && decide (s.mtr.n = 0) }

/-! ### Stages -/

/-- R21: n as Stages 1 to 7 use it. `wired` is the Configure phase count. -/
def PassInputs.nUsed (x : PassInputs) (wired : Nat) : Nat := if x.nominal then wired else x.n

/-- R21: V_ph as Stages 1 to 7 use it. -/
def PassInputs.vphUsed (x : PassInputs) : Nat := if x.nominal then Config.nominalVolts else x.vph

/-- R22: either pole at confirmed Fault. -/
def PassInputs.anyFault (x : PassInputs) : Bool :=
  decide (x.sevPos = .fault) || decide (x.sevNeg = .fault)

/-- R22: either pole at confirmed Warning. -/
def PassInputs.anyWarning (x : PassInputs) : Bool :=
  decide (x.sevPos = .warning) || decide (x.sevNeg = .warning)

/-- R22: the smallest of the four terms. -/
def PassInputs.leastLimit (x : PassInputs) : Nat :=
  min (min x.offered x.cable) (min x.ceiling x.acMax)

/-- R22: the limit after the insulation derate. -/
def PassInputs.derated (x : PassInputs) : Nat :=
  if x.anyFault then 0 else if x.anyWarning then x.leastLimit * 500 / 1000 else x.leastLimit

/-- R22: no live phase, and nominal AC not in use. -/
def PassInputs.noAc (x : PassInputs) : Bool := decide (x.n = 0) && !x.nominal

/-- R22: I_lim after Stage 1. -/
def PassInputs.iLim (x : PassInputs) : Nat :=
  if x.noAc then 0 else if x.derated < Config.minAmps then 0 else x.derated

/-- R22: the causes of Stage 1. -/
def PassInputs.causes1 (x : PassInputs) : CauseSet :=
  causeIf (decide (x.offered = x.leastLimit)) .offer ||| causeIf (decide (x.cable = x.leastLimit)) .cable |||
  causeIf (decide (x.ceiling = x.leastLimit)) .ceiling |||
  causeIf (decide (x.acMax = x.leastLimit)) .chargerAc |||
  causeIf (x.anyFault || x.anyWarning) .derate |||
  causeIf (decide (x.derated < Config.minAmps)) .belowMin ||| causeIf x.noAc .noAc

/-- R23, Stage 2: P_ac. -/
def PassInputs.pAc (x : PassInputs) (wired : Nat) : Nat := x.nUsed wired * x.vphUsed * x.iLim / 100

/-- R23: V_bus outside the charger window. -/
def PassInputs.busOut (x : PassInputs) : Bool :=
  decide (x.vbus < Config.busLow) || decide (Config.busHigh < x.vbus)

/-- R23: the AC term of the DC budget. -/
def PassInputs.acTerm (x : PassInputs) (wired : Nat) : Nat := x.pAc wired * x.eff / 1000

/-- R23: the DC term of the DC budget. -/
def PassInputs.dcTerm (x : PassInputs) : Nat := x.vbus * x.dcMax / 100

/-- R23, Stage 3: the DC budget before gating. -/
def PassInputs.budget (x : PassInputs) (wired : Nat) : Nat :=
  if x.busOut then 0 else min (x.acTerm wired) x.dcTerm

/-- R23: the causes of Stage 3. -/
def PassInputs.causes3 (x : PassInputs) (wired : Nat) : CauseSet :=
  if x.busOut then Cause.busRange.only else causeIf (decide (x.dcTerm ≤ x.acTerm wired)) .chargerDc

/-- R188: supervision stands Expired. -/
def PassInputs.supExpired (x : PassInputs) : Bool := decide (x.sup = .expired)

/-- R24: some condition of Stage 4 holds. -/
def PassInputs.gated (x : PassInputs) : Bool :=
  !x.acctExists || x.capReached || x.saturated || x.supExpired

/-- R24, Stage 4: P_dc. -/
def PassInputs.pDc (x : PassInputs) (wired : Nat) : Nat := if x.gated then 0 else x.budget wired

/-- R24: every condition that holds sets its cause. -/
def PassInputs.causes4 (x : PassInputs) : CauseSet :=
  causeIf (!x.acctExists) .noAccount ||| causeIf x.capReached .cap ||| causeIf x.saturated .saturated |||
  causeIf x.supExpired .supervision

/-- R25, R29: a zone's demand as a pass counts it. -/
def ZoneInput.asks (z : ZoneInput) : Nat := if z.state.asks then z.demand else 0

/-- R25: H_req. -/
def PassInputs.hReq (x : PassInputs) : Nat :=
  (fins 6).foldl (fun acc i => acc + (x.zones.get i).asks) 0

/-- R25: I_acc, of the curve's current at the reported temperature. -/
def PassInputs.iAcc (x : PassInputs) (curve : List CurvePoint) : Nat :=
  if x.stale then 0 else min (curveAt curve x.temp) x.bms

/-- R25: B_req. -/
def PassInputs.bReq (x : PassInputs) (curve : List CurvePoint) : Nat := x.vbus * x.iAcc curve / 100

/-- R26 step 1: the heat guarantee. -/
def heatGuarantee (hReq pDc share : Nat) : Nat := min hReq (pDc * share / 1000)

/-- R26 step 2: the battery grant. -/
def batteryGrant (bReq pDc hGuar : Nat) : Nat := min bReq (pDc - hGuar)

/-- R26 step 3: the heat grant. -/
def heatGrant (hReq pDc hGuar bGrant : Nat) : Nat := hGuar + min (hReq - hGuar) (pDc - hGuar - bGrant)

/-- Stages 1 to 6 as the prospective grid figures (R17). -/
def PassInputs.grid (x : PassInputs) (wired : Nat) (curve : List CurvePoint) : GridFigures :=
  let pDc := x.pDc wired
  let hGuar := heatGuarantee x.hReq pDc x.share
  let bGrant := batteryGrant (x.bReq curve) pDc hGuar
  { iLim := x.iLim, pAc := x.pAc wired, pDc := pDc, bGrant := bGrant,
    hGrant := heatGrant x.hReq pDc hGuar bGrant }

/-- R26: the battery's acceptance bounds B_grant. -/
def PassInputs.accepts (x : PassInputs) (wired : Nat) (curve : List CurvePoint) : Bool :=
  let pDc := x.pDc wired
  decide (0 < pDc) && decide (x.bReq curve ≤ pDc - heatGuarantee x.hReq pDc x.share)

/-- R27, Stage 7. -/
def chargerSetpoint (g : GridFigures) (vbus : Nat) : Nat :=
  if 0 < g.pDc then (g.bGrant + g.hGrant) * 100 / vbus else 0

/-- R28: the battery budget. -/
def PassInputs.batteryBudget (x : PassInputs) : Nat :=
  if x.allowanceZero || x.supExpired then 0 else x.heatLimit

/-- R28: H_grant with source battery. -/
def PassInputs.batteryHeat (x : PassInputs) : Nat := min x.hReq x.batteryBudget

/-- R28, R34: the budget of the figures in force of a pass. -/
def PassInputs.forceBudget (x : PassInputs) (wired : Nat) : Nat :=
  if x.inlet = .drawing then x.pDc wired else x.batteryBudget

/-- R29: the order in which zones are served: higher priority first, then lower zone number. -/
def serviceOrder (prio : Table 6 Nat) : List (Fin 6) :=
  [7, 6, 5, 4, 3, 2, 1, 0].flatMap fun p => (fins 6).filter fun i => decide (prio.get i = p)

/-- R29: each zone in its turn receives min(Q_z, remaining). -/
def handOut (demand : Fin 6 → Nat) : List (Fin 6) → Nat → Table 6 Nat → Table 6 Nat
  | [], _, grants => grants
  | z :: rest, left, grants =>
    handOut demand rest (left - min (demand z) left) (grants.set z (min (demand z) left))

/-- R29, Stage 9: the zone grants. -/
def PassInputs.zoneGrants (x : PassInputs) (prio : Table 6 Nat) (hGrant : Nat) : Table 6 Nat :=
  handOut (fun z => (x.zones.get z).asks) (serviceOrder prio) hGrant (Table.replicate 6 0)

/-- R28: the figures in force that the pass computes. -/
def PassInputs.figures (x : PassInputs) (wired : Nat) (curve : List CurvePoint) (prio : Table 6 Nat) :
    Figures :=
  if x.inlet = .drawing then
    let g := x.grid wired curve
    ⟨.grid, g.bGrant, g.hGrant, x.zoneGrants prio g.hGrant, chargerSetpoint g x.vbus⟩
  else ⟨.battery, 0, x.batteryHeat, x.zoneGrants prio x.batteryHeat, 0⟩

/-- R25 to R28: the causes of Stages 5, 6 and 8. HEAT_SHORT follows the H_grant of the figures in force. -/
def PassInputs.causes568 (x : PassInputs) (wired : Nat) (curve : List CurvePoint) : CauseSet :=
  causeIf x.stale .staleBattery ||| causeIf (x.accepts wired curve) .accept |||
  (if x.inlet = .drawing then causeIf (decide ((x.grid wired curve).hGrant < x.hReq)) .heatShort
   else
    causeIf x.allowanceZero .allowance ||| causeIf x.supExpired .supervision |||
    causeIf (decide (0 < x.batteryHeat)) .batterySource |||
    causeIf (decide (x.batteryHeat < x.hReq)) .heatShort)

/-- The cause set of a pass (section 2.7). -/
def PassInputs.causes (x : PassInputs) (wired : Nat) (curve : List CurvePoint) : CauseSet :=
  x.causes1 ||| x.causes3 wired ||| x.causes4 ||| x.causes568 wired curve

/-! ### The pass (R32 to R36) -/

/-- R34: whether a pass with these inputs is a safety pass, given the figures already in force. -/
def PassInputs.isSafety (x : PassInputs) (wired : Nat) (trigger : Bool) (force : Figures) : Bool :=
  trigger || decide (x.forceBudget wired < force.bGrant + force.hGrant) ||
  (decide (x.inlet ≠ .drawing) && decide (force.source = .grid))

/-- The zones' priorities, for Stage 9. -/
def State.priorities (s : State) : Table 6 Nat := s.hzc.zones.map Zone.priority

/-- The figures a pass taken now would put in force. -/
def State.passFigures (s : State) : Figures :=
  s.passInputs.figures s.rqp.config.wired s.alc.curve s.priorities

/-- The grid figures of a pass taken now. -/
def State.passGrid (s : State) : GridFigures := s.passInputs.grid s.rqp.config.wired s.alc.curve

/-- The causes of a pass taken now. -/
def State.passCauses (s : State) : CauseSet := s.passInputs.causes s.rqp.config.wired s.alc.curve

/-- R43: a Keep-Warm pass that brings the battery-sourced grant down, whatever brings it down (DEDUCED,
assumption 44). -/
def State.keepWarmFall (s : State) : Bool :=
  decide (s.pwc.state = .keepWarm) && decide (s.inl.state ≠ .drawing) &&
  decide (s.passInputs.batteryHeat < s.alc.force.hGrant)

/-- R34, R43: whether a pass taken now is a safety pass. -/
def State.passSafety (s : State) : Bool :=
  s.passInputs.isSafety s.rqp.config.wired s.work.safety s.alc.force || s.keepWarmFall

/-- R33: an ordinary pass with changed figures inside a Sample phase is held. -/
def State.passHeld (s : State) : Bool :=
  s.sampleOpen && !s.passSafety && decide (s.passFigures ≠ s.alc.force)

/-- R17, R35: every pass writes its inputs used, its prospective figures and its cause sets. -/
def State.recordPass (s : State) : State :=
  s.modAlc fun a =>
    { a with inputs := s.passInputs, grid := s.passGrid, causes := s.passCauses, prevCauses := a.causes }

/-- R10: in Drawing, applied figures with a grid grant above 0 clear the idle timer. -/
def Inlet.idleFollows (i : Inlet) (grant : Nat) : Inlet :=
  if 0 < grant then { i with idleMs := 0 } else i

/-- R32: the figures are put in force and handed on. -/
def State.applyFigures (f : Figures) (s : State) : State :=
  ((s.modAlc fun a => { a with force := f, chargerCmd := f.iChg }).modInl fun i =>
    i.idleFollows f.gridGrant).applyGrants f.zones

/-- R33, R34: what becomes of the figures of a pass: held, or applied. A safety pass clears the held-pass
flag; one that changes the figures in a Sample phase is told to IMON. -/
def State.takeFigures (f : Figures) (held safety : Bool) (s : State) : State :=
  if held then s.modAlc fun a => { a with held := true }
  else
    let s1 := if safety then s.modAlc fun a => { a with held := false } else s
    let s2 := if safety && s.sampleOpen && decide (f ≠ s.alc.force) then
        s1.modWork fun w => { w with changed := true } else s1
    s2.applyFigures f

/-- R35, R165: the Active account's sticky flags take the cause set. -/
def State.stickCauses (c : CauseSet) (s : State) : State :=
  match s.act.activeSlot with
  | none => s
  | some i => s.modAccount i fun a => { a with sticky := a.sticky ||| c }

/-- R36: new causes that the mask holds raise ALLOCATION. -/
def State.raiseCauses (s : State) : State :=
  let new := newCauses s.alc.causes s.alc.prevCauses s.alc.mask
  if new = 0 then s else s.raise .allocation (.causes new)

/-- One allocation pass, from inputs to completion (R17, R21 to R36, R8). The trigger and safety flags that
asked for it are taken up by it. -/
def State.pass (s : State) : State :=
  let s1 := s.recordPass.modWork fun w => { w with trigger := false, safety := false }
  let s2 := s1.takeFigures s.passFigures s.passHeld s.passSafety
  let s3 := (s2.stickCauses s.passCauses).raiseCauses
  s3.enableDecision s.passGrid.grant

end Sys2Proof.Machine
end

