-- ==== Sys2Proof/Machine/Quiet.lean ====
section
/-! DEFINITION. The ends of quiet windows (R52, R72, R73), and the passes that an event brings
(`State.settle`): R20, "a single event that brings several triggers runs one pass". -/

namespace Sys2Proof.Machine

/-- R33, R52, R72: what the end of a Sample phase brings at ALC and HZC, once IMON has left the phase. With
a held pass, ALC clears the flag and runs a fresh pass; the zones come in line with their flags. The order
of the two is open (DESIGN CHOICE, assumption 10): when the pass comes first, the zones' own trigger follows it. -/
def State.windowEnd (s : State) : State :=
  if s.alc.held then
    let s1 := s.modAlc fun a => { a with held := false }
    if s1.anyOutOfLine && s1.blocksRun then
      if Config.freshPassFirst s1.choices then s1.nextChoice.pass.zonesInLine
      else s1.nextChoice.trigger.zonesInLine
    else s1.trigger.zonesInLine
  else s.zonesInLine

/-- R73: the Settle phase of the same measurement. -/
def Cycle.restart : Cycle → Cycle
  | .baseSample => .baseSettle
  | .shiftSample => .shiftSettle
  | .idle => .idle
  | .baseSettle => .baseSettle
  | .shiftSettle => .shiftSettle

/-- R73: a discard report; it has no effect outside a Sample phase. -/
def State.discardSample (s : State) : State :=
  if s.sampleOpen then
    (s.modImon fun m =>
      { m with cycle := m.cycle.restart, phaseMs := 0, discards := min 255 (m.discards + 1), sumP := 0,
               sumN := 0, samples := 0 }).windowEnd
  else s

/-- The model's flags of the command in progress, cleared. -/
def State.clearWork (s : State) : State := { s with work := Work.clear }

/-- R51, R34: IMON takes up the reports of safety openings and of changed figures. -/
def State.takeReports (s : State) : State :=
  if s.work.opening || s.work.changed then
    (s.modWork fun w => { w with opening := false, changed := false }).discardSample
  else s

/-- The passes that an event has triggered, one after another: each pass may change the inlet state or a
zone's state, which triggers the next (R8, R20, R49). A trigger runs no pass in Starting, in Dormant or
during a resumption (R20, R199). `fuel` bounds their number (DEDUCED, assumption 15). -/
def State.passes : Nat → State → State
  | 0, s => s.clearWork
  | fuel + 1, s =>
    let s1 := s.takeReports
    if s1.work.trigger && s1.blocksRun then State.passes fuel s1.pass else s1.clearWork

/-- The end of an event: what it has reported and triggered is carried out. -/
def State.settle (s : State) : State := State.passes Config.passFuel s

/-! ### Cycles (R69, R71) -/

/-- R71: a cycle starts, in BaseSettle, and the period timer restarts. -/
def State.startCycle (s : State) : State :=
  s.modImon fun m =>
    { m with cycle := .baseSettle, phaseMs := 0, discards := 0, shifted := none, sumP := 0, sumN := 0,
             samples := 0, periodMs := 0 }

/-- R71: in Idle, with the period elapsed, the cycle starts at once. -/
def State.startCycleIfDue (s : State) : State :=
  if s.imon.cycle = .idle ∧ s.cyclePeriod ≤ s.imon.periodMs then s.startCycle else s

/-- The next phase begins with its timer at 0. -/
def State.enterPhase (c : Cycle) (s : State) : State :=
  s.modImon fun m => { m with cycle := c, phaseMs := 0, sumP := 0, sumN := 0, samples := 0 }

/-- The cycle ends: both switches open, the timer at 0. -/
def State.endCycle (s : State) : State :=
  s.modImon fun m =>
    { m with cycle := .idle, phaseMs := 0, shifted := none, sumP := 0, sumN := 0, samples := 0 }

end Sys2Proof.Machine
end

