-- ==== Sys2Proof/Machine/Faults.lean ====
section
/-! DEFINITION. The insulation fault table and the locating sequence (R85 to R97), and a taken stop
(R104 to R107, R114). -/

namespace Sys2Proof.Machine

/-! ### The fault table (R85 to R90) -/

/-- The slot that holds the record of an origin (R85: at most one). -/
def Insulation.recordOf (m : Insulation) (o : Origin) : Option (Fin 8) :=
  m.faults.find fun r => decide (r.map FaultRec.origin = some o)

/-- R85: the lowest-numbered Free slot. -/
def Insulation.freeSlot (m : Insulation) : Option (Fin 8) := m.faults.find Option.isNone

/-- One fault slot changed; a Free slot stays Free. -/
def State.modFault (i : Fin 8) (f : FaultRec → FaultRec) (s : State) : State :=
  s.modImon fun m => { m with faults := m.faults.modify i fun r => r.map f }

/-- R87, record Cleared or Resolved: the record becomes Active again. -/
def FaultRec.rearise (sev : Severity) (r now : Nat) (x : FaultRec) : FaultRec :=
  { x with state := .active, count := min 65535 (x.count + 1), last := now,
           highest := x.highest.worse sev, lowestR := min x.lowestR r }

/-- R88: the condition has worsened to Fault; an Acknowledged record returns to Active. -/
def FaultRec.escalate (r now : Nat) (x : FaultRec) : FaultRec :=
  { x with highest := .fault, last := now, lowestR := min x.lowestR r,
           state := if x.state = .acknowledged then .active else x.state }

/-- R89: a Compute at which the condition is present. -/
def FaultRec.seen (r now : Nat) (x : FaultRec) : FaultRec :=
  { x with lowestR := min x.lowestR r, last := now }

/-- R90: the condition disappears. -/
def FaultRec.disappear (x : FaultRec) : FaultRec :=
  { x with state := match x.state with
      | .active | .cleared => .cleared
      | .acknowledged | .resolved => .resolved }

/-- R87, no record: a new one in the lowest Free slot. -/
def State.newRecord (o : Origin) (sev : Severity) (r : Nat) (s : State) : State :=
  match s.imon.freeSlot with
  | none => s
  | some i =>
    s.modImon fun m =>
      { m with faults := m.faults.set i (some ⟨o, .active, sev, r, s.now, s.now, 1⟩) }

/-- R87: the condition of an origin has arisen at severity `sev` with resistance `r`. -/
def State.conditionArises (o : Origin) (sev : Severity) (r : Nat) (s : State) : State :=
  match s.imon.recordOf o with
  | none => s.newRecord o sev r
  | some i => s.modFault i (FaultRec.rearise sev r s.now)

/-- R88: a pole at Warning reaches Fault; with its record moved onto a zone, a new one is raised. -/
def State.conditionWorsens (o : Origin) (r : Nat) (s : State) : State :=
  match s.imon.recordOf o with
  | none => s.newRecord o .fault r
  | some i => s.modFault i (FaultRec.escalate r s.now)

/-- R90: the condition of an origin disappears. -/
def State.conditionEnds (o : Origin) (s : State) : State :=
  match s.imon.recordOf o with
  | none => s
  | some i => s.modFault i FaultRec.disappear

/-- R89: the record of a pole whose condition is present takes this cycle's resistance and time. -/
def State.conditionSeen (o : Origin) (r : Nat) (s : State) : State :=
  match s.imon.recordOf o with
  | none => s
  | some i => s.modFault i (FaultRec.seen r s.now)

/-- R91, R96: the detail of an insulation source is the slot of the record of an origin. -/
def State.raiseSlot (src : Source) (o : Origin) (s : State) : State :=
  s.raise src (.faultSlot ((s.imon.recordOf o).map Fin.val |>.getD 0))

/-! ### Locating (R92 to R97) -/

def State.modLoc (f : Locating → Locating) (s : State) : State :=
  s.modImon fun m => { m with loc := f m.loc }

/-- R93 steps 3 to 5: the first zone of the list that can be isolated becomes the current zone; the others
before it are skipped. `none` when no zone is left. -/
def State.isolateNext : List (Fin 6) → State → Option State
  | [], _ => none
  | z :: rest, s =>
    if (s.zone z).state.connected then
      some ((s.isolateZone z).modLoc fun l => { l with current := some z, candidates := rest })
    else State.isolateNext rest s

/-- R93 step 2: the zones whose contactors are closed, ascending. -/
def State.candidates (s : State) : List (Fin 6) :=
  (fins 6).filter fun z => (s.zone z).state.connected

/-- R93 step 1: the record of a sequence that starts. -/
def State.beginSequence (p : Pole) (s : State) : State :=
  s.modLoc fun l => { l with pole := some p, tried := 0, current := none, candidates := [] }

/-- R96: the record of a sequence that completes, and LOCATING_DONE for the record of `origin`. -/
def State.completeRecord (o : LocateOutcome) (origin : Origin) (s : State) : State :=
  (s.modLoc fun l =>
    { l with pole := none, current := none, candidates := [], outcome := o, origin := some origin,
             endTime := s.now }).raiseSlot .locatingDone origin

/-- R96: a deferred pole is cleared; if it still stands at Warning a sequence starts for it at once, and
completes at once when nothing can be isolated. -/
def State.takeDeferred (s : State) : State :=
  match s.imon.loc.deferred with
  | none => s
  | some p =>
    let s1 := s.modLoc fun l => { l with deferred := none }
    if (s1.imon.pole p).severity = .warning then
      let s2 := s1.beginSequence p
      match s2.isolateNext s2.candidates with
      | some s3 => s3
      | none => s2.completeRecord .notExplained (.pole p)
    else s1

/-- R96: a sequence completes, and a deferred pole takes its turn. -/
def State.completeSequence (o : LocateOutcome) (origin : Origin) (s : State) : State :=
  (s.completeRecord o origin).takeDeferred

/-- R93 steps 3 to 6: go on with the zones of a list, or complete as not explained. -/
def State.continueSequence (p : Pole) (list : List (Fin 6)) (s : State) : State :=
  match s.isolateNext list with
  | some s1 => s1
  | none => s.completeSequence .notExplained (.pole p)

/-- R92, R93: a request to start locating for a pole. -/
def State.requestLocating (p : Pole) (s : State) : State :=
  match s.imon.loc.pole with
  | none =>
    let s1 := s.beginSequence p
    s1.continueSequence p s1.candidates
  | some q => if q = p then s else s.modLoc fun l => { l with deferred := some p }

/-- R95, Merge: the zone record takes the pole record's content. The pole record's state is taken as it stands,
though it be Cleared or Resolved, which R95 does not foresee (DESIGN CHOICE, assumption 46). -/
def FaultRec.merge (now : Nat) (zone pole : FaultRec) : FaultRec :=
  { origin := zone.origin, state := pole.state, highest := zone.highest.worse pole.highest,
    lowestR := min zone.lowestR pole.lowestR, first := min zone.first pole.first, last := now,
    count := min 65535 (zone.count + pole.count) }

/-- R95: the record of pole `p` is moved onto zone `z`: re-keyed, or merged into the zone's record. When the
pole returned to Normal at this very Compute, R90 has ended its condition first, and the zone's record is Cleared
or Resolved (DESIGN CHOICE, assumption 46). -/
def State.moveRecord (p : Pole) (z : Fin 6) (s : State) : State :=
  match s.imon.recordOf (.pole p) with
  | none => s
  | some i =>
    match s.imon.faults.get i, s.imon.recordOf (.zone z) with
    | some rec, some j =>
      (s.modFault j fun x => x.merge s.now rec).modImon fun m => { m with faults := m.faults.set i none }
    | some _, none => s.modFault i fun x => { x with origin := .zone z, last := s.now }
    | none, _ => s

/-- R94: the current zone `z` of the sequence for pole `p` is judged by the pole's resistance. -/
def State.judge (p : Pole) (z : Fin 6) (r : Nat) (s : State) : State :=
  if s.imon.warnK ≤ r then
    ((s.insulationFault z).moveRecord p z).completeSequence .found (.zone z)
  else
    let s1 := (s.releaseZone z).modLoc fun l => { l with tried := l.tried + 1, current := none }
    s1.continueSequence p s1.imon.loc.candidates

/-- R97: a sequence is abandoned; its current zone is released first. -/
def State.abandonLocating (s : State) : State :=
  match s.imon.loc.current with
  | none => s.abandonRecord
  | some z => (s.releaseZone z).abandonRecord

/-- R90: both poles' conditions end, as at a no-bus ending, a port reset and Dormant entry. -/
def State.poleConditionsEnd (s : State) : State :=
  (s.conditionEnds (.pole .pos)).conditionEnds (.pole .neg)

/-! ### A stop (R104 to R107, R114) -/

/-- R105: the context of a stop, with the new epoch. -/
def State.stopContext (cause : StopCause) (epoch : Nat) (s : State) : Context :=
  { epoch := epoch, cause := cause, handle := s.act.activeHandle,
    enabled := s.hzc.zones.map Zone.enabled, targets := s.hzc.zones.map Zone.target,
    ceiling := s.alc.ceiling, share := s.alc.share, time := s.now }

/-- R105: past 65535 the epoch continues from 0. -/
def Stops.nextEpoch (u : Stops) : Nat := (u.epoch + 1) % 65536

/-- R105: the epoch advances; an empty bank is filled, a full one keeps its context and sets overflow. -/
def State.bankStop (cause : StopCause) (s : State) : State :=
  match s.stu.bank with
  | none =>
    s.modStu fun u =>
      { u with epoch := u.nextEpoch, bank := some (s.stopContext cause u.nextEpoch) }
  | some _ => s.modStu fun u => { u with epoch := u.nextEpoch, overflow := true }

/-- R105, R106, R114: a stop is taken whole. IMON releases the isolated zone before the zones go Off
(DEDUCED, assumption 12). Its pass, a safety pass, is left to `State.settle`. -/
def State.takeStop (cause : StopCause) (s : State) : State :=
  let banked := s.stu.bank.isNone
  let s1 := s.bankStop cause
  let s2 := s1.autoSuspend .stop .suspendedStop
  let s3 := s2.abandonLocating.zonesStop
  let s4 := s3.withdrawEnable
  (s4.raise .stop (.stop s4.stu.epoch cause banked)).triggerSafety

end Sys2Proof.Machine
end

