-- ==== Sys2Proof/Machine/Compute.lean ====
section
/-! DEFINITION. The insulation measurement's phases and its Compute (R68 to R79), and the no-bus ending
(R74). -/

namespace Sys2Proof.Machine

/-! ### Resistances (R75) -/

/-- R75: the resistance of S, the pole that is not shifted. -/
def resistanceS (uL0 uS0 uL1 uS1 : Nat) : Nat :=
  if uL1 = 0 then Config.maxKOhm
  else if uS1 * uL0 ≤ uS0 * uL1 then Config.maxKOhm
  else min Config.maxKOhm (Config.measuringKOhm * (uS1 * uL0 - uS0 * uL1) / (uL1 * uL0))

/-- R75: the resistance of L, from that of S. -/
def resistanceL (rS uL0 uS0 : Nat) : Nat :=
  if uS0 = 0 then Config.maxKOhm else min Config.maxKOhm (rS * uL0 / uS0)

/-- R75: R+ and R− of a cycle with shifted pole L. -/
def resistances (l : Pole) (uP0 uN0 uP1 uN1 : Nat) : Nat × Nat :=
  match l with
  | .pos => (resistanceL (resistanceS uP0 uN0 uP1 uN1) uP0 uN0, resistanceS uP0 uN0 uP1 uN1)
  | .neg => (resistanceS uN0 uP0 uN1 uP1, resistanceL (resistanceS uN0 uP0 uN1 uP1) uN0 uP0)

/-! ### Thresholds and grades (R76) -/

/-- R76: Ω/V on V_bus in 0.1 V gives kΩ. -/
def thresholdK (ohmPerVolt vbus : Nat) : Nat := ohmPerVolt * vbus / 10000

/-- R76: the return level. -/
def returnLevel (warnK : Nat) : Nat := warnK * 11 / 10

/-- R76: the class of a pole. -/
def gradeOf (r warnK faultK returnK : Nat) : Grade :=
  if r < faultK then .fault else if r < warnK then .warning else if r < returnK then .margin else .clear

/-! ### Confirmation (R77) -/

/-- R77, first table: the counts, each stopping at its upper value. -/
def PoleRec.count (g : Grade) (p : PoleRec) : PoleRec :=
  match g with
  | .fault => { p with grade := some g, warnCount := min 2 (p.warnCount + 1),
                       faultCount := min 2 (p.faultCount + 1), normalCount := 0 }
  | .warning => { p with grade := some g, warnCount := min 2 (p.warnCount + 1), faultCount := 0,
                         normalCount := 0 }
  | .margin => { p with grade := some g, warnCount := 0, faultCount := 0, normalCount := 0 }
  | .clear => { p with grade := some g, warnCount := 0, faultCount := 0,
                       normalCount := min 3 (p.normalCount + 1) }

/-- R77, second table: the severity after the counts have been updated; entering Normal from Warning or
Fault returns the normal count to 0. -/
def PoleRec.confirm (p : PoleRec) : PoleRec :=
  match p.severity with
  | .unknown =>
    if p.faultCount = 2 then { p with severity := .fault }
    else if p.warnCount = 2 then { p with severity := .warning }
    else if p.grade = some .margin ∨ p.grade = some .clear then { p with severity := .normal }
    else p
  | .normal =>
    if p.faultCount = 2 then { p with severity := .fault }
    else if p.warnCount = 2 then { p with severity := .warning }
    else p
  | .warning =>
    if p.faultCount = 2 then { p with severity := .fault }
    else if p.normalCount = 3 then { p with severity := .normal, normalCount := 0 }
    else p
  | .fault => if p.normalCount = 3 then { p with severity := .normal, normalCount := 0 } else p

/-- R77: one Compute on one pole. -/
def PoleRec.update (g : Grade) (p : PoleRec) : PoleRec := (p.count g).confirm

/-- R77: a pole is pending. -/
def PoleRec.pendingConfirm (p : PoleRec) : Bool :=
  (decide (p.warnCount = 1) && (decide (p.severity = .unknown) || decide (p.severity = .normal))) ||
  (decide (p.faultCount = 1) && decide (p.severity ≠ .fault))

/-! ### Handing on (R79, R87 to R91) -/

/-- R79, R87, R88, R90: the fault table takes a pole's change of severity. -/
def State.tableTakes (p : Pole) (before after : Severity) (r : Nat) (s : State) : State :=
  match before, after with
  | .unknown, .warning | .normal, .warning => s.conditionArises (.pole p) .warning r
  | .unknown, .fault | .normal, .fault => s.conditionArises (.pole p) .fault r
  | .warning, .fault => s.conditionWorsens (.pole p) r
  | .warning, .normal | .fault, .normal => s.conditionEnds (.pole p)
  | _, _ => s

/-- R89: after the update, a pole whose condition is present takes this cycle into its record. -/
def State.tableSees (p : Pole) (after : Severity) (r : Nat) (s : State) : State :=
  if after.raised then s.conditionSeen (.pole p) r else s

/-- R91: a pole newly at Warning raises INS_WARNING, newly at Fault INS_FAULT. -/
def State.raiseSeverity (p : Pole) (before after : Severity) (s : State) : State :=
  if before = after then s
  else match after with
    | .warning => s.raiseSlot .insWarning (.pole p)
    | .fault => s.raiseSlot .insFault (.pole p)
    | .unknown | .normal => s

/-- R79: a pole newly at Warning requests locating. -/
def State.locateSeverity (p : Pole) (before after : Severity) (s : State) : State :=
  if before ≠ after ∧ after = .warning then s.requestLocating p else s

/-- R79: a pole newly at Fault. -/
def newFault (before after : Severity) : Bool := decide (before ≠ after) && decide (after = .fault)

/-- Step 5 of a Compute (R94, R97): a new Fault abandons the sequence, before any judgement; otherwise the
zone that this cycle ran without is judged for the pole whose sequence isolated it. `ran` is that pole and
zone, from before the Compute. -/
def State.stepLocating (fault : Bool) (ran : Option (Pole × Fin 6)) (s : State) : State :=
  if fault then s.abandonLocating
  else match ran with
    | none => s
    | some (p, z) => s.judge p z (match p with | .pos => s.imon.rPos | .neg => s.imon.rNeg)

/-- R92: the sequence's pole with the zone isolated for the cycle in progress. -/
def Locating.running (l : Locating) : Option (Pole × Fin 6) :=
  match l.pole, l.current with
  | some p, some z => some (p, z)
  | _, _ => none

/-- Steps 4 and 5 of a Compute (R69, R79, R87 to R97), for the severities before it (`bp`, `bn`): the
table takes POS before NEG, the sources are raised, locating takes the requests to start, and then the
sequence is judged or abandoned. -/
def State.handOn (bp bn : Severity) (s : State) : State :=
  let ap := s.imon.pos.severity
  let an := s.imon.neg.severity
  let ran := s.imon.loc.running
  let s1 := (s.tableTakes .pos bp ap s.imon.rPos).tableSees .pos ap s.imon.rPos
  let s2 := (s1.tableTakes .neg bn an s.imon.rNeg).tableSees .neg an s.imon.rNeg
  let s3 := (s2.raiseSeverity .pos bp ap).raiseSeverity .neg bn an
  let s4 := if bp ≠ ap ∨ bn ≠ an then s3.trigger else s3
  let s5 := (s4.locateSeverity .pos bp ap).locateSeverity .neg bn an
  s5.stepLocating (newFault bp ap || newFault bn an) ran

/-- Steps 1 to 3 of a Compute (R75, R76, R77): resistances, thresholds, grades and severities. -/
def Insulation.evaluate (m : Insulation) (u1 n1 : Nat) : Insulation :=
  let r := resistances (m.shifted.getD .pos) m.uP0 m.uN0 u1 n1
  let warnK := thresholdK m.warnTh m.vbus
  let faultK := thresholdK m.faultTh m.vbus
  { m with uP1 := u1, uN1 := n1, rPos := r.1, rNeg := r.2, warnK := warnK, faultK := faultK,
           returnK := returnLevel warnK,
           pos := m.pos.update (gradeOf r.1 warnK faultK (returnLevel warnK)),
           neg := m.neg.update (gradeOf r.2 warnK faultK (returnLevel warnK)) }

/-- R71, at the end of a Compute: a pending pole or a new isolation (`current` present) starts the next
cycle at once; so does a period that has expired meanwhile. -/
def State.nextCycle (s : State) : State :=
  if s.imon.pos.pendingConfirm || s.imon.neg.pendingConfirm || s.imon.loc.current.isSome then s.startCycle
  else s.startCycleIfDue

/-- R79: the passes and the stop of a Compute. With a new Fault the order of the triggered pass and the
stop is open (DESIGN CHOICE, assumption 11), and each brings its own pass. -/
def State.passAndStop (fault : Bool) (s : State) : State :=
  if fault then
    if Config.passBeforeStop s.choices then (s.nextChoice.settle.takeStop .insulationFault).settle
    else (s.nextChoice.takeStop .insulationFault).settle.trigger.settle
  else s.settle

/-- R68: the mean of a Sample phase's readings of one pole, rounded down; a free value when none was taken
(DESIGN CHOICE, assumption 16). -/
def Insulation.mean (positive : Bool) (sum : Nat) (m : Insulation) : Nat :=
  if m.samples = 0 then Config.meanOfNone positive (decide (m.cycle = .shiftSample)) else sum / m.samples

def Insulation.meanP (m : Insulation) : Nat := m.mean true m.sumP
def Insulation.meanN (m : Insulation) : Nat := m.mean false m.sumN

/-- R70: the completion of BaseSample. -/
def Insulation.takeBase (m : Insulation) : Insulation :=
  { m with uP0 := m.meanP, uN0 := m.meanN, vbus := m.meanP + m.meanN,
           shifted := some (if m.meanN ≤ m.meanP then .pos else .neg),
           cycle := .shiftSettle, phaseMs := 0, sumP := 0, sumN := 0, samples := 0 }

/-- R70, R72: BaseSample completes; the window ends, and the new V_bus triggers a pass. -/
def State.completeBase (s : State) : State := ((s.modImon Insulation.takeBase).windowEnd).trigger

/-- R69, R75 to R79: ShiftSample completes; the window ends by completion and Compute is taken whole. -/
def State.completeShift (s : State) : State :=
  let u1 := s.imon.meanP
  let n1 := s.imon.meanN
  let l := s.imon.shifted
  let bp := s.imon.pos.severity
  let bn := s.imon.neg.severity
  let s1 := s.endCycle.windowEnd
  let s2 := s1.modImon fun m =>
    { { m with shifted := l }.evaluate u1 n1 with shifted := none, outcome := .measured, endTime := s.now }
  let s3 := (s2.handOn bp bn).nextCycle
  s3.passAndStop (newFault bp s2.imon.pos.severity || newFault bn s2.imon.neg.severity)

/-- R78: both poles Unknown with all counts 0 and no class. -/
def State.polesUnknown (s : State) : State :=
  s.modImon fun m => { m with pos := PoleRec.reset, neg := PoleRec.reset }

/-- R74: a reading whose sum is below 500 ends the cycle as no bus. The next cycle starts by period. -/
def State.noBus (up un : Nat) (s : State) : State :=
  let inWindow := s.sampleOpen
  let s1 := s.endCycle.modImon fun m =>
    { m with uP0 := up, uN0 := un, vbus := up + un, outcome := .noBus, endTime := s.now }
  let s2 := s1.polesUnknown.poleConditionsEnd.abandonLocating
  let s3 := if inWindow then s2.windowEnd else s2
  s3.startCycleIfDue.trigger

/-- R68: one reading of both poles, a value below 0 taken as 0. -/
def State.poleReading (up un : Nat) (s : State) : State :=
  if up + un < Config.noBusVolts then s.noBus up un
  else if s.sampleOpen then
    s.modImon fun m =>
      { m with sumP := m.sumP + up, sumN := m.sumN + un, samples := m.samples + 1 }
  else s

end Sys2Proof.Machine
end

