-- ==== Sys2Proof/Machine/Metering.lean ====
section
/-! DEFINITION. Quick readings (R118, R119), the meter tick (R120 to R124), the Unbilled register (R126),
tariffs at a tick (R133, R137 to R140), and what an account takes of a delivery (R159 to R164). -/

namespace Sys2Proof.Machine

/-! ### Quick readings -/

/-- R117, R118: a wired phase's quick reading; a phase that is not wired is carried at 0 and not live. -/
def phaseRec (wired : Bool) (p : PhaseReading) : PhaseRec :=
  if wired then ⟨p.volts, p.amps, p.watts, decide (Config.liveVolts ≤ p.volts)⟩ else PhaseRec.zero

/-- R117: with one wired phase, phases 2 and 3 are not wired. -/
def phaseRecs (wired : Nat) (f : FrontEnd) : Table 3 PhaseRec :=
  ⟨[phaseRec true f.phase1, phaseRec (decide (wired = 3)) f.phase2,
    phaseRec (decide (wired = 3)) f.phase3], rfl⟩

/-- R119: the number of live phases. -/
def liveCount (t : Table 3 PhaseRec) : Nat := (t.items.filter PhaseRec.live).length

/-- R119: the lowest RMS voltage among live phases, 0 when there is none. -/
def lowestLive (t : Table 3 PhaseRec) : Nat :=
  match (t.items.filter PhaseRec.live).map PhaseRec.volts with
  | [] => 0
  | v :: rest => rest.foldl min v

/-- R119, R9: a new n triggers a pass, and reaches INL when it leaves or reaches 0. -/
def State.countChanged (before : Nat) (s : State) : State :=
  if s.mtr.n = before then s
  else
    let s1 := s.trigger
    if before = 0 then s1.acAppears else if s.mtr.n = 0 then s1.acGone else s1

/-- R118, R119: one quick reading; the Configure phase count acts from here on (R191). -/
def State.readPhases (f : FrontEnd) (s : State) : State :=
  let t := phaseRecs s.rqp.config.wired f
  (s.modMtr fun m =>
    { m with phases := t, n := liveCount t, vph := lowestLive t,
             wired := s.rqp.config.wired }).countChanged s.mtr.n

/-- R121, R130: the integrals restart at 0. -/
def Meter.restart (m : Meter) : Meter := { m with integrals := Table.replicate 3 0, spanMs := 0 }

/-- R130: at a Park MTR stops; the readings, n and V_ph become 0. A change of n triggers a pass. -/
def State.stopMeter (s : State) : State :=
  (s.modMtr fun m =>
    { m with phases := Table.replicate 3 PhaseRec.zero, n := 0, vph := 0 }).countChanged s.mtr.n

/-! ### Energy registers -/

/-- R126, R159: joules added to a register of whole Wh and residue, with the carried Wh and whether the
register reached its maximum in this addition. -/
structure Carry where
  wh        : Nat
  joules    : Nat
  carried   : Nat
  saturates : Bool
  deriving DecidableEq, Repr

/-- R126, R159: whole Wh are carried out of the residue; the carry that reaches the maximum is the last, and
leaves a residue of 0. -/
def carryInto (wh joules add : Nat) : Carry :=
  let k := (joules + add) / Config.joulesPerWh
  if 0 < k ∧ Config.maxWh ≤ wh + k then ⟨Config.maxWh, 0, Config.maxWh - wh, true⟩
  else ⟨wh + k, (joules + add) % Config.joulesPerWh, k, false⟩

/-- R126: a delivery to the Unbilled register; at its maximum it takes nothing. -/
def Meter.addUnbilled (j : Nat) (m : Meter) : Meter :=
  if Config.maxWh ≤ m.unbilledWh then m
  else
    let c := carryInto m.unbilledWh m.unbilledJ j
    { m with unbilledWh := c.wh, unbilledJ := c.joules }

/-! ### Time and tariffs -/

/-- R133: the minute-of-day of a wall-seconds instant, 0–1439 also for a negative local time. -/
def minuteOfDay (s : Nat) (offset : Int) : Nat := (((s : Int) + 60 * offset) % 86400).toNat / 60

/-- R133: the interval index of a wall-seconds instant. -/
def intervalIndex (s : Nat) : Nat := s / Config.intervalSeconds

/-- R137: the price of the last band whose start minute is at or below the minute. -/
def bandPrice (bands : List TariffBand) (minute : Nat) : Nat :=
  bands.foldl (fun acc b => if b.start ≤ minute then b.price else acc) 0

def State.tariff (s : State) (i : Fin 8) : Tariff := s.tck.tariffs.get i

def State.modTariff (i : Fin 8) (f : Tariff → Tariff) (s : State) : State :=
  s.modTck fun c => { c with tariffs := c.tariffs.modify i f }

/-- R136: defined exactly when it has bands. -/
def Tariff.defined (t : Tariff) : Bool := !t.bands.isEmpty

/-- R138: a reference is taken. -/
def State.takeRef (i : Fin 8) (s : State) : State := s.modTariff i fun t => { t with refs := t.refs + 1 }

/-- R138: a reference is released. -/
def State.releaseRef (i : Fin 8) (s : State) : State := s.modTariff i fun t => { t with refs := t.refs - 1 }

/-- R138: the reference of a pending tariff, if any, is released. -/
def State.releasePending (p : Option (Fin 8)) (s : State) : State :=
  match p with
  | none => s
  | some b => s.releaseRef b

/-- R139: Open, Active and Suspended accounts take part in a switch. -/
def AcctState.switches : AcctState → Bool
  | .opened | .active | .suspended => true
  | .closed => false

/-- R139: the pending switch of the account in slot `i`, if it holds a pending tariff. -/
def State.switchSlot (s : State) (i : Fin 16) : State :=
  match (s.act.slots.get i).acct with
  | none => s
  | some a =>
    match a.pending with
    | none => s
    | some b =>
      if a.state.switches then
        ((s.modAccount i fun x => { x with tariff := b, pending := none }).releaseRef a.tariff).raise
          .tariff (.tariff (s.act.handle i) b)
      else s

/-- R139, R166: an interval crossing, in ascending slot order. -/
def State.switchTariffs (s : State) : State := (fins 16).foldl State.switchSlot s

/-! ### Taking a delivery (R159 to R164) -/

/-- R162: the inlet states in which a tick is idle. -/
def InletState.idles : InletState → Bool
  | .plugged | .offered | .ready => true
  | .unplugged | .drawing | .pausing | .faulted => false

/-- An amount added to a cost register that holds at its maximum (R161, R162). -/
def addCost (cost add : Nat) : Nat := min Config.maxCost (cost + add)

/-- R159, R160: total and heat energy. The heat taken is E_heat, or at most the kept energy K when the total
saturates in this delivery. -/
def Account.takeEnergy (total heat : Nat) (a : Account) : Account :=
  let c := carryInto a.totalWh a.totalJ total
  let kept := (c.wh * Config.joulesPerWh + c.joules) - (a.totalWh * Config.joulesPerWh + a.totalJ)
  let taken := if c.saturates then min heat kept else heat
  { a with totalWh := c.wh, totalJ := c.joules, satTotal := a.satTotal || c.saturates,
           hasDrawn := a.hasDrawn || decide (0 < total),
           heatWh := a.heatWh + (a.heatJ + taken) / Config.joulesPerWh,
           heatJ := (a.heatJ + taken) % Config.joulesPerWh }

/-- R159: the whole Wh that a delivery carries. -/
def Account.carried (total : Nat) (a : Account) : Nat := (carryInto a.totalWh a.totalJ total).carried

/-- R161: the carried Wh priced at the band price. -/
def Account.takePrice (carried price : Nat) (a : Account) : Account :=
  { a with costEnergy := addCost a.costEnergy (carried * price),
           satEnergy := a.satEnergy || decide (Config.maxCost < a.costEnergy + carried * price) }

/-- R162: a completed idle minute against the tariff's grace and fee. -/
def Account.idleMinute (fee grace : Nat) (a : Account) : Account :=
  if a.graceUsed < grace then { a with idleSec := 0, graceUsed := a.graceUsed + 1 }
  else { a with idleSec := 0, costIdle := addCost a.costIdle fee,
                satIdle := a.satIdle || decide (Config.maxCost < a.costIdle + fee),
                idleMin := min 65535 (a.idleMin + 1) }

/-- R162: one tick's idle count. -/
def Account.takeIdle (idle : Bool) (fee grace : Nat) (a : Account) : Account :=
  if idle && a.hasDrawn then
    if 60 ≤ a.idleSec + 1 then a.idleMinute fee grace else { a with idleSec := a.idleSec + 1 }
  else a

/-- R163: whether a cap is reached. -/
def Account.capMet (a : Account) : Bool :=
  (match a.energyCap with | some c => decide (c ≤ a.totalWh) | none => false) ||
  (match a.costCap with | some c => decide (c ≤ a.costEnergy + a.costIdle) | none => false)

/-- R163: CapReached as the caps and registers stand. -/
def Account.evalCaps (a : Account) : Account := { a with capReached := a.capMet }

/-- R159 to R163: a delivery, in order: energy, heat, price, idle, caps. -/
def Account.deliver (total heat : Nat) (price fee grace : Nat) (idle : Bool) (a : Account) : Account :=
  if a.satTotal then a
  else ((((a.takeEnergy total heat).takePrice (a.carried total) price).takeIdle idle fee grace).evalCaps)

/-- R163, R164, R167: a cap newly reached or a register newly saturated raises ACCOUNT and triggers a pass,
which is a safety pass. -/
def State.newlySet (before after : Bool) (h : Handle) (e : AcctEvent) (s : State) : State :=
  if after && !before then (s.raise .account (.account h e)).triggerSafety else s

/-- R159 to R164, R167: the account in slot `i` takes the delivery of the tick that ends at `t`; the
saturations are raised first and the cap second. -/
def State.deliverTo (i : Fin 16) (total heat t : Nat) (s : State) : State :=
  match (s.act.slots.get i).acct with
  | none => s
  | some a =>
    let tar := s.tariff a.tariff
    let price := bandPrice tar.bands (minuteOfDay (t - 1) s.tck.offset)
    let b := a.deliver total heat price tar.idleFee tar.grace s.inl.state.idles
    let h := s.act.handle i
    ((((s.modAccount i fun _ => b).newlySet a.satTotal b.satTotal h .totalSaturated).newlySet a.satEnergy
      b.satEnergy h .costEnergySaturated).newlySet a.satIdle b.satIdle h .costIdleSaturated).newlySet
      a.capReached b.capReached h .capReached

/-! ### The meter tick (R120 to R124) -/

/-- R121: an integral clamped to 0–20,000 J; a phase that is not wired gives 0. -/
def phaseJoules (wired : Bool) (j : Int) : Nat := if wired then min Config.maxPhaseJ j.toNat else 0

/-- R121: the three phase energies of a tick. -/
def Meter.energies (m : Meter) : Nat × Nat × Nat :=
  (phaseJoules true (m.integrals.get 0), phaseJoules (decide (m.wired = 3)) (m.integrals.get 1),
   phaseJoules (decide (m.wired = 3)) (m.integrals.get 2))

/-- R122: the heat share of a tick. -/
def State.heatShare (total : Nat) (s : State) : Nat :=
  let f := s.alc.force
  if s.inl.state = .drawing ∧ f.source = .grid ∧ 0 < f.bGrant + f.hGrant then
    total * f.hGrant / (f.bGrant + f.hGrant)
  else 0

/-- R124: the delivery, to the Active account or to the Unbilled register. -/
def State.deliver (total heat t : Nat) (s : State) : State :=
  match s.act.activeSlot with
  | some i => s.deliverTo i total heat t
  | none => s.modMtr (Meter.addUnbilled total)

/-- R120 to R124: the meter tick that ends at wall second `t`. -/
def State.meterTick (t : Nat) (s : State) : State :=
  let e := s.mtr.energies
  let total := e.1 + e.2.1 + e.2.2
  let heat := s.heatShare total
  let index := intervalIndex (t - 1)
  let crossing := decide (s.mtr.lastIndex ≠ some index)
  let rec' : TickRec :=
    { t := t, spanMs := s.mtr.spanMs, p1 := e.1, p2 := e.2.1, p3 := e.2.2, total := total, heat := heat,
      source := s.alc.force.source, bGrant := s.alc.force.bGrant, hGrant := s.alc.force.hGrant,
      target := s.act.activeHandle, index := index, crossing := crossing }
  let s1 := s.modMtr fun m => { m.restart with lastIndex := some index, last := some rec' }
  let s2 := if crossing then s1.switchTariffs else s1
  s2.deliver total heat t

/-! ### The wall clock (R131, R132) -/

/-- R121: the energy that flowed is added to the integrals while they run. -/
def Meter.integrate (e : PhaseEnergy) (m : Meter) : Meter :=
  { m with integrals := ⟨[m.integrals.get 0 + e.phase1, m.integrals.get 1 + e.phase2,
                          m.integrals.get 2 + e.phase3], rfl⟩ }

/-- R132, R120, R60: an advance of the wall clock to the next second: a meter tick where MTR runs, and the
allowance debit where HZC runs. -/
def State.advanceClock (s : State) : State :=
  let s1 := s.modTck fun c => { c with wall := c.wall + 1 }
  let s2 := if s1.meterRuns then s1.meterTick s1.tck.wall else s1
  if s2.blocksRun then s2.debitAllowance else s2

/-- R132: the second timer expires. At the clock's maximum no advance is taken (DESIGN CHOICE, assumption 13). -/
def State.secondExpires (e : PhaseEnergy) (s : State) : State :=
  let s1 := s.modTck fun c => { c with secondMs := 0 }
  let s2 := if s1.meterRuns then s1.modMtr (Meter.integrate e) else s1
  if s2.tck.wall < Config.maxWall then s2.advanceClock else s2

end Sys2Proof.Machine
end

