-- ==== Sys2Proof/Machine/Resets.lean ====
section
/-! DEFINITION. What the power states do to the blocks: port reset and supply reset (R16, R42, R65, R82,
R101, R115, R129, R143, R168, R179, R194, R200), the entry to Keep-Warm and Dormant (R197), wakes (R198,
R199), the ends of a resumption and of Starting (R195, R199), and the derivation of the inlet state (R16). -/

namespace Sys2Proof.Machine

/-! ### Proximity bands (R2) -/

/-- R2: the band of a proximity resistance; `none` is open. -/
def bandOf (ohms : Nat) : Option CableClass :=
  if 10000 ≤ ohms then none
  else if 2700 < ohms then some .invalid
  else if 1800 ≤ ohms then some .a
  else if 820 ≤ ohms then some .b
  else if 330 ≤ ohms then some .c
  else if 120 ≤ ohms then some .d
  else some .invalid

/-- R2: a reading lengthens the run of its band, or starts a new one. -/
def Inlet.countBand (b : Option CableClass) (i : Inlet) : Inlet :=
  if i.runBand = b then { i with runCount := min Config.bandRun (i.runCount + 1) }
  else { i with runBand := b, runCount := 1 }

/-! ### Port reset (R200) -/

/-- R16: the record is held Unplugged with the pilot fields, class and timers cleared. The accepted band, the
run of readings and the entry time, of which R16 is silent, are the model's (DESIGN CHOICE, assumption 25). -/
def Inlet.portReset (now : Nat) (i : Inlet) : Inlet :=
  { Inlet.reset with entryTime := if i.state = .unplugged then i.entryTime else now }

/-- R42. The allocation period timer and the staleness timer, of which R42 is silent, become 0 (DESIGN CHOICE,
assumption 25). -/
def Alloc.portReset (a : Alloc) : Alloc :=
  { a with repStale := true, staleMs := 0, inputs := PassInputs.zero, grid := GridFigures.zero,
           force := Figures.zero, causes := 0, prevCauses := 0, held := false, periodMs := 0,
           chargerCmd := 0 }

/-- R65: settings and temperature kept, enabled no; a Faulted zone stays Faulted with its reason. -/
def Zone.portReset (z : Zone) : Zone := z.stopped

/-- R82: the measurement state; thresholds, fault table and locating record are left to their own rules. The
sums of a Sample phase and the period timer, of which R82 is silent, become 0 (DESIGN CHOICE, assumption 25). -/
def Insulation.portReset (m : Insulation) : Insulation :=
  { Insulation.reset with warnTh := m.warnTh, faultTh := m.faultTh, faults := m.faults, loc := m.loc }

/-- R129: readings, n, V_ph and integrals 0; the last tick record, its index and the Unbilled register kept. The
covered time, of which R129 is silent, becomes 0 with the integrals (DESIGN CHOICE, assumption 25). -/
def Meter.portReset (m : Meter) : Meter :=
  { m.restart with phases := Table.replicate 3 PhaseRec.zero, n := 0, vph := 0 }

/-- R179: request flags and details cleared, floor stack empty; levels and IDs kept. A raise that an earlier
port reset still owes is kept (DESIGN CHOICE, assumption 43). -/
def Attention.portReset (a : Attention) : Attention :=
  { a with sources := a.sources.map fun r => { r with flag := false, detail := none }, stack := [] }

/-- R194: queue and last drop cleared, supervision disarmed; Configure kept. A transaction in progress is
not taken (R187). -/
def Port.portReset (p : Port) : Port :=
  { p with queue := [], dropReason := .none, dropTag := 0, sup := .disarmed, txn := none }

/-- R200: Starting, with the park parameters cleared; `causes` is the record with the reset's cause. -/
def Power.portReset (causes : ResetCauses) (sense : WakeSense) (p : Power) : Power :=
  { p with state := .starting, park := .none, wakeMin := 0, elapsedMin := 0, elapsedMs := 0,
           sense := sense, causes := causes, resuming := false }

/-- R155: at a port reset the Active account, if any, is Suspended. Its ACCOUNT raise follows at the end of
Starting (R179), so the line is released in between. -/
def State.suspendAtReset (s : State) : State :=
  match s.act.activeSlot with
  | none => s
  | some i => (s.suspendSlot i .portReset).modAtn fun a => { a with owed := some (s.act.handle i) }

/-- R155, R179: the ACCOUNT raise that a port reset left for the end of Starting. -/
def State.raiseOwed (s : State) : State :=
  match s.atn.owed with
  | none => s
  | some h => (s.modAtn fun a => { a with owed := none }).raise .account (.account h .suspendedPortReset)

/-- R200: a port reset. Every block takes its port-reset values, the request flags among them; the account
that was Active is Suspended. -/
def State.portReset (causes : ResetCauses) (s : State) : State :=
  let s1 := (s.abandonRecord.poleConditionsEnd).modImon Insulation.portReset
  let s2 := ((s1.modInl (Inlet.portReset s.now)).modAlc Alloc.portReset).modHzc fun h =>
    { h with zones := h.zones.map Zone.portReset }
  let s3 := ((s2.modStu fun u => { u with bank := none, overflow := false }).modMtr
    Meter.portReset).modAtn Attention.portReset
  let s4 := (s3.modRqp Port.portReset).modPwc (Power.portReset causes s.rqp.config.sense)
  s4.suspendAtReset.clearWork

/-- R200: a supply reset. What lies outside the part stays: the commands that wait and the level of the
reset pin; so does the model's count of choices (DESIGN CHOICE, assumptions 19, 23). -/
def State.supplyReset (s : State) : State :=
  { State.reset with pending := s.pending, choices := s.choices,
                     pwc := { Power.reset with pinLow := s.pwc.pinLow } }

/-! ### Parking (R196, R197) -/

/-- R196: the park parameters. -/
def Power.setPark (mode : ParkMode) (wakeMin : Nat) (sense : WakeSense) (p : Power) : Power :=
  { p with park := mode, wakeMin := wakeMin, elapsedMin := 0, elapsedMs := 0, sense := sense }

def State.setPower (st : PowerState) (s : State) : State := s.modPwc fun p => { p with state := st }

/-- The allocation period timer starts, and a pass runs at once (R19). -/
def State.startPasses (s : State) : State := (s.modAlc fun a => { a with periodMs := 0 }).trigger

/-- R197: entry to Keep-Warm from Active: MTR stops, the periods change, a pass runs at once. -/
def State.enterKeepWarm (s : State) : State :=
  (s.stopMeter.setPower .keepWarm).startPasses.startCycleIfDue

/-- R84: IMON at Dormant entry; the thresholds, the fault table and the locating record stay. The sums of a
Sample phase and the period timer, of which R84 is silent, become 0 (DESIGN CHOICE, assumption 25). -/
def Insulation.sleep (m : Insulation) : Insulation := m.portReset

/-- R197: entry to Dormant. Locating is abandoned with its zone released, a Sample phase in progress ends by
abandonment, then contactors open and the figures in force become battery and 0. A transaction in progress
is not taken (R187). No pass runs. -/
def State.enterDormant (s : State) : State :=
  let inWindow := s.sampleOpen
  let s1 := s.poleConditionsEnd.abandonLocating
  let s2 := s1.modImon Insulation.sleep
  let s3 := if inWindow then s2.zonesInLine else s2
  let s4 := s3.modHzc fun h => { h with zones := h.zones.map Zone.sleep }
  let s5 := s4.modAlc fun a => { a with force := Figures.zero, held := false, chargerCmd := 0 }
  ((s5.stopMeter.setPower .dormant).modRqp fun p => { p with txn := none }).clearWork

/-! ### Waking (R198, R199) -/

/-- R199: the park parameters are cleared at a wake. -/
def Power.unpark (p : Power) : Power :=
  { p with state := .active, park := .none, wakeMin := 0, elapsedMin := 0, elapsedMs := 0 }

/-- R199, R130: MTR restarts its integrals and takes its first quick reading. -/
def State.startMeter (f : FrontEnd) (s : State) : State := (s.modMtr Meter.restart).readPhases f

/-- R199: a wake. From Keep-Warm the stopped blocks resume at once; from Dormant the resumption begins. -/
def State.wake (cause : WakeCause) (f : FrontEnd) (s : State) : State :=
  let from_ := s.pwc.state
  let s1 := (s.modPwc Power.unpark).raise .wake (.wake cause from_)
  match from_ with
  | .keepWarm => (s1.startMeter f).startPasses.startCycleIfDue
  | .dormant => s1.modPwc fun p => { p with resuming := true }
  | .starting | .active => s1

/-- R199: the end of a resumption. -/
def State.endResumption (f : FrontEnd) (t : ZoneTemps) (s : State) : State :=
  let s1 := s.modPwc fun p => { p with resuming := false }
  let s2 := (s1.modHzc fun h => { h with zones := h.zones.map Zone.wake }).readZones t
  ((s2.startMeter f).startCycle).startPasses

/-! ### The end of Starting (R195, R16) -/

/-- R16: the state derived from a band and n. -/
def derivedState (band : Option CableClass) (n : Nat) : InletState :=
  match band with
  | none => .unplugged
  | some _ => if 0 < n then .pausing else .plugged

/-- R16: INL derives its state from a single reading; the band is accepted as it stands. -/
def State.deriveInlet (band : Option CableClass) (s : State) : State :=
  let s1 := s.modInl fun i => { i with cls := band, accepted := band, runBand := band, runCount := 1 }
  let s2 := s1.setInlet (derivedState band s.mtr.n)
  match band with
  | none => s2
  | some _ => s2.inletChanged

/-- R195: the end of Starting, one event; what a port reset left to raise is raised here (R179). -/
def State.endStarting (ohms : Nat) (f : FrontEnd) (t : ZoneTemps) (s : State) : State :=
  let s1 := (s.raiseOwed.setPower .active).startMeter f
  let s2 := s1.deriveInlet (bandOf ohms)
  (s2.readZones t).startCycle.startPasses

end Sys2Proof.Machine
end

