-- ==== Sys2Proof/Machine/Queue.lean ====
section
/-! DEFINITION. The request queue (R181 to R187): transactions, admission, drops, and the execution of the
oldest request. -/

namespace Sys2Proof.Machine

/-! ### Execution (R184, R185) -/

/-- The oldest request awaiting execution: tag, code and payload (R184). -/
def nextRequest : List Item → Option (Nat × Byte × List Byte)
  | [] => none
  | .request tag code payload :: _ => some (tag, code, payload)
  | .response _ _ _ :: rest => nextRequest rest

/-- R184: the oldest request is replaced by its response, which carries its tag. -/
def answerOldest (r : Reply) : List Item → List Item
  | [] => []
  | .request tag _ _ :: rest => .response tag r.status r.payload :: rest
  | .response tag st payload :: rest => .response tag st payload :: answerOldest r rest

def State.answer (r : Reply) (s : State) : State :=
  s.modRqp fun p => { p with queue := answerOldest r p.queue }

/-- The payload of the request that a request command executes: that of the oldest request awaiting
execution, when the port runs and its code is the command's. -/
def State.queued (codes : Byte → Bool) (s : State) : Option (List Byte) :=
  match nextRequest s.rqp.queue with
  | some (_, code, payload) => if s.portRuns && codes code then some payload else none
  | none => none

/-- R185: a request in Starting is refused with NOT_READY; otherwise its owner takes it. When the oldest
request is not the command's, nothing happens (DESIGN CHOICE, assumption 4). -/
def State.runRequest (codes : Byte → Bool) (owner : List Byte → State → State × Reply) (s : State) :
    State :=
  match s.queued codes with
  | none => s
  | some payload =>
    if s.pwc.state = .starting then s.answer (Reply.bare .notReady)
    else
      let r := owner payload s
      r.1.answer r.2

/-- The codes of one request. -/
def isCode (c : Byte) : Byte → Bool := fun x => decide (x = c)

/-- R185: a request whose entry takes no payload refuses any other with LENGTH. -/
def noPayload (owner : State → State × Reply) (payload : List Byte) (s : State) : State × Reply :=
  if payload.length = 0 then owner s else (s, Reply.bare .length)

/-- A request that only reports. -/
def report (f : State → List Byte) (s : State) : State × Reply := (s, ⟨.ok, f s⟩)

/-- A refusal changes nothing (R185). -/
def refuse (st : Status) (s : State) : State × Reply := (s, Reply.bare st)

/-- A request that carries one byte, whose value is checked before the length, as its entry gives them
(R185; DEDUCED, assumption 8). -/
def oneByte (limit : Nat) (owner : Nat → State → State × Reply) (payload : List Byte) (s : State) :
    State × Reply :=
  match payload with
  | [] => refuse .length s
  | b :: rest =>
    if limit < b.toNat then refuse .range s
    else if rest.length = 0 then owner b.toNat s
    else refuse .length s

/-- The zone that a zone number names: 1 to 6. -/
def zoneOf (n : Nat) : Option (Fin 6) := if h : 1 ≤ n ∧ n ≤ 6 then some ⟨n - 1, by omega⟩ else none

/-- The record that an index 0 to 7 names: a fault slot or a tariff. -/
def slotOf8 (n : Nat) : Option (Fin 8) := if h : n < 8 then some ⟨n, h⟩ else none

/-! ### Transactions (R182, R183) -/

/-- R182: the transaction that starts now. -/
def State.outgoing (s : State) : Transaction :=
  let st := statusByte s.rqp s.atn.line
  match s.rqp.queue with
  | .response tag status payload :: _ => ⟨responseFrame st tag status payload, true⟩
  | .request _ _ _ :: _ => ⟨emptyFrame st, false⟩
  | [] => ⟨emptyFrame st, false⟩

/-- R183 step 1: a carried response leaves the queue when all 64 bytes were clocked. -/
def Port.collect (carries : Bool) (clocked : List Byte) (p : Port) : Port :=
  if carries ∧ 64 ≤ clocked.length then { p with queue := p.queue.drop 1 } else p

/-- R183 step 2: the status byte was clocked out, and with it any drop. -/
def Port.dropShown (p : Port) : Port := { p with dropReason := .none }

/-- R183, R184: a dropped frame. -/
def Port.drop (r : DropReason) (tag : Nat) (p : Port) : Port := { p with dropReason := r, dropTag := tag }

/-- R184: admission, or a drop with reason BUSY. -/
def Port.enqueue (tag : Nat) (code : Byte) (payload : List Byte) (p : Port) : Port :=
  if p.queue.length < Config.queueLimit then { p with queue := p.queue ++ [.request tag code payload] }
  else p.drop .busy tag

/-- R183 steps 3 to 5: the check of the frame, a poll, or admission. -/
def Port.takeFrame (clocked : List Byte) (p : Port) : Port :=
  if frameOk clocked then
    if frameCode clocked = 0 then p
    else p.enqueue (frameTag clocked) (frameCode clocked) (framePayload clocked)
  else p.drop .frame (frameTag clocked)

/-- R183: the end of a transaction; one in which no byte is clocked changes nothing. -/
def Port.endTransaction (carries : Bool) (clocked : List Byte) (p : Port) : Port :=
  if clocked.length = 0 then { p with txn := none }
  else ({ ((p.collect carries clocked).dropShown).takeFrame clocked with txn := none })

end Sys2Proof.Machine
end

