-- ==== Sys2Proof/Machine/AccountCommands.lean ====
section
/-! DEFINITION. The account table's commands (R147 to R158). -/

namespace Sys2Proof.Machine

/-- The account in slot `i`, none when the slot is Free. -/
def State.account (s : State) (i : Fin 16) : Option Account := (s.act.slots.get i).acct

/-- 13.3: 0 is Free. -/
def acctCode : Option Account → Nat
  | none => 0
  | some a => a.state.code

/-- A handle with the state of its account, as R148, R149 and R150 report it. -/
def standing (i : Fin 16) (s : State) : List Byte :=
  (s.act.handle i).bytes ++ be 1 (acctCode (s.account i))

/-- The slot that a slot number names. -/
def slotOf16 (n : Nat) : Option (Fin 16) := if h : n < 16 then some ⟨n, h⟩ else none

/-- R147: the checks of a request that carries a handle, in order: length, slot, generation, Free. `free` is
the payload with which a Free slot is refused (DEDUCED, assumption 37). -/
def withHandle (length : Nat) (free : List Byte)
    (owner : Fin 16 → Account → List Byte → State → State × Reply) (p : List Byte) (s : State) :
    State × Reply :=
  if p.length = length then
    match slotOf16 (field p 0 1) with
    | none => refuse .range s
    | some i =>
      if field p 1 1 ≠ (s.act.slots.get i).gen then (s, ⟨.stale, be 1 (s.act.slots.get i).gen⟩)
      else match s.account i with
        | none => (s, ⟨.state, free⟩)
        | some a => owner i a p s
  else refuse .length s

/-! ### Open, Find, List, Read (R148 to R151) -/

/-- R148, R152: a cap of a request: present by its bit, clamped to its range in R145. -/
def capField (p : List Byte) (present : Bool) (limit off w : Nat) : Option Nat :=
  if present then some (min limit (field p off w)) else none

/-- R144: the slot of the non-Free account that carries a token. -/
def Accounts.holder (t : Accounts) (token : Nat) : Option (Fin 16) :=
  t.slots.find fun sl => decide (sl.acct.map Account.token = some token)

/-- R144: the lowest-numbered Free slot. -/
def Accounts.freeSlot (t : Accounts) : Option (Fin 16) := t.slots.find fun sl => sl.acct.isNone

/-- R148: the account as Open fills its slot, before CapReached is evaluated. -/
def Account.fresh (token : Nat) (tariff : Fin 8) (ecap ccap : Option Nat) (now : Nat) : Account :=
  { state := .opened, token := token, tariff := tariff, pending := none, energyCap := ecap,
    costCap := ccap, totalWh := 0, totalJ := 0, heatWh := 0, heatJ := 0, costEnergy := 0, costIdle := 0,
    idleSec := 0, idleMin := 0, graceUsed := 0, hasDrawn := false, sticky := 0, capReached := false,
    satTotal := false, satEnergy := false, satIdle := false, reason := none, opened := now,
    firstActive := none, closed := none, statement := none }

/-- The caps as a response reports them: 0 where absent. -/
def capBytes (a : Account) : List Byte := optBytes 4 a.energyCap ++ optBytes 6 a.costCap

/-- 13.5: the response of an accepted Open. -/
def openImage (i : Fin 16) (a : Account) (s : State) : List Byte :=
  (s.act.handle i).bytes ++ be 1 (bitIf a.energyCap.isSome 0 + bitIf a.costCap.isSome 1) ++ capBytes a

/-- R148: slot `i` filled with a new account. -/
def State.fillSlot (i : Fin 16) (a : Account) (s : State) : State :=
  s.modAct fun t => { t with slots := t.slots.modify i fun sl => { sl with acct := some a } }

/-- R148: the account that an Open Account payload describes. -/
def openedAccount (p : List Byte) (tariff : Fin 8) (now : Nat) : Account :=
  (Account.fresh (field p 0 8) tariff (capField p (fieldBit p 9 0) Config.maxWh 10 4)
    (capField p (fieldBit p 9 1) Config.maxCost 14 6) now).evalCaps

/-- R148: the checks in the entry's order. -/
def ownOpenAccount (p : List Byte) (s : State) : State × Reply :=
  if p.length = 20 then
    if field p 0 8 = 0 then refuse .range s
    else match slotOf8 (field p 8 1) with
      | none => refuse .range s
      | some tariff =>
        match s.act.holder (field p 0 8) with
        | some j => (s, ⟨.duplicate, standing j s⟩)
        | none =>
          match s.act.freeSlot with
          | none => refuse .full s
          | some i =>
            if (s.tariff tariff).defined then
              let a := openedAccount p tariff s.now
              ((s.fillSlot i a).takeRef tariff, ⟨.ok, openImage i a s⟩)
            else refuse .state s
  else refuse .length s

/-- OPEN_ACCOUNT (R148). -/
def execOpenAccount (s : State) : Host.Outcome State Fault Refusal :=
  .next (s.runRequest (isCode 0x48) ownOpenAccount)

/-- R149. -/
def ownFindAccount (p : List Byte) (s : State) : State × Reply :=
  if p.length = 8 then
    if field p 0 8 = 0 then refuse .range s
    else match s.act.holder (field p 0 8) with
      | some j => report (standing j) s
      | none => refuse .notFound s
  else refuse .length s

/-- FIND_ACCOUNT (R149). -/
def execFindAccount (s : State) : Host.Outcome State Fault Refusal :=
  .next (s.runRequest (isCode 0x49) ownFindAccount)

/-- R150: the non-Free slots, ascending. -/
def State.usedSlots (s : State) : List (Fin 16) := (fins 16).filter fun i => (s.account i).isSome

/-- R150, 13.5. -/
def accountList (s : State) : List Byte :=
  be 1 s.usedSlots.length ++ s.usedSlots.flatMap fun i => standing i s

/-- LIST_ACCOUNTS (R150). -/
def execListAccounts (s : State) : Host.Outcome State Fault Refusal :=
  .next (s.runRequest (isCode 0x4A) (noPayload (report accountList)))

/-- R151, 13.5: part 0. -/
def accountPart0 (i : Fin 16) (a : Account) (s : State) : List Byte :=
  standing i s ++ be 8 a.token ++ be 1 a.tariff.val ++ optBytes 1 (a.pending.map Fin.val) ++
  be 1 (bitIf a.pending.isSome 0 + bitIf a.energyCap.isSome 1 + bitIf a.costCap.isSome 2 +
    bitIf a.firstActive.isSome 3 + bitIf a.closed.isSome 4 + bitIf a.reason.isSome 5) ++
  capBytes a ++ be 1 (reasonCode a.reason) ++ be 4 a.opened ++ optBytes 4 a.firstActive ++
  optBytes 4 a.closed ++
  be 1 (bitIf a.hasDrawn 0 + bitIf a.capReached 1 + bitIf a.saturated 2 + bitIf a.satTotal 3 +
    bitIf a.satEnergy 4 + bitIf a.satIdle 5)

/-- R151, 13.5: part 1; the statement's energies, idle minutes and flags are the frozen registers. -/
def accountPart1 (a : Account) : List Byte :=
  be 4 a.totalWh ++ be 2 a.totalJ ++ be 4 a.heatWh ++ be 2 a.heatJ ++ be 6 a.costEnergy ++
  be 6 a.costIdle ++ be 1 a.idleSec ++ be 2 a.idleMin ++ be 1 a.graceUsed ++ causeBytes a.sticky ++
  flagByte a.statement.isSome ++ optBytes 4 (a.statement.map Statement.rounded) ++
  optBytes 4 (a.statement.map Statement.closed)

/-- R151. -/
def ownReadAccount (i : Fin 16) (a : Account) (p : List Byte) (s : State) : State × Reply :=
  if field p 2 1 = 0 then report (accountPart0 i a) s
  else if field p 2 1 = 1 then report (fun _ => accountPart1 a) s
  else refuse .range s

/-- READ_ACCOUNT (R151). -/
def execReadAccount (s : State) : Host.Outcome State Fault Refusal :=
  .next (s.runRequest (isCode 0x4B) (withHandle 3 [] ownReadAccount))

/-! ### Amend (R152) -/

/-- R152, R138: the pending tariff of an account changes from `before` to `after`; none when TCK refuses the
reference on an Undefined tariff. -/
def State.amendRefs (before after : Option (Fin 8)) (s : State) : Option State :=
  if before = after then some s
  else match after with
    | none => some (s.releasePending before)
    | some b => if (s.tariff b).defined then some ((s.takeRef b).releasePending before) else none

/-- R152: the account as an accepted Amend leaves it. -/
def Account.amend (p : List Byte) (pending : Option (Fin 8)) (a : Account) : Account :=
  { a with pending := pending, energyCap := capField p (fieldBit p 2 1) Config.maxWh 4 4,
           costCap := capField p (fieldBit p 2 2) Config.maxCost 8 6 }.evalCaps

/-- 13.5: the response of an accepted Amend. -/
def amendImage (a : Account) : List Byte :=
  be 1 (bitIf a.pending.isSome 0 + bitIf a.energyCap.isSome 1 + bitIf a.costCap.isSome 2) ++
  optBytes 1 (a.pending.map Fin.val) ++ capBytes a ++ flagByte a.capReached

/-- R152: the pass of an Amend of the Active account that changes CapReached: a cap newly reached gives a
safety pass, and a cap cleared an ordinary one. -/
def State.capChange (before after : Bool) (s : State) : State :=
  if after = before then s else if after then s.triggerSafety else s.trigger

/-- R152: an Amend that asks for the pending tariff `pending`. -/
def amendTo (pending : Option (Fin 8)) (i : Fin 16) (a : Account) (p : List Byte) (s : State) :
    State × Reply :=
  if a.state = .closed then refuse .state s
  else match s.amendRefs a.pending pending with
    | none => refuse .state s
    | some s1 =>
      let b := a.amend p pending
      let s2 := s1.modAccount i fun _ => b
      let s3 := if a.state = .active then s2.capChange a.capReached b.capReached else s2
      (s3.settle, ⟨.ok, amendImage b⟩)

/-- R152: a pending index above 7 is refused first; an absent one is ignored (R203). -/
def ownAmendAccount (i : Fin 16) (a : Account) (p : List Byte) (s : State) : State × Reply :=
  if fieldBit p 2 0 then
    match slotOf8 (field p 3 1) with
    | none => refuse .range s
    | some b => amendTo (some b) i a p s
  else amendTo none i a p s

/-- AMEND_ACCOUNT (R152). -/
def execAmendAccount (s : State) : Host.Outcome State Fault Refusal :=
  .next (s.runRequest (isCode 0x4C) (withHandle 14 [] ownAmendAccount))

/-! ### Activate, Suspend, Close, Retire (R153 to R158) -/

/-- R153: Open and Suspended accounts can be activated. -/
def AcctState.activatable : AcctState → Bool
  | .opened | .suspended => true
  | .active | .closed => false

/-- R153: the first condition that fails, coded as 13.3 gives; 0 when all hold. -/
def State.activateFailure (a : Account) (s : State) : Nat :=
  if a.state.activatable = false then 1
  else if s.inl.state = .unplugged then 2
  else if s.act.activeSlot.isSome then 3
  else if s.tck.isSet = false then 4
  else if s.rqp.configured = false then 5
  else if (s.tariff a.tariff).defined = false then 6
  else 0

/-- R153. -/
def ownActivateAccount (i : Fin 16) (a : Account) (_p : List Byte) (s : State) : State × Reply :=
  if s.activateFailure a = 0 then
    ((s.activateSlot i).settle,
      ⟨.ok, (s.act.handle i).bytes ++ flagByte a.capReached ++ flagByte a.saturated⟩)
  else (s, ⟨.state, be 1 (s.activateFailure a)⟩)

/-- ACTIVATE_ACCOUNT (R153). A Free slot fails the first condition (DEDUCED, assumption 37). -/
def execActivateAccount (s : State) : Host.Outcome State Fault Refusal :=
  .next (s.runRequest (isCode 0x4D) (withHandle 2 (be 1 1) ownActivateAccount))

/-- R154. -/
def ownSuspendAccount (i : Fin 16) (a : Account) (_p : List Byte) (s : State) : State × Reply :=
  if a.state = .active then
    ((s.suspendSlot i .request).settle,
      ⟨.ok, (s.act.handle i).bytes ++ be 1 (reasonCode (some .request))⟩)
  else refuse .state s

/-- SUSPEND_ACCOUNT (R154). -/
def execSuspendAccount (s : State) : Host.Outcome State Fault Refusal :=
  .next (s.runRequest (isCode 0x4E) (withHandle 2 [] ownSuspendAccount))

/-- R157: halves round up. -/
def roundedCost (cost : Nat) : Nat := (cost + 5000) / 10000

/-- R157: the statement formed from the registers as they stand. -/
def Account.form (now : Nat) (a : Account) : Statement :=
  { rounded := roundedCost (a.costEnergy + a.costIdle), totalWh := a.totalWh, totalJ := a.totalJ,
    heatWh := a.heatWh, heatJ := a.heatJ, idleMin := a.idleMin, sticky := a.sticky, closed := now }

/-- R156: the account as Close leaves it; the idle seconds of an incomplete minute are dropped
(DEDUCED, assumption 38). -/
def Account.close (now : Nat) (a : Account) : Account :=
  { a with state := .closed, reason := none, closed := some now, pending := none, idleSec := 0,
           statement := some (a.form now) }

/-- 13.5: the response of an accepted Close. -/
def statementImage (st : Statement) : List Byte :=
  be 4 st.rounded ++ be 4 st.totalWh ++ be 2 st.totalJ ++ be 4 st.heatWh ++ be 2 st.heatJ ++
  be 2 st.idleMin ++ causeBytes st.sticky ++ be 4 st.closed

/-- R156: Close of the account in slot `i`. -/
def State.closeSlot (i : Fin 16) (a : Account) (s : State) : State :=
  let s1 := (s.modAccount i fun x => x.close s.now).releasePending a.pending
  if a.state = .active then s1.leaveActive else s1

/-- R156. -/
def ownCloseAccount (i : Fin 16) (a : Account) (_p : List Byte) (s : State) : State × Reply :=
  if a.state = .closed then refuse .state s
  else
    ((s.closeSlot i a).settle,
      ⟨.ok, (s.act.handle i).bytes ++ statementImage (a.form s.now)⟩)

/-- CLOSE_ACCOUNT (R156, R157). -/
def execCloseAccount (s : State) : Host.Outcome State Fault Refusal :=
  .next (s.runRequest (isCode 0x4F) (withHandle 2 [] ownCloseAccount))

/-- R144: the slot returned to Free, its generation advanced; past 255 it continues from 0. -/
def Slot.retire (sl : Slot) : Slot := ⟨(sl.gen + 1) % 256, none⟩

/-- R158: Retire of the account in slot `i`. -/
def State.retireSlot (i : Fin 16) (a : Account) (s : State) : State :=
  (s.modAct fun t => { t with slots := t.slots.modify i Slot.retire }).releaseRef a.tariff

/-- R158. -/
def ownRetireAccount (i : Fin 16) (a : Account) (_p : List Byte) (s : State) : State × Reply :=
  if a.state = .closed then
    let t := s.retireSlot i a
    (t, ⟨.ok, (t.act.handle i).bytes⟩)
  else refuse .state s

/-- RETIRE_ACCOUNT (R158). -/
def execRetireAccount (s : State) : Host.Outcome State Fault Refusal :=
  .next (s.runRequest (isCode 0x50) (withHandle 2 [] ownRetireAccount))

end Sys2Proof.Machine
end

