-- ==== Sys2Proof/Machine/AttentionCommands.lean ====
section
/-! DEFINITION. The attention arbiter's commands (R174 to R177). -/

namespace Sys2Proof.Machine

/-- 13.5: the floor, the stack depth and the flagged sources; `line` where the image carries the line. -/
def floorImage (line : List Byte) (a : Attention) : List Byte :=
  be 1 a.floor ++ be 1 a.stack.length ++ line ++ be 2 a.flagged

/-- R174: the winner's flag is cleared and its level pushed. -/
def Attention.take (i : Fin 11) (a : Attention) : Attention :=
  { a with
    sources := a.sources.modify i fun r => { r with flag := false },
    stack := (a.sources.get i).level :: a.stack }

/-- 13.5: the response of an accepted Take. -/
def takeImage (i : Fin 11) (r : SourceRec) (a : Attention) : List Byte :=
  be 1 i.val ++ be 1 r.level ++ be 1 r.id ++ detailBytes r.detail ++ floorImage [] a

/-- R174: the checks in the entry's order, after the length. -/
def ownTakeAttention (s : State) : State × Reply :=
  if Config.stackLimit ≤ s.atn.stack.length then (s, ⟨.state, floorImage [] s.atn⟩)
  else match s.atn.winner with
    | none => (s, ⟨.none, floorImage [] s.atn⟩)
    | some i =>
      let t := s.modAtn (Attention.take i)
      (t, ⟨.ok, takeImage i (s.atn.sources.get i) t.atn⟩)

/-- TAKE_ATTENTION (R174). -/
def execTakeAttention (s : State) : Host.Outcome State Fault Refusal :=
  .next (s.runRequest (isCode 0x58) (noPayload ownTakeAttention))

/-- R175. -/
def ownReleaseAttention (s : State) : State × Reply :=
  match s.atn.stack with
  | [] => refuse .state s
  | _ :: below =>
    let t := s.modAtn fun a => { a with stack := below }
    (t, ⟨.ok, floorImage (flagByte t.atn.line) t.atn⟩)

/-- RELEASE_ATTENTION (R175). -/
def execReleaseAttention (s : State) : Host.Outcome State Fault Refusal :=
  .next (s.runRequest (isCode 0x59) (noPayload ownReleaseAttention))

/-- The source that an index names. -/
def sourceOf (n : Nat) : Option (Fin 11) := if h : n < 11 then some ⟨n, h⟩ else none

/-- R177: a source's level and arbitration ID written. -/
def State.writeSource (i : Fin 11) (level id : Nat) (s : State) : State :=
  s.modAtn fun a => { a with sources := a.sources.modify i fun r => { r with level := level, id := id } }

/-- 13.5. -/
def sourceImage (i : Fin 11) (r : SourceRec) : List Byte :=
  be 1 i.val ++ be 1 r.level ++ be 1 r.id ++ flagByte r.flag ++ flagByte r.detail.isSome ++
  detailBytes r.detail

/-- R177. -/
def ownSetAttentionSource (p : List Byte) (s : State) : State × Reply :=
  if p.length = 3 then
    match sourceOf (field p 0 1) with
    | none => refuse .range s
    | some i =>
      let t := s.writeSource i (min 7 (field p 1 1)) (min 15 (field p 2 1))
      (t, ⟨.ok, sourceImage i (t.atn.sources.get i)⟩)
  else refuse .length s

/-- SET_ATTENTION_SOURCE (R177). -/
def execSetAttentionSource (s : State) : Host.Outcome State Fault Refusal :=
  .next (s.runRequest (isCode 0x5A) ownSetAttentionSource)

end Sys2Proof.Machine
end

