-- ==== Sys2Proof/Machine/ChargeCommands.lean ====
section
/-! DEFINITION. The allocation unit's commands (R19, R31, R37 to R41). -/

namespace Sys2Proof.Machine

/-- 13.5: the charge settings. -/
def limitsImage (s : State) : List Byte :=
  be 2 s.alc.ceiling ++ be 2 s.alc.share ++ be 2 s.alc.heatLimit ++ causeBytes s.alc.mask

/-- R37, R18: the settings as the request writes them. -/
def Alloc.writeLimits (p : List Byte) (a : Alloc) : Alloc :=
  { a with ceiling := min 630 (field p 0 2), share := min 1000 (field p 2 2),
           heatLimit := min 10000 (field p 4 2), mask := fieldCauses p 6 }

/-- R37. -/
def ownSetChargeLimits (p : List Byte) (s : State) : State × Reply :=
  if p.length = 9 then
    let t := (s.modAlc (Alloc.writeLimits p)).trigger.settle
    (t, ⟨.ok, limitsImage t⟩)
  else refuse .length s

/-- SET_CHARGE_LIMITS (R37). -/
def execSetChargeLimits (s : State) : Host.Outcome State Fault Refusal :=
  .next (s.runRequest (isCode 0x18) ownSetChargeLimits)

/-- R31, R38: the report as it arrives. -/
def Alloc.takeReport (now : Nat) (p : List Byte) (a : Alloc) : Alloc :=
  { a with repTemp := clampInt (-450) 900 (fieldInt p 0 2), repBms := min 5000 (field p 2 2),
           repTime := now, repStale := false, staleMs := 0 }

/-- R38. -/
def ownReportBattery (p : List Byte) (s : State) : State × Reply :=
  if p.length = 4 then
    let t := (s.modAlc (Alloc.takeReport s.now p)).trigger.settle
    (t, ⟨.ok, beInt 2 t.alc.repTemp ++ be 2 t.alc.repBms⟩)
  else refuse .length s

/-- REPORT_BATTERY (R38, R31). -/
def execReportBattery (s : State) : Host.Outcome State Fault Refusal :=
  .next (s.runRequest (isCode 0x19) ownReportBattery)

/-- R39 step 3: the points of a Write Curve, clamped. -/
def readPoints : Nat → List Byte → List CurvePoint
  | 0, _ => []
  | k + 1, p =>
    ⟨clampInt (-450) 900 (fieldInt p 0 2), min 5000 (field p 2 2)⟩ :: readPoints k (p.drop 4)

/-- R39 step 4: strictly ascending temperatures. -/
def ascending : List CurvePoint → Bool
  | [] => true
  | [_] => true
  | p :: q :: rest => decide (p.temp < q.temp) && ascending (q :: rest)

/-- R39: the checks in the entry's order. -/
def ownWriteCurve (p : List Byte) (s : State) : State × Reply :=
  match p with
  | [] => refuse .length s
  | b :: rest =>
    if 12 < b.toNat then refuse .range s
    else if rest.length ≠ 4 * b.toNat then refuse .length s
    else if ascending (readPoints b.toNat rest) then
      let t := (s.modAlc fun a => { a with curve := readPoints b.toNat rest }).trigger.settle
      (t, ⟨.ok, be 1 t.alc.curve.length⟩)
    else refuse .range s

/-- WRITE_CURVE (R39). -/
def execWriteCurve (s : State) : Host.Outcome State Fault Refusal :=
  .next (s.runRequest (isCode 0x1A) ownWriteCurve)

/-- R40, 13.5. -/
def curveImage (s : State) : List Byte :=
  be 1 s.alc.curve.length ++ s.alc.curve.flatMap fun p => beInt 2 p.temp ++ be 2 p.amps

/-- READ_CURVE (R40). -/
def execReadCurve (s : State) : Host.Outcome State Fault Refusal :=
  .next (s.runRequest (isCode 0x1B) (noPayload (report curveImage)))

/-- R41, 13.5: part 0. -/
def allocationPart0 (s : State) : List Byte :=
  let g := s.alc.grid
  let f := s.alc.force
  be 2 g.iLim ++ be 4 g.pAc ++ be 2 g.pDc ++ be 2 g.bGrant ++ be 2 g.hGrant ++ be 1 f.source.code ++
  be 2 f.bGrant ++ be 2 f.hGrant ++ f.zones.items.flatMap (be 2) ++ be 2 f.iChg ++
  causeBytes s.alc.causes ++ causeBytes s.alc.prevCauses ++ flagByte s.alc.held

/-- R41, 13.5: part 1, the inputs used, with the battery report's time received (DEDUCED, assumption 18). -/
def allocationPart1 (s : State) : List Byte :=
  let x := s.alc.inputs
  be 2 x.offered ++ be 2 x.cable ++ be 2 x.ceiling ++ be 2 x.acMax ++ be 1 x.n ++ be 2 x.vph ++
  be 2 x.eff ++ be 2 x.dcMax ++ be 2 x.vbus ++ beInt 2 x.temp ++ be 2 x.bms ++ flagByte x.stale ++
  x.zones.items.flatMap (fun z => be 1 z.state.code ++ be 2 z.demand) ++ be 2 x.share ++
  be 1 (x.sevPos.code * 16 + x.sevNeg.code) ++
  be 1 (bitIf x.acctExists 0 + bitIf x.capReached 1 + bitIf x.saturated 2) ++ be 1 x.sup.code ++
  be 2 x.heatLimit ++ be 1 (bitIf x.allowanceZero 0 + bitIf x.nominal 1) ++ be 1 x.inlet.code ++
  be 4 s.alc.repTime

/-- READ_ALLOCATION (R41). -/
def execReadAllocation (s : State) : Host.Outcome State Fault Refusal :=
  .next (s.runRequest (isCode 0x1C) (oneByte 1 fun part =>
    report (if part = 0 then allocationPart0 else allocationPart1)))

/-- PERIODIC_PASS (R19): the allocation period expires. -/
def execPeriodicPass (s : State) : Host.Outcome State Fault Refusal :=
  .next (if s.blocksRun = true ∧ s.passPeriod ≤ s.alc.periodMs then s.startPasses.settle else s)

/-- BATTERY_REPORT_STALE (R31): the staleness timer expires, in every power state after Starting. -/
def execBatteryReportStale (s : State) : Host.Outcome State Fault Refusal :=
  .next (if s.alc.repStale = false ∧ Config.staleLimitMs ≤ s.alc.staleMs then
    (s.modAlc fun a => { a with repStale := true, staleMs := 0 }).trigger.settle else s)

end Sys2Proof.Machine
end

