-- ==== Sys2Proof/Machine/InletCommands.lean ====
section
/-! DEFINITION. The inlet's commands (R2 to R15). -/

namespace Sys2Proof.Machine

/-- R15, 13.5: the image of the inlet session record. -/
def inletImage (s : State) : List Byte :=
  let i := s.inl
  be 1 i.state.code ++ be 1 (classCode i.cls) ++ flagByte i.pilot ++ be 2 i.duty ++ be 2 i.offered ++
  flagByte i.enable ++ be 4 i.entryTime ++ be 1 (i.idleMs / 1000) ++ be 2 i.pausingMs

/-- READ_INLET (R15). -/
def execReadInlet (s : State) : Host.Outcome State Fault Refusal :=
  .next (s.runRequest (isCode 0x10) (noPayload (report inletImage)))

/-- R5: a plug. -/
def State.plug (k : CableClass) (s : State) : State :=
  (s.modInl fun i => { i with cls := some k }).enterInlet .plugged

/-- R5, R14: a plug taken while parked is first a wake with cause plug. -/
def State.plugOrWake (k : CableClass) (f : FrontEnd) (s : State) : State :=
  if s.parked then (s.wake .plug f).plug k else s.plug k

/-- R6: an unplug; it discards the sample in progress. -/
def State.unplug (s : State) : State :=
  let s1 := s.modInl fun i => { i with cls := none, pilot := false, duty := 0, offered := 0 }
  let s2 := s1.modAlc fun a => { a with chargerCmd := 0 }
  ((s2.autoSuspend .unplug .suspendedUnplug).enterInlet .unplugged).tellImon.triggerSafety

/-- R2, R13: a class change. -/
def State.classChange (k : CableClass) (s : State) : State :=
  (s.modInl fun i => { i with cls := some k }).inletChanged

/-- R2: an accepted band that differs from the previous one. -/
def State.bandAccepted (before after : Option CableClass) (f : FrontEnd) (s : State) : State :=
  match before, after with
  | none, some k => s.plugOrWake k f
  | some _, none => s.unplug
  | some _, some k => s.classChange k
  | none, none => s

/-- R2: one proximity reading. -/
def State.readProximity (ohms : Nat) (f : FrontEnd) (s : State) : State :=
  let b := bandOf ohms
  let s1 := s.modInl (Inlet.countBand b)
  if s1.inl.runCount = Config.bandRun ∧ b ≠ s1.inl.accepted then
    (s1.modInl fun i => { i with accepted := b }).bandAccepted s1.inl.accepted b f
  else s1

/-- PROXIMITY_READING (R2, R5, R6, R14). -/
def execProximityReading (ohms : Nat) (f : FrontEnd) (s : State) : Host.Outcome State Fault Refusal :=
  .next (if s.proximityRuns then (s.readProximity ohms f).settle else s)

/-- R3: pilot present and duty of a window. Full periods that took no time are none. -/
def pilotDuty : PilotWindow → Bool × Nat
  | .noFullPeriod => (false, 0)
  | .periods high total => if total = 0 then (false, 0) else (true, min 1000 (high * 1000 / total))

/-- R3: the offered current of a duty. -/
def offerOf (d : Nat) : Nat := if 100 ≤ d ∧ d ≤ 900 then d * 6 / 10 else 0

/-- R7: what an offer change does by the state of the record; `was` and `is` say whether the offer was
valid before and is valid after. -/
def State.offerChange (was is : Bool) (s : State) : State :=
  match s.inl.state with
  | .plugged => if !was && is then s.enterInlet .offered else s
  | .offered | .ready => if was && !is then s.enterInlet .plugged else s
  | .drawing => if was && !is then s.enterInlet .pausing else s
  | .unplugged | .pausing | .faulted => s

/-- R3: the end of a pilot window. -/
def State.pilotWindow (w : PilotWindow) (s : State) : State :=
  let pd := pilotDuty w
  let s1 := s.modInl fun i => { i with pilot := pd.1, duty := pd.2, offered := offerOf pd.2 }
  if s1.inl.offered = s.inl.offered then s1
  else (s1.offerChange s.inl.offerValid s1.inl.offerValid).trigger

/-- PILOT_WINDOW_END (R3, R7). Windows run while the record is not Unplugged, and begin at the end of a
resumption after a wake from Dormant (R14). -/
def execPilotWindowEnd (w : PilotWindow) (s : State) : Host.Outcome State Fault Refusal :=
  .next (if s.inl.state ≠ .unplugged ∧ s.meterRuns = true then (s.pilotWindow w).settle else s)

/-- IDLE_TIMER_EXPIRY (R10). -/
def execIdleTimerExpiry (s : State) : Host.Outcome State Fault Refusal :=
  .next (if s.inl.state = .drawing ∧ s.alc.force.gridGrant = 0 ∧ Config.idleLimitMs ≤ s.inl.idleMs then
    (s.enterInlet .pausing).settle else s)

/-- PAUSING_TIMER_EXPIRY (R11). -/
def execPausingTimerExpiry (s : State) : Host.Outcome State Fault Refusal :=
  .next (if s.inl.state = .pausing ∧ 0 < s.mtr.n ∧ Config.pausingLimitMs ≤ s.inl.pausingMs then
    (s.enterInlet .faulted).settle else s)

end Sys2Proof.Machine
end

