-- ==== Sys2Proof/Machine/InsulationCommands.lean ====
section
/-! DEFINITION. The insulation monitor's commands: measurement (R68 to R81), fault table (R98 to R100). -/

namespace Sys2Proof.Machine

/-- 13.5: severity, class and counts of a pole. -/
def poleImage (p : PoleRec) : List Byte :=
  be 1 p.severity.code ++ be 1 (gradeCode p.grade) ++
  be 1 (p.warnCount + p.faultCount * 4 + p.normalCount * 16)

/-- R80, 13.5: the measurement record. -/
def insulationImage (s : State) : List Byte :=
  let m := s.imon
  be 1 m.cycle.code ++ be 2 m.phaseMs ++ be 1 (poleCode m.shifted) ++ be 1 m.discards ++ be 2 m.uP0 ++
  be 2 m.uN0 ++ be 2 m.uP1 ++ be 2 m.uN1 ++ be 2 m.vbus ++ be 2 m.rPos ++ be 2 m.rNeg ++
  be 1 m.outcome.code ++ be 4 m.endTime ++ be 2 m.warnTh ++ be 2 m.faultTh ++ be 2 m.warnK ++
  be 2 m.faultK ++ be 2 m.returnK ++ poleImage m.pos ++ poleImage m.neg ++
  be 1 (bitIf m.loc.pole.isSome 7 + poleCode m.loc.pole)

/-- READ_INSULATION (R80). -/
def execReadInsulation (s : State) : Host.Outcome State Fault Refusal :=
  .next (s.runRequest (isCode 0x28) (noPayload (report insulationImage)))

/-- R81: both thresholds clamped, refused unless the fault threshold is below the warning threshold. -/
def ownSetThresholds (p : List Byte) (s : State) : State × Reply :=
  if p.length = 4 then
    let warn := clampNat 100 2000 (field p 0 2)
    let fault := clampNat 50 1000 (field p 2 2)
    if fault < warn then
      (s.modImon fun m => { m with warnTh := warn, faultTh := fault }, ⟨.ok, be 2 warn ++ be 2 fault⟩)
    else refuse .range s
  else refuse .length s

/-- SET_THRESHOLDS (R81). -/
def execSetThresholds (s : State) : Host.Outcome State Fault Refusal :=
  .next (s.runRequest (isCode 0x29) ownSetThresholds)

/-- POLE_VOLTAGE_READING (R68): in the four timed phases; a reading below 0 is taken as 0. -/
def execPoleVoltageReading (up un : Int) (s : State) : Host.Outcome State Fault Refusal :=
  .next (if s.imon.cycle = .idle then s else (s.poleReading up.toNat un.toNat).settle)

/-- CYCLE_PERIOD_EXPIRY (R71): the period timer has reached its period; a cycle in progress is left alone. -/
def execCyclePeriodExpiry (s : State) : Host.Outcome State Fault Refusal :=
  .next (if s.blocksRun = true then s.startCycleIfDue else s)

/-- The phase `c` is in progress and its timer has reached its duration (R69). -/
def State.phaseOver (c : Cycle) (s : State) : Bool :=
  decide (s.imon.cycle = c) && decide (c.duration ≤ s.imon.phaseMs)

/-- BASE_SETTLE_END (R69): BaseSample opens a quiet window. -/
def execBaseSettleEnd (s : State) : Host.Outcome State Fault Refusal :=
  .next (if s.phaseOver .baseSettle then s.enterPhase .baseSample else s)

/-- BASE_SAMPLE_END (R69, R70). -/
def execBaseSampleEnd (s : State) : Host.Outcome State Fault Refusal :=
  .next (if s.phaseOver .baseSample then s.completeBase.settle else s)

/-- SHIFT_SETTLE_END (R69): ShiftSample opens a quiet window. -/
def execShiftSettleEnd (s : State) : Host.Outcome State Fault Refusal :=
  .next (if s.phaseOver .shiftSettle then s.enterPhase .shiftSample else s)

/-- SHIFT_SAMPLE_END (R69, R75 to R79): the passes and the stop of the Compute are part of it. -/
def execShiftSampleEnd (s : State) : Host.Outcome State Fault Refusal :=
  .next (if s.phaseOver .shiftSample then s.completeShift else s)

/-! ### The fault table's requests -/

/-- R98, 13.5: one slot; a Free slot is 0 after its state byte. -/
def faultImage (i : Nat) (r : Option FaultRec) : List Byte :=
  be 1 i ++ be 1 (faultCode r) ++
  match r with
  | none => be 14 0
  | some x =>
    be 1 x.origin.code ++ be 1 x.highest.code ++ be 2 x.lowestR ++ be 4 x.first ++ be 4 x.last ++
    be 2 x.count

/-- R98, 13.5: the table summary with the locating record. The locating state is sent as 0 for none and 1 for
active: 13.3 gives it no code (DESIGN CHOICE, assumption 42). -/
def faultSummary (s : State) : List Byte :=
  let l := s.imon.loc
  be 1 8 ++
  s.imon.faults.items.flatMap (fun r => be 1 (originCode (r.map FaultRec.origin)) ++ be 1 (faultCode r)) ++
  flagByte l.pole.isSome ++ be 1 (poleCode l.pole) ++ be 1 (zoneSet fun z => l.candidates.contains z) ++
  be 1 (zoneNumber l.current) ++ be 1 l.tried ++ be 1 (poleCode l.deferred) ++ be 1 l.outcome.code ++
  be 1 (originCode l.origin) ++ be 4 l.endTime

/-- R98. -/
def ownReadFault (sel : Nat) (s : State) : State × Reply :=
  match slotOf8 sel with
  | some i => report (fun s => faultImage sel (s.imon.faults.get i)) s
  | none => report faultSummary s

/-- READ_FAULT (R98). -/
def execReadFault (s : State) : Host.Outcome State Fault Refusal :=
  .next (s.runRequest (isCode 0x2A) (oneByte 8 ownReadFault))

/-- R99, R100: the slot with its state. -/
def slotReply (st : Status) (i : Fin 8) (s : State) : Reply :=
  ⟨st, be 1 i.val ++ be 1 (faultCode (s.imon.faults.get i))⟩

/-- R99: the host has seen a record. -/
def FaultRec.acknowledge (x : FaultRec) : FaultRec :=
  { x with state := match x.state with
      | .active | .acknowledged => .acknowledged
      | .cleared | .resolved => .resolved }

/-- R99. -/
def ownAcknowledgeFault (n : Nat) (s : State) : State × Reply :=
  match slotOf8 n with
  | none => refuse .range s
  | some i =>
    if (s.imon.faults.get i).isSome then
      let t := s.modFault i FaultRec.acknowledge
      (t, slotReply .ok i t)
    else (s, slotReply .state i s)

/-- ACKNOWLEDGE_FAULT (R99). -/
def execAcknowledgeFault (s : State) : Host.Outcome State Fault Refusal :=
  .next (s.runRequest (isCode 0x2B) (oneByte 7 ownAcknowledgeFault))

/-- R100. -/
def ownRetireFault (n : Nat) (s : State) : State × Reply :=
  match slotOf8 n with
  | none => refuse .range s
  | some i =>
    if (s.imon.faults.get i).map FaultRec.state = some .resolved then
      let t := s.modImon fun m => { m with faults := m.faults.set i none }
      (t, slotReply .ok i t)
    else (s, slotReply .state i s)

/-- RETIRE_FAULT (R100). -/
def execRetireFault (s : State) : Host.Outcome State Fault Refusal :=
  .next (s.runRequest (isCode 0x2C) (oneByte 7 ownRetireFault))

end Sys2Proof.Machine
end

