-- ==== Sys2Proof/Machine/MeterCommands.lean ====
section
/-! DEFINITION. The meter's and the clock's commands: quick readings (R118), Read Meter (R127), Clear
Unbilled (R128), the clock's advance (R132), Set Clock and Read Clock (R134, R135), tariffs (R141, R142). -/

namespace Sys2Proof.Machine

/-- QUICK_READING (R118, R119), in Active. -/
def execQuickReading (f : FrontEnd) (s : State) : Host.Outcome State Fault Refusal :=
  .next (if s.meterRuns then (s.readPhases f).settle else s)

/-- R127, 13.5: part 0. -/
def meterPart0 (s : State) : List Byte :=
  be 1 s.rqp.config.wired ++
  s.mtr.phases.items.flatMap
    (fun p => be 2 p.volts ++ be 2 p.amps ++ beInt 4 p.watts ++ flagByte p.live) ++
  be 1 s.mtr.n ++ be 2 s.mtr.vph ++ be 4 s.mtr.unbilledWh ++ be 2 s.mtr.unbilledJ ++
  flagByte (decide (Config.maxWh ≤ s.mtr.unbilledWh))

/-- 13.5: the target of a tick: 0 Unbilled, 1 account, with its handle. -/
def tickImage (r : TickRec) : List Byte :=
  be 4 r.t ++ be 2 r.spanMs ++ be 2 r.p1 ++ be 2 r.p2 ++ be 2 r.p3 ++ be 2 r.total ++ be 2 r.heat ++
  be 1 r.source.code ++ be 2 r.bGrant ++ be 2 r.hGrant ++ handleBytes r.target

/-- R127, 13.5: part 1, the last tick record with the last tick interval index. -/
def meterPart1 (s : State) : List Byte :=
  flagByte s.mtr.last.isSome ++
  (match s.mtr.last with | none => be 24 0 | some r => tickImage r) ++
  flagByte s.mtr.lastIndex.isSome ++ optBytes 4 s.mtr.lastIndex ++
  (match s.mtr.last with | none => be 1 0 | some r => flagByte r.crossing)

/-- READ_METER (R127). -/
def execReadMeter (s : State) : Host.Outcome State Fault Refusal :=
  .next (s.runRequest (isCode 0x38) (oneByte 1 fun part =>
    report (if part = 0 then meterPart0 else meterPart1)))

/-- R128. -/
def ownClearUnbilled (s : State) : State × Reply :=
  (s.modMtr fun m => { m with unbilledWh := 0, unbilledJ := 0 },
    ⟨.ok, be 4 s.mtr.unbilledWh ++ be 2 s.mtr.unbilledJ⟩)

/-- CLEAR_UNBILLED (R128). -/
def execClearUnbilled (s : State) : Host.Outcome State Fault Refusal :=
  .next (s.runRequest (isCode 0x39) (noPayload ownClearUnbilled))

/-- CLOCK_ADVANCE (R132): the second timer has reached 1000 ms. -/
def execClockAdvance (e : PhaseEnergy) (s : State) : Host.Outcome State Fault Refusal :=
  .next (if Config.secondMs ≤ s.tck.secondMs then (s.secondExpires e).settle else s)

/-- R134: the clock written; MTR's last tick interval index becomes absent. -/
def State.writeClock (wall : Nat) (offset : Int) (s : State) : State :=
  (s.modTck fun c =>
    { c with wall := wall, offset := offset, isSet := true, secondMs := 0 }).modMtr fun m =>
    { m with lastIndex := none }

/-- R134. -/
def ownSetClock (p : List Byte) (s : State) : State × Reply :=
  if p.length = 6 then
    let t := s.writeClock (field p 0 4) (clampInt (-720) 840 (fieldInt p 4 2))
    (t, ⟨.ok, be 4 t.tck.wall ++ beInt 2 t.tck.offset ++ be 4 s.tck.wall⟩)
  else refuse .length s

/-- SET_CLOCK (R134). -/
def execSetClock (s : State) : Host.Outcome State Fault Refusal :=
  .next (s.runRequest (isCode 0x40) ownSetClock)

/-- R135: the time to the next advance, 0–999 ms (DESIGN CHOICE, assumption 14). -/
def Clock.toNext (c : Clock) : Nat := min 999 (Config.secondMs - c.secondMs)

/-- R135, 13.5. -/
def clockImage (s : State) : List Byte :=
  let c := s.tck
  be 4 c.wall ++ beInt 2 c.offset ++ flagByte c.isSet ++ be 2 (minuteOfDay c.wall c.offset) ++
  be 4 (intervalIndex c.wall) ++ be 2 c.toNext

/-- READ_CLOCK (R135). -/
def execReadClock (s : State) : Host.Outcome State Fault Refusal :=
  .next (s.runRequest (isCode 0x41) (noPayload (report clockImage)))

/-! ### Tariffs -/

/-- 13.5: the band in place `k` of four; 0 where there is none. -/
def bandImage (bands : List TariffBand) (k : Nat) : List Byte :=
  match bands[k]? with
  | some b => be 2 b.start ++ be 4 b.price
  | none => be 6 0

/-- R142, 13.5. -/
def tariffImage (i : Fin 8) (s : State) : List Byte :=
  let t := s.tariff i
  be 1 i.val ++ flagByte t.defined ++ be 1 t.bands.length ++ bandImage t.bands 0 ++ bandImage t.bands 1 ++
  bandImage t.bands 2 ++ bandImage t.bands 3 ++ be 4 t.idleFee ++ be 1 t.grace ++ be 1 t.refs

/-- R141: the bands of a Write Tariff as the request carries them. -/
def readBands : Nat → List Byte → List TariffBand
  | 0, _ => []
  | k + 1, p => ⟨field p 0 2, field p 2 4⟩ :: readBands k (p.drop 6)

/-- R141 step 5: start minutes strictly ascending. -/
def bandsAscend : List TariffBand → Bool
  | [] => true
  | [_] => true
  | a :: b :: rest => decide (a.start < b.start) && bandsAscend (b :: rest)

/-- R141 step 5: a band table the tariff can take; an empty one makes it Undefined. -/
def bandsOk : List TariffBand → Bool
  | [] => true
  | b :: rest =>
    decide (b.start = 0) && (b :: rest).all (fun x => decide (x.start ≤ 1439)) && bandsAscend (b :: rest)

/-- R141: the definition stored; with no bands the fee and grace become 0. -/
def Tariff.define (bands : List TariffBand) (fee grace : Nat) (t : Tariff) : Tariff :=
  if bands.isEmpty then { Tariff.undefined with refs := t.refs }
  else { bands := bands.map fun b => ⟨b.start, min 1000000 b.price⟩, idleFee := min 10000000 fee,
         grace := min 240 grace, refs := t.refs }

/-- R141: the checks in the entry's order. -/
def ownWriteTariff (p : List Byte) (s : State) : State × Reply :=
  if p.length = 0 then refuse .length s
  else match slotOf8 (field p 0 1) with
    | none => refuse .range s
    | some i =>
      if p.length = 1 then refuse .length s
      else
        let k := field p 1 1
        if 4 < k then refuse .range s
        else if p.length ≠ 7 + 6 * k then refuse .length s
        else if 0 < (s.tariff i).refs then refuse .inUse s
        else
          let bands := readBands k (p.drop 2)
          if bandsOk bands then
            let t := s.modTariff i (Tariff.define bands (field p (2 + 6 * k) 4) (field p (6 + 6 * k) 1))
            (t, ⟨.ok, tariffImage i t⟩)
          else refuse .range s

/-- WRITE_TARIFF (R141). -/
def execWriteTariff (s : State) : Host.Outcome State Fault Refusal :=
  .next (s.runRequest (isCode 0x42) ownWriteTariff)

/-- R142. -/
def ownReadTariff (n : Nat) (s : State) : State × Reply :=
  match slotOf8 n with
  | none => refuse .range s
  | some i => report (tariffImage i) s

/-- READ_TARIFF (R142). -/
def execReadTariff (s : State) : Host.Outcome State Fault Refusal :=
  .next (s.runRequest (isCode 0x43) (oneByte 7 ownReadTariff))

end Sys2Proof.Machine
end

