-- ==== Sys2Proof/Machine/PortCommands.lean ====
section
/-! DEFINITION. The request port's commands (R182, R183, R185, R189 to R193). -/

namespace Sys2Proof.Machine

/-- R192, 13.5. -/
def identifyImage (s : State) : List Byte :=
  be 2 0x5A4E ++ be 2 0x02E6 ++ be 1 1 ++ be 1 64 ++ be 1 Config.queueLimit ++ be 1 s.pwc.state.code ++
  flagByte s.rqp.configured ++ s.rqp.config.bytes ++ be 1 s.rqp.sup.code ++ be 2 s.rqp.sup.left

/-- IDENTIFY (R192). -/
def execIdentify (s : State) : Host.Outcome State Fault Refusal :=
  .next (s.runRequest (isCode 0x01) (noPayload (report identifyImage)))

/-- R191: a wake-line sense; beyond the three it is either edge. -/
def senseOf (n : Nat) : WakeSense :=
  if n = 0 then .rising else if n = 1 then .falling else .either

/-- R191: the six fields, clamped. -/
def configOf (p : List Byte) : HwConfig :=
  { wired := if field p 0 1 ≤ 1 then 1 else 3, acMax := clampNat 60 320 (field p 1 2),
    dcMax := clampNat 10 500 (field p 3 2), eff := clampNat 850 990 (field p 5 2),
    window := clampNat 200 5000 (field p 7 2) / 10 * 10, sense := senseOf (field p 9 1) }

/-- R191. -/
def ownConfigure (p : List Byte) (s : State) : State × Reply :=
  if p.length = 10 then
    if s.rqp.configured then (s, ⟨.locked, s.rqp.config.bytes⟩)
    else
      let t := (s.modRqp fun q => { q with config := configOf p, configured := true }).trigger.settle
      (t, ⟨.ok, (configOf p).bytes⟩)
  else refuse .length s

/-- CONFIGURE (R191). -/
def execConfigure (s : State) : Host.Outcome State Fault Refusal :=
  .next (s.runRequest (isCode 0x02) ownConfigure)

/-- R188, Heartbeat. -/
def State.heartbeat (s : State) : State :=
  let fresh := s.modRqp fun p => { p with sup := .armed p.config.window }
  match s.rqp.sup with
  | .disarmed => s
  | .armed _ => fresh
  | .expired =>
    if s.act.activeSlot.isSome then fresh.trigger
    else (s.modRqp fun p => { p with sup := .disarmed }).trigger

/-- R190. -/
def ownHeartbeat (s : State) : State × Reply :=
  let t := s.heartbeat.settle
  (t, ⟨.ok, be 1 t.rqp.sup.code ++ be 2 t.rqp.sup.left ++ flagByte (decide (s.rqp.sup = .expired))⟩)

/-- HEARTBEAT (R190, R188). -/
def execHeartbeat (s : State) : Host.Outcome State Fault Refusal :=
  .next (s.runRequest (isCode 0x03) (noPayload ownHeartbeat))

/-- R193: the port reset takes the queue with it, so this reply reaches no item. -/
def ownRestart (s : State) : State × Reply :=
  (s.portReset { s.pwc.causes with restart := true }, Reply.bare .ok)

/-- RESTART (R193, R200). -/
def execRestart (s : State) : Host.Outcome State Fault Refusal :=
  .next (s.runRequest (isCode 0x04) (noPayload ownRestart))

/-- R185: the code names no request. -/
def unknownCode (c : Byte) : Bool := !requestCodes.contains c

/-- UNKNOWN_REQUEST (R185). -/
def execUnknownRequest (s : State) : Host.Outcome State Fault Refusal :=
  .next (s.runRequest unknownCode fun _ => refuse .unknown)

/-- TRANSACTION_START (R182, R187): the response frame is formed at the start. -/
def execTransactionStart (s : State) : Host.Outcome State Fault Refusal :=
  .next (if s.portRuns = true ∧ s.rqp.txn = none then
    s.modRqp fun p => { p with txn := some s.outgoing } else s)

/-- TRANSACTION_END (R183, R184): the transaction in progress is taken with the bytes clocked in. -/
def execTransactionEnd (clocked : List Byte) (s : State) : Host.Outcome State Fault Refusal :=
  .next (match s.rqp.txn with
    | none => s
    | some t => s.modRqp (Port.endTransaction t.carries clocked))

/-- R189: the deadline is reached. -/
def State.expireSupervision (s : State) : State :=
  ((s.modRqp fun p => { p with sup := .expired }).raise .supervision
    (.expired s.act.activeHandle)).triggerSafety

/-- SUPERVISION_EXPIRY (R189). -/
def execSupervisionExpiry (s : State) : Host.Outcome State Fault Refusal :=
  .next (if s.rqp.sup = .armed 0 then s.expireSupervision.settle else s)

end Sys2Proof.Machine
end

