-- ==== Sys2Proof/Machine/PowerCommands.lean ====
section
/-! DEFINITION. The power controller's commands (R187, R195 to R201). -/

namespace Sys2Proof.Machine

/-- 13.3: a park mode, none where the number names none that Park admits. -/
def parkModeOf (n : Nat) : Option ParkMode :=
  if n = 1 then some .keepWarm else if n = 2 then some .dormant else none

/-- R196, R197: the power state of the requested mode is entered; a Park into the state that stands changes
no block. -/
def State.enterMode (mode : ParkMode) (s : State) : State :=
  match mode with
  | .keepWarm => if s.pwc.state = .keepWarm then s else s.enterKeepWarm.settle
  | .dormant => s.enterDormant
  | .none => s

/-- R196: an accepted Park. Supervision keeps its state: R197 says that it is disarmed in both parked states,
since no account is Active, while R188 ends an expiry only by Heartbeat and the resets and R194 keeps RQP's
state across the parked states; a Park taken with supervision Expired leaves it Expired (DESIGN CHOICE,
assumption 41). -/
def State.takePark (mode : ParkMode) (minutes : Nat) (s : State) : State :=
  (s.modPwc (Power.setPark mode (min Config.maxWakeMinutes minutes) s.rqp.config.sense)).enterMode mode

/-- 13.5. -/
def parkImage (s : State) : List Byte :=
  be 1 s.pwc.state.code ++ be 1 s.pwc.park.code ++ be 2 s.pwc.wakeMin ++ be 1 s.pwc.sense.code

/-- R196: some condition of the checks 4 to 6 refuses the Park. -/
def State.parkRefused (s : State) : Bool :=
  decide (s.inl.state ≠ .unplugged) || s.act.activeSlot.isSome || s.pwc.resuming

/-- R196: the checks in the entry's order. -/
def ownPark (p : List Byte) (s : State) : State × Reply :=
  if p.length = 3 then
    match parkModeOf (field p 0 1) with
    | none => refuse .range s
    | some mode =>
      if s.parkRefused then refuse .state s
      else
        let t := s.takePark mode (field p 1 2)
        (t, ⟨.ok, parkImage t⟩)
  else refuse .length s

/-- PARK (R196, R197). -/
def execPark (s : State) : Host.Outcome State Fault Refusal :=
  .next (s.runRequest (isCode 0x08) ownPark)

/-- READ_RESET_CAUSES (R201). -/
def execReadResetCauses (s : State) : Host.Outcome State Fault Refusal :=
  .next (s.runRequest (isCode 0x09) (noPayload (report fun s =>
    be 1 s.pwc.causes.code ++ be 1 s.pwc.state.code)))

/-- R201. -/
def ownClearResetCauses (s : State) : State × Reply :=
  (s.modPwc fun p => { p with causes := ⟨false, false, false⟩ }, ⟨.ok, be 1 s.pwc.causes.code⟩)

/-- CLEAR_RESET_CAUSES (R201). -/
def execClearResetCauses (s : State) : Host.Outcome State Fault Refusal :=
  .next (s.runRequest (isCode 0x0A) (noPayload ownClearResetCauses))

/-- R198: an edge counts under the sense in use. -/
def WakeSense.matches : WakeSense → Edge → Bool
  | .rising, .rising => true
  | .falling, .falling => true
  | .either, _ => true
  | .rising, .falling => false
  | .falling, .rising => false

/-- WAKE_LINE_EDGE (R198, R199). -/
def execWakeLineEdge (e : Edge) (f : FrontEnd) (s : State) : Host.Outcome State Fault Refusal :=
  .next (if s.parked && s.pwc.sense.matches e then (s.wake .wakeLine f).settle else s)

/-- R198: the elapsed count has reached a wake timer of 1 to 10,080 min. -/
def Power.timerDue (p : Power) : Bool := decide (0 < p.wakeMin) && decide (p.wakeMin ≤ p.elapsedMin)

/-- WAKE_TIMER_EXPIRY (R198, R199). -/
def execWakeTimerExpiry (f : FrontEnd) (s : State) : Host.Outcome State Fault Refusal :=
  .next (if s.parked && s.pwc.timerDue then (s.wake .wakeTimer f).settle else s)

/-- RESUMPTION_END (R199). -/
def execResumptionEnd (f : FrontEnd) (t : ZoneTemps) (s : State) : Host.Outcome State Fault Refusal :=
  .next (if s.pwc.state = .active ∧ s.pwc.resuming = true then (s.endResumption f t).settle else s)

/-- STARTING_END (R195, R16). Starting begins when the reset pin is high (R187). -/
def execStartingEnd (ohms : Nat) (f : FrontEnd) (t : ZoneTemps) (s : State) :
    Host.Outcome State Fault Refusal :=
  .next (if s.pwc.state = .starting ∧ s.pwc.pinLow = false then (s.endStarting ohms f t).settle else s)

/-- SUPPLY_RESET (R200). -/
def execSupplyReset (s : State) : Host.Outcome State Fault Refusal := .next s.supplyReset

/-- RESET_PIN (R187, R200): the pin goes low, and the part takes a port reset. -/
def execResetPin (s : State) : Host.Outcome State Fault Refusal :=
  .next (if s.pwc.pinLow then s
    else (s.portReset { s.pwc.causes with pin := true }).modPwc fun p => { p with pinLow := true })

/-- RESET_PIN_RELEASE (R187): the pin returns high. -/
def execResetPinRelease (s : State) : Host.Outcome State Fault Refusal :=
  .next (s.modPwc fun p => { p with pinLow := false })

end Sys2Proof.Machine
end

