-- ==== Sys2Proof/Machine/StopCommands.lean ====
section
/-! DEFINITION. The stop unit's commands (R108 to R113). -/

namespace Sys2Proof.Machine

/-- R108: the Stop request; the response is formed after the stop. -/
def ownStop (s : State) : State × Reply :=
  let t := (s.takeStop .request).settle
  (t, ⟨.ok, be 2 t.stu.epoch ++ flagByte s.stu.bank.isNone ++ handleBytes s.act.activeHandle ++
    flagByte t.stu.overflow⟩)

/-- STOP (R108). -/
def execStop (s : State) : Host.Outcome State Fault Refusal :=
  .next (s.runRequest (isCode 0x30) (noPayload ownStop))

/-- R111: what becomes of the banked account. -/
inductive ResumeOutcome where
  | resumed | noAccountBanked | accountChanged | inletUnplugged | otherActive
  deriving DecidableEq, Repr

def ResumeOutcome.code : ResumeOutcome → Nat
  | .resumed => 0 | .noAccountBanked => 1 | .accountChanged => 2 | .inletUnplugged => 3
  | .otherActive => 4

/-- R111 condition 2: the slot has the handle's generation and its account is Suspended with reason Stop. -/
def State.stillStopped (h : Handle) (s : State) : Bool :=
  decide ((s.act.slots.get h.slot).gen = h.gen) &&
  match (s.act.slots.get h.slot).acct with
  | some a => decide (a.state = .suspended) && decide (a.reason = some .stop)
  | none => false

/-- R111: the first failed condition, in order. -/
def State.resumeOutcome (h : Option Handle) (s : State) : ResumeOutcome :=
  match h with
  | none => .noAccountBanked
  | some h =>
    if s.stillStopped h then
      if s.inl.state = .unplugged then .inletUnplugged
      else if s.act.activeSlot.isSome then .otherActive
      else .resumed
    else .accountChanged

/-- R110: zone `i` takes the banked enabled flag and target, as a Write Zone of those two fields. -/
def State.restoreZone (c : Context) (s : State) (i : Fin 6) : State :=
  let z := s.zone i
  s.writeZone i (c.enabled.get i) (c.targets.get i) z.gain z.pMax z.priority

/-- R110: the banked settings restored. -/
def State.restore (c : Context) (s : State) : State :=
  ((fins 6).foldl (State.restoreZone c) s).modAlc fun a => { a with ceiling := c.ceiling, share := c.share }

/-- R111: the account reactivated where it can be. -/
def State.reactivate (h : Option Handle) (s : State) : State :=
  match h with
  | none => s
  | some x => if s.resumeOutcome h = .resumed then s.activateSlot x.slot else s

/-- R110, R111: an accepted Resume. -/
def State.takeResume (c : Context) (s : State) : State :=
  (((s.restore c).reactivate c.handle).modStu fun u =>
    { u with bank := none, overflow := false }).trigger

/-- R109: a pole at confirmed Fault refuses a Resume. -/
def State.poleFaulted (s : State) : Bool :=
  decide (s.imon.pos.severity = .fault) || decide (s.imon.neg.severity = .fault)

/-- R109: the refusal, with the bank state and both severities. -/
def resumeRefusal (s : State) : Reply :=
  ⟨.state, flagByte s.stu.bank.isSome ++ be 1 s.imon.pos.severity.code ++ be 1 s.imon.neg.severity.code⟩

/-- R109 to R111. -/
def ownResume (s : State) : State × Reply :=
  match s.stu.bank with
  | none => (s, resumeRefusal s)
  | some c =>
    if s.poleFaulted then (s, resumeRefusal s)
    else
      ((s.takeResume c).settle,
        ⟨.ok, be 2 c.epoch ++ be 1 c.cause.code ++ be 1 (s.resumeOutcome c.handle).code ++
          handleBytes c.handle ++ flagByte s.stu.overflow⟩)

/-- RESUME (R109 to R111). -/
def execResume (s : State) : Host.Outcome State Fault Refusal :=
  .next (s.runRequest (isCode 0x31) (noPayload ownResume))

/-- R112. -/
def ownDiscardSnapshot (s : State) : State × Reply :=
  match s.stu.bank with
  | none => refuse .state s
  | some c =>
    (s.modStu fun u => { u with bank := none, overflow := false },
      ⟨.ok, be 2 c.epoch ++ be 1 c.cause.code ++ flagByte s.stu.overflow⟩)

/-- DISCARD_SNAPSHOT (R112). -/
def execDiscardSnapshot (s : State) : Host.Outcome State Fault Refusal :=
  .next (s.runRequest (isCode 0x32) (noPayload ownDiscardSnapshot))

/-- R113, 13.5: the image of STU; an empty bank's context is 0. -/
def snapshotImage (s : State) : List Byte :=
  be 2 s.stu.epoch ++ flagByte s.stu.overflow ++ flagByte s.stu.bank.isSome ++
  match s.stu.bank with
  | none => be 27 0
  | some c =>
    be 2 c.epoch ++ be 1 c.cause.code ++ handleBytes c.handle ++ be 1 (zoneSet c.enabled.get) ++
    c.targets.items.flatMap (beInt 2) ++ be 2 c.ceiling ++ be 2 c.share ++ be 4 c.time

/-- READ_SNAPSHOT (R113). -/
def execReadSnapshot (s : State) : Host.Outcome State Fault Refusal :=
  .next (s.runRequest (isCode 0x33) (noPayload (report snapshotImage)))

end Sys2Proof.Machine
end

