-- ==== Sys2Proof/Machine/ZoneCommands.lean ====
section
/-! DEFINITION. The heater zone controller's commands (R46, R54, R61 to R63). -/

namespace Sys2Proof.Machine

/-- R63, 13.5: the image of a zone record. -/
def zoneImage (i : Fin 6) (s : State) : List Byte :=
  let z := s.zone i
  be 1 (i.val + 1) ++ flagByte z.enabled ++ be 1 z.state.code ++ beInt 2 z.target ++ be 2 z.gain ++
  be 2 z.pMax ++ be 1 z.priority ++ beInt 2 z.temp ++ be 2 z.demand ++ be 2 z.grant ++ be 2 z.duty ++
  flagByte z.contactor ++ be 1 (zoneFaultCode z.reason) ++ be 1 (resumeCode z.resume) ++
  flagByte z.disableAfter

/-- R62: the settings of the request, clamped, and its effect on the zone. -/
def State.takeWriteZone (i : Fin 6) (p : List Byte) (s : State) : State :=
  s.writeZone i (fieldFlag p 1) (clampInt (-200) 400 (fieldInt p 2 2)) (clampNat 1 200 (field p 4 2))
    (clampNat 100 6000 (field p 6 2)) (min 7 (field p 8 1))

/-- R62: the zone number is checked first. The response shows the zone after the request's event. -/
def ownWriteZone (p : List Byte) (s : State) : State × Reply :=
  if p.length = 0 then refuse .length s
  else match zoneOf (field p 0 1) with
    | none => refuse .range s
    | some i =>
      if p.length = 9 then
        let t := (s.takeWriteZone i p).settle
        (t, ⟨.ok, zoneImage i t⟩)
      else refuse .length s

/-- WRITE_ZONE (R62). -/
def execWriteZone (s : State) : Host.Outcome State Fault Refusal :=
  .next (s.runRequest (isCode 0x20) ownWriteZone)

/-- R63: the zone number is checked before the length. -/
def ownReadZone (p : List Byte) (s : State) : State × Reply :=
  if p.length = 0 then refuse .length s
  else match zoneOf (field p 0 1) with
    | none => refuse .range s
    | some i => if p.length = 1 then report (zoneImage i) s else refuse .length s

/-- READ_ZONE (R63). -/
def execReadZone (s : State) : Host.Outcome State Fault Refusal :=
  .next (s.runRequest (isCode 0x21) ownReadZone)

/-- R54: the zone's fault condition is still present. -/
def State.conditionPresent (z : Zone) (s : State) : Bool :=
  decide (z.temp < Config.sensorLow) || decide (Config.sensorHigh < z.temp) ||
  decide (Config.cutOff ≤ z.temp) ||
  (decide (z.reason = some .insulation) &&
    (s.imon.pos.severity.raised || s.imon.neg.severity.raised))

/-- R54, R90: an accepted Reset Zone. A zone that was faulted for insulation ends its record's condition. -/
def State.resetZone (i : Fin 6) (s : State) : State :=
  let z := s.zone i
  let s1 := (s.modZone i fun z => { z.toOff with enabled := false }).trigger
  if z.reason = some .insulation then s1.conditionEnds (.zone i) else s1

/-- R54, with the length checked first (DESIGN CHOICE, assumption 9). -/
def ownResetZone (p : List Byte) (s : State) : State × Reply :=
  if p.length = 1 then
    match zoneOf (field p 0 1) with
    | none => refuse .range s
    | some i =>
      if (s.zone i).state ≠ .faulted then refuse .state s
      else if s.conditionPresent (s.zone i) then refuse .state s
      else
        let t := (s.resetZone i).settle
        (t, ⟨.ok, be 1 (i.val + 1) ++ be 1 (t.zone i).state.code⟩)
  else refuse .length s

/-- RESET_ZONE (R54). -/
def execResetZone (s : State) : Host.Outcome State Fault Refusal :=
  .next (s.runRequest (isCode 0x22) ownResetZone)

/-- R61: the allowance written, and what the change of value brings. -/
def State.setAllowance (wh : Nat) (s : State) : State :=
  let s1 := s.modHzc fun h => { h with allowWh := wh, allowJ := 0 }
  if s.hzc.allowance = 0 ∧ 0 < wh then s1.trigger
  else if 0 < s.hzc.allowance ∧ wh = 0 then s1.allowanceExhausted
  else s1

/-- R61. -/
def ownSetAllowance (p : List Byte) (s : State) : State × Reply :=
  if p.length = 2 then
    let t := (s.setAllowance (min Config.maxAllowance (field p 0 2))).settle
    (t, ⟨.ok, be 2 t.hzc.allowWh ++ be 2 t.hzc.allowJ⟩)
  else refuse .length s

/-- SET_ALLOWANCE (R61). -/
def execSetAllowance (s : State) : Host.Outcome State Fault Refusal :=
  .next (s.runRequest (isCode 0x23) ownSetAllowance)

/-- READ_ALLOWANCE (R61). -/
def execReadAllowance (s : State) : Host.Outcome State Fault Refusal :=
  .next (s.runRequest (isCode 0x24) (noPayload (report fun s =>
    be 2 s.hzc.allowWh ++ be 2 s.hzc.allowJ ++ flagByte s.debiting)))

/-- ZONE_SENSOR_READING (R46), in Active and Keep-Warm. -/
def execZoneSensorReading (t : ZoneTemps) (s : State) : Host.Outcome State Fault Refusal :=
  .next (if s.blocksRun then (s.readZones t).settle else s)

end Sys2Proof.Machine
end

