-- ==== Sys2Proof/Machine/Dispatch.lean ====
section
/-! DEFINITION. One arm for each command. -/

namespace Sys2Proof.Machine

def exec (i : Instr) (s : State) : Host.Outcome State Fault Refusal :=
  match i with
  | .identify => Sys2Proof.Machine.execIdentify s
  | .configure => Sys2Proof.Machine.execConfigure s
  | .heartbeat => Sys2Proof.Machine.execHeartbeat s
  | .restart => Sys2Proof.Machine.execRestart s
  | .park => Sys2Proof.Machine.execPark s
  | .readResetCauses => Sys2Proof.Machine.execReadResetCauses s
  | .clearResetCauses => Sys2Proof.Machine.execClearResetCauses s
  | .readInlet => Sys2Proof.Machine.execReadInlet s
  | .setChargeLimits => Sys2Proof.Machine.execSetChargeLimits s
  | .reportBattery => Sys2Proof.Machine.execReportBattery s
  | .writeCurve => Sys2Proof.Machine.execWriteCurve s
  | .readCurve => Sys2Proof.Machine.execReadCurve s
  | .readAllocation => Sys2Proof.Machine.execReadAllocation s
  | .writeZone => Sys2Proof.Machine.execWriteZone s
  | .readZone => Sys2Proof.Machine.execReadZone s
  | .resetZone => Sys2Proof.Machine.execResetZone s
  | .setAllowance => Sys2Proof.Machine.execSetAllowance s
  | .readAllowance => Sys2Proof.Machine.execReadAllowance s
  | .readInsulation => Sys2Proof.Machine.execReadInsulation s
  | .setThresholds => Sys2Proof.Machine.execSetThresholds s
  | .readFault => Sys2Proof.Machine.execReadFault s
  | .acknowledgeFault => Sys2Proof.Machine.execAcknowledgeFault s
  | .retireFault => Sys2Proof.Machine.execRetireFault s
  | .stop => Sys2Proof.Machine.execStop s
  | .resume => Sys2Proof.Machine.execResume s
  | .discardSnapshot => Sys2Proof.Machine.execDiscardSnapshot s
  | .readSnapshot => Sys2Proof.Machine.execReadSnapshot s
  | .readMeter => Sys2Proof.Machine.execReadMeter s
  | .clearUnbilled => Sys2Proof.Machine.execClearUnbilled s
  | .setClock => Sys2Proof.Machine.execSetClock s
  | .readClock => Sys2Proof.Machine.execReadClock s
  | .writeTariff => Sys2Proof.Machine.execWriteTariff s
  | .readTariff => Sys2Proof.Machine.execReadTariff s
  | .openAccount => Sys2Proof.Machine.execOpenAccount s
  | .findAccount => Sys2Proof.Machine.execFindAccount s
  | .listAccounts => Sys2Proof.Machine.execListAccounts s
  | .readAccount => Sys2Proof.Machine.execReadAccount s
  | .amendAccount => Sys2Proof.Machine.execAmendAccount s
  | .activateAccount => Sys2Proof.Machine.execActivateAccount s
  | .suspendAccount => Sys2Proof.Machine.execSuspendAccount s
  | .closeAccount => Sys2Proof.Machine.execCloseAccount s
  | .retireAccount => Sys2Proof.Machine.execRetireAccount s
  | .takeAttention => Sys2Proof.Machine.execTakeAttention s
  | .releaseAttention => Sys2Proof.Machine.execReleaseAttention s
  | .setAttentionSource => Sys2Proof.Machine.execSetAttentionSource s
  | .unknownRequest => Sys2Proof.Machine.execUnknownRequest s
  | .transactionStart => Sys2Proof.Machine.execTransactionStart s
  | .transactionEnd clocked => Sys2Proof.Machine.execTransactionEnd clocked s
  | .proximityReading ohms front => Sys2Proof.Machine.execProximityReading ohms front s
  | .pilotWindowEnd window => Sys2Proof.Machine.execPilotWindowEnd window s
  | .idleTimerExpiry => Sys2Proof.Machine.execIdleTimerExpiry s
  | .pausingTimerExpiry => Sys2Proof.Machine.execPausingTimerExpiry s
  | .quickReading front => Sys2Proof.Machine.execQuickReading front s
  | .periodicPass => Sys2Proof.Machine.execPeriodicPass s
  | .batteryReportStale => Sys2Proof.Machine.execBatteryReportStale s
  | .zoneSensorReading temps => Sys2Proof.Machine.execZoneSensorReading temps s
  | .clockAdvance energy => Sys2Proof.Machine.execClockAdvance energy s
  | .poleVoltageReading up un => Sys2Proof.Machine.execPoleVoltageReading up un s
  | .cyclePeriodExpiry => Sys2Proof.Machine.execCyclePeriodExpiry s
  | .baseSettleEnd => Sys2Proof.Machine.execBaseSettleEnd s
  | .baseSampleEnd => Sys2Proof.Machine.execBaseSampleEnd s
  | .shiftSettleEnd => Sys2Proof.Machine.execShiftSettleEnd s
  | .shiftSampleEnd => Sys2Proof.Machine.execShiftSampleEnd s
  | .supervisionExpiry => Sys2Proof.Machine.execSupervisionExpiry s
  | .wakeLineEdge edge front => Sys2Proof.Machine.execWakeLineEdge edge front s
  | .wakeTimerExpiry front => Sys2Proof.Machine.execWakeTimerExpiry front s
  | .resumptionEnd front temps => Sys2Proof.Machine.execResumptionEnd front temps s
  | .startingEnd ohms front temps => Sys2Proof.Machine.execStartingEnd ohms front temps s
  | .supplyReset => Sys2Proof.Machine.execSupplyReset s
  | .resetPin => Sys2Proof.Machine.execResetPin s
  | .resetPinRelease => Sys2Proof.Machine.execResetPinRelease s

end Sys2Proof.Machine
end

