-- ==== Sys2Proof/Machine/Tick.lean ====
section
/-! DEFINITION. One millisecond of time (DESIGN CHOICE, assumption 2): every timer of the block moves, and nothing else. A
timer stops at its limit and waits there for the command that takes its expiry (DESIGN CHOICE, assumption 31). -/

namespace Sys2Proof.Machine

/-- One more ms, up to a limit. -/
def count (limit ms : Nat) : Nat := min limit (ms + 1)

/-- R10, R11: the idle timer counts in Drawing while the grid grant in force is 0, the Pausing timer in
Pausing. -/
def Inlet.tick (gridGrant : Nat) (i : Inlet) : Inlet :=
  match i.state with
  | .drawing => if gridGrant = 0 then { i with idleMs := count Config.idleLimitMs i.idleMs } else i
  | .pausing => { i with pausingMs := count Config.pausingLimitMs i.pausingMs }
  | .unplugged | .plugged | .offered | .ready | .faulted => i

/-- R31: the staleness timer runs while the report is fresh. -/
def Alloc.tickStale (a : Alloc) : Alloc :=
  if a.repStale then a else { a with staleMs := count Config.staleLimitMs a.staleMs }

/-- R19: the allocation period. -/
def Alloc.tickPeriod (period : Nat) (a : Alloc) : Alloc :=
  { a with periodMs := count period a.periodMs }

/-- R71: the measurement period, which also outlasts a change to the longer period. -/
def Insulation.tickPeriod (m : Insulation) : Insulation :=
  { m with periodMs := count Config.warmCycleMs m.periodMs }

/-- R69: the phase timer of a cycle in progress. -/
def Insulation.tickPhase (m : Insulation) : Insulation :=
  { m with phaseMs := count m.cycle.duration m.phaseMs }

/-- R188: the deadline comes one ms nearer. -/
def Supervision.tick : Supervision → Supervision
  | .armed left => .armed (left - 1)
  | .disarmed => .disarmed
  | .expired => .expired

/-- R132: the second timer, in every power state. -/
def Clock.tick (c : Clock) : Clock := { c with secondMs := count Config.secondMs c.secondMs }

/-- R195: the wake-timer elapsed count. -/
def Power.tickWake (p : Power) : Power :=
  if Config.maxWakeMinutes ≤ p.elapsedMin then p
  else if Config.minuteMs ≤ p.elapsedMs + 1 then
    { p with elapsedMin := p.elapsedMin + 1, elapsedMs := 0 }
  else { p with elapsedMs := p.elapsedMs + 1 }

/-- R121, R124: the time that the integrals have covered. -/
def Meter.tickSpan (m : Meter) : Meter := { m with spanMs := m.spanMs + 1 }

/-- The timers of the blocks that stand still in Starting, in Dormant and during a resumption. -/
def State.tickBlocks (s : State) : State :=
  if s.blocksRun then
    (s.modAlc (Alloc.tickPeriod s.passPeriod)).modImon fun m => m.tickPeriod.tickPhase
  else s

/-- MTR's time, in Active. -/
def State.tickMeter (s : State) : State := if s.meterRuns then s.modMtr Meter.tickSpan else s

/-- The wake timer's time, while parked. -/
def State.tickParked (s : State) : State := if s.parked then s.modPwc Power.tickWake else s

/-- One ms. -/
def State.tick (s : State) : State :=
  ((((s.modInl (Inlet.tick s.alc.force.gridGrant)).modAlc Alloc.tickStale).modTck Clock.tick).modRqp
    fun p => { p with sup := p.sup.tick }).tickBlocks.tickMeter.tickParked

end Sys2Proof.Machine
end

