-- ==== Sys2Proof/Machine/Step.lean ====
section
/-! DEFINITION. The step: the command at the front of the queue is taken; with none waiting, one ms of time
passes (DESIGN CHOICE, assumption 2). -/

namespace Sys2Proof.Machine

/-- The state without the command at its front, whose queue is `rest`. -/
def State.withPending (rest : List Instr) (s : State) : State := { s with pending := rest }

/-- One step of the block. -/
def step (s : State) : Host.Outcome State Fault Refusal :=
  match s.pending with
  | [] => .next s.tick
  | c :: rest => exec c (s.withPending rest)

/-- The state with the command that a word spells at the front of its queue (DESIGN CHOICE, assumption 1). -/
def State.withFetchWord (s : State) (nbits w : Nat) : State :=
  match decodeTableWord nbits w with
  | some c => s.withPending (c :: s.pending)
  | none => s

end Sys2Proof.Machine
end

