-- ==== Sys2Proof/Safety.lean ====
section
/-! DEFINITION. What counts as a safe state: the whole-machine promises of the manual's prose, each as a
decidable predicate, in the terms the claims use. -/

namespace Sys2Proof.Machine

/-- A step that goes on: neither a fault nor a refusal. -/
def Completes (o : Host.Outcome State Fault Refusal) : Prop := ∃ t, o = .next t

/-! ### Request port (R181, R182) -/

/-- R182, R202: a response's payload fits its frame, and a request's the frame it came in. -/
def Item.fits : Item → Bool
  | .request _ _ payload => decide (payload.length ≤ 60)
  | .response _ _ payload => decide (payload.length ≤ 59)

/-- R181: the queue holds at most four items, each of which fits its frame. -/
def Port.bounded (p : Port) : Bool := decide (p.queue.length ≤ Config.queueLimit) && p.queue.all Item.fits

/-! ### Attention (R170, R171) -/

/-- R171: the stack ascends from bottom to top; it is listed from its top. -/
def descends : List Nat → Bool
  | [] => true
  | [_] => true
  | a :: b :: rest => decide (b < a) && descends (b :: rest)

/-- R170, R171: the stack holds at most four ascending levels of 1 to 7, and every source's level is at
most 7 and its arbitration ID at most 15. -/
def Attention.ordered (a : Attention) : Bool :=
  decide (a.stack.length ≤ Config.stackLimit) && descends a.stack &&
  a.stack.all (fun l => decide (1 ≤ l) && decide (l ≤ 7)) &&
  a.sources.items.all fun r => decide (r.level ≤ 7) && decide (r.id ≤ 15)

/-! ### Inlet (R1) -/

/-- R1: enable is asserted exactly in Ready and Drawing. -/
def Inlet.enableFollows (i : Inlet) : Bool := decide (i.enable = i.state.enables)

/-- R1, R3, R10, R11: the duty within 1000 permille and the offer 0 or 60 to 540, both 0 without a pilot;
each timer 0 outside its state and within its limit. -/
def Inlet.inRange (i : Inlet) : Bool :=
  decide (i.duty ≤ 1000) &&
  (decide (i.offered = 0) || (decide (60 ≤ i.offered) && decide (i.offered ≤ 540))) &&
  (i.pilot || (decide (i.duty = 0) && decide (i.offered = 0))) &&
  (decide (i.idleMs = 0) || (decide (i.state = .drawing) && decide (i.idleMs ≤ Config.idleLimitMs))) &&
  (decide (i.pausingMs = 0) ||
    (decide (i.state = .pausing) && decide (i.pausingMs ≤ Config.pausingLimitMs)))

/-! ### Heater zones (R44, R45) -/

/-- R45: a zone that is Off, Isolated or Faulted has duty zero and an open contactor; it asks for no power
and is granted none. -/
def Zone.restful (z : Zone) : Bool :=
  z.state.connected ||
  (!z.contactor && decide (z.duty = 0) && decide (z.grant = 0) && decide (z.demand = 0))

/-- R44, R47: the demand within P_max, and the duty within 0 to 1000 permille. -/
def Zone.inRange (z : Zone) : Bool :=
  decide (1 ≤ z.pMax) && decide (z.demand ≤ z.pMax) && decide (z.duty ≤ 1000)

/-- What isolation remembers is the state of a connected zone (R56). -/
def Zone.remembers (z : Zone) : Bool :=
  match z.resume with
  | none => true
  | some st => st.connected

/-- The temperature that one set of readings brings to a zone. -/
def tempOf (t : ZoneTemps) (i : Fin 6) : Int :=
  match i with
  | 0 => t.zone1 | 1 => t.zone2 | 2 => t.zone3 | 3 => t.zone4 | 4 => t.zone5 | 5 => t.zone6

def Heater.restful (h : Heater) : Bool := h.zones.items.all fun z => z.restful && z.inRange && z.remembers

/-- R45: at most one zone is Isolated. -/
def Heater.oneIsolated (h : Heater) : Bool :=
  decide ((h.zones.items.filter fun z => decide (z.state = .isolated)).length ≤ 1)

/-! ### Insulation (R85, R92) -/

/-- R85: at most one non-Free record per origin. -/
def Insulation.oneRecordEach (m : Insulation) : Bool :=
  decide ((m.faults.items.filterMap fun r => r.map FaultRec.origin).Nodup)

/-! ### Accounts (R144, R145, R159, R160) -/

/-- R145, R159, R160: residues below a Wh; the total below its maximum, or at it, saturated and without
residue; the heat within the total; the costs within their maximum; the idle counts in their ranges. -/
def Account.registersBounded (a : Account) : Bool :=
  decide (a.totalJ < Config.joulesPerWh) && decide (a.heatJ < Config.joulesPerWh) &&
  (decide (a.totalWh < Config.maxWh) ||
    (decide (a.totalWh = Config.maxWh) && decide (a.totalJ = 0) && a.satTotal)) &&
  decide (a.idleSec < 60) && decide (a.idleMin ≤ 65535) &&
  decide (a.heatWh * Config.joulesPerWh + a.heatJ ≤ a.totalWh * Config.joulesPerWh + a.totalJ) &&
  decide (a.costEnergy ≤ Config.maxCost) && decide (a.costIdle ≤ Config.maxCost)

/-- R145: the registers within their ranges, and with them the grace used and the caps that are present. -/
def Account.bounded (a : Account) : Bool :=
  a.registersBounded && decide (a.graceUsed ≤ 240) && a.energyCap.all (fun c => decide (c ≤ Config.maxWh)) &&
  a.costCap.all fun c => decide (c ≤ Config.maxCost)

/-- The accounts that stand, in slot order. -/
def Accounts.standing (t : Accounts) : List Account := t.slots.items.filterMap Slot.acct

def Accounts.bounded (t : Accounts) : Bool := t.standing.all Account.bounded

/-- R144: no two non-Free accounts carry the same payer token. -/
def Accounts.tokensDiffer (t : Accounts) : Bool := decide ((t.standing.map Account.token).Nodup)

/-- Section 9.2: at most one account is Active. -/
def Accounts.oneActive (t : Accounts) : Bool :=
  decide ((t.slots.items.filter Slot.isActive).length ≤ 1)

/-- How often an account names tariff `i`: as current and as pending (R136). -/
def Account.names (i : Fin 8) (a : Account) : Nat :=
  (if a.tariff = i then 1 else 0) + if a.pending = some i then 1 else 0

/-- R136, R138: each reference count is the number of times the accounts name the tariff, and a tariff that
is named is defined. -/
def State.refsCount (s : State) : Bool :=
  (fins 8).all fun i =>
    decide ((s.tariff i).refs = (s.act.standing.map (Account.names i)).sum) &&
    (decide ((s.tariff i).refs = 0) || (s.tariff i).defined)

/-! ### Sessions (sections 9.2, 11.6, 6.x) -/

/-- Section 9.2, R188, R16: no account is Active while the inlet is Unplugged; supervision is armed only
with an account Active, and not disarmed with one; in Starting and while parked the inlet stands
Unplugged. -/
def State.sessionOk (s : State) : Bool :=
  s.act.oneActive &&
  (decide (s.inl.state ≠ .unplugged) || s.act.activeSlot.isNone) &&
  (match s.rqp.sup with
   | .disarmed => s.act.activeSlot.isNone
   | .armed _ => s.act.activeSlot.isSome
   | .expired => true) &&
  (match s.pwc.state with
   | .active => true
   | .starting | .keepWarm | .dormant => decide (s.inl.state = .unplugged) && !s.pwc.resuming)

/-! ### The charger command (section 2.6) -/

/-- The conditions under which the charger may run. -/
def State.mayCharge (s : State) : Bool :=
  decide (s.inl.state = .drawing) &&
  (match s.act.active with
   | some (_, a) => !a.capReached && !a.saturated
   | none => false) &&
  decide (s.imon.pos.severity ≠ .fault) && decide (s.imon.neg.severity ≠ .fault) &&
  decide (s.rqp.sup ≠ .expired)

/-- Section 2.6: the charger command is above zero only while the charger may run. -/
def State.chargerSafe (s : State) : Bool := decide (s.alc.chargerCmd = 0) || s.mayCharge

/-! ### What a statement about a request says first -/

/-- R184, R185: the port is about to hand the request with code `c` and payload `p` to its owner: it is the
oldest request awaiting execution, the port runs, and the part is not Starting. -/
def State.serves (s : State) (c : Byte) (p : List Byte) : Prop :=
  s.queued (isCode c) = some p ∧ s.pwc.state ≠ .starting

/-- 13.4: the codes that a request command executes; none for an event. -/
def codesOf : Instr → Option (Byte → Bool)
  | .identify => some (isCode 0x01)
  | .configure => some (isCode 0x02)
  | .heartbeat => some (isCode 0x03)
  | .restart => some (isCode 0x04)
  | .park => some (isCode 0x08)
  | .readResetCauses => some (isCode 0x09)
  | .clearResetCauses => some (isCode 0x0A)
  | .readInlet => some (isCode 0x10)
  | .setChargeLimits => some (isCode 0x18)
  | .reportBattery => some (isCode 0x19)
  | .writeCurve => some (isCode 0x1A)
  | .readCurve => some (isCode 0x1B)
  | .readAllocation => some (isCode 0x1C)
  | .writeZone => some (isCode 0x20)
  | .readZone => some (isCode 0x21)
  | .resetZone => some (isCode 0x22)
  | .setAllowance => some (isCode 0x23)
  | .readAllowance => some (isCode 0x24)
  | .readInsulation => some (isCode 0x28)
  | .setThresholds => some (isCode 0x29)
  | .readFault => some (isCode 0x2A)
  | .acknowledgeFault => some (isCode 0x2B)
  | .retireFault => some (isCode 0x2C)
  | .stop => some (isCode 0x30)
  | .resume => some (isCode 0x31)
  | .discardSnapshot => some (isCode 0x32)
  | .readSnapshot => some (isCode 0x33)
  | .readMeter => some (isCode 0x38)
  | .clearUnbilled => some (isCode 0x39)
  | .setClock => some (isCode 0x40)
  | .readClock => some (isCode 0x41)
  | .writeTariff => some (isCode 0x42)
  | .readTariff => some (isCode 0x43)
  | .openAccount => some (isCode 0x48)
  | .findAccount => some (isCode 0x49)
  | .listAccounts => some (isCode 0x4A)
  | .readAccount => some (isCode 0x4B)
  | .amendAccount => some (isCode 0x4C)
  | .activateAccount => some (isCode 0x4D)
  | .suspendAccount => some (isCode 0x4E)
  | .closeAccount => some (isCode 0x4F)
  | .retireAccount => some (isCode 0x50)
  | .takeAttention => some (isCode 0x58)
  | .releaseAttention => some (isCode 0x59)
  | .setAttentionSource => some (isCode 0x5A)
  | .unknownRequest => some unknownCode
  | .transactionStart | .transactionEnd _ | .proximityReading _ _ | .pilotWindowEnd _
  | .idleTimerExpiry | .pausingTimerExpiry | .quickReading _ | .periodicPass | .batteryReportStale
  | .zoneSensorReading _ | .clockAdvance _ | .poleVoltageReading _ _ | .cyclePeriodExpiry
  | .baseSettleEnd | .baseSampleEnd | .shiftSettleEnd | .shiftSampleEnd | .supervisionExpiry
  | .wakeLineEdge _ _ | .wakeTimerExpiry _ | .resumptionEnd _ _ | .startingEnd _ _ _ | .supplyReset
  | .resetPin | .resetPinRelease => none

/-- 13.4: the payload length of a request whose entry checks the length before anything else. -/
def lengthFirst : Instr → Option Nat
  | .identify | .heartbeat | .restart | .readResetCauses | .clearResetCauses | .readInlet
  | .readCurve | .readAllowance | .readInsulation | .stop | .resume | .discardSnapshot
  | .readSnapshot | .clearUnbilled | .readClock | .listAccounts | .takeAttention
  | .releaseAttention => some 0
  | .configure => some 10
  | .park => some 3
  | .setChargeLimits => some 9
  | .reportBattery => some 4
  | .resetZone => some 1
  | .setAllowance => some 2
  | .setThresholds => some 4
  | .setClock => some 6
  | .openAccount => some 20
  | .findAccount => some 8
  | .readAccount => some 3
  | .amendAccount => some 14
  | .activateAccount => some 2
  | .suspendAccount => some 2
  | .closeAccount => some 2
  | .retireAccount => some 2
  | .setAttentionSource => some 3
  | .writeCurve | .readAllocation | .writeZone | .readZone | .readFault | .acknowledgeFault
  | .retireFault | .readMeter | .writeTariff | .readTariff | .unknownRequest | .transactionStart
  | .transactionEnd _ | .proximityReading _ _ | .pilotWindowEnd _ | .idleTimerExpiry
  | .pausingTimerExpiry | .quickReading _ | .periodicPass | .batteryReportStale
  | .zoneSensorReading _ | .clockAdvance _ | .poleVoltageReading _ _ | .cyclePeriodExpiry
  | .baseSettleEnd | .baseSampleEnd | .shiftSettleEnd | .shiftSampleEnd | .supervisionExpiry
  | .wakeLineEdge _ _ | .wakeTimerExpiry _ | .resumptionEnd _ _ | .startingEnd _ _ _ | .supplyReset
  | .resetPin | .resetPinRelease => none

/-! ### Between commands -/

/-- The model's own flags are clear between commands (DESIGN CHOICE, assumption 23). -/
def State.quiet (s : State) : Bool := decide (s.work = Work.clear)

end Sys2Proof.Machine
end

