-- ==== Sys2Proof/WellFormed.lean ====
section
/-! DEFINITION. The ranges a command's operands come in: the frame widths of R203 for measured values and
the meaning of a pilot window (R3). `exec` gives every command a meaning, well-formed or not; the predicate
says which operands the block's inputs can present. -/

namespace Sys2Proof

/-- A signed value that fits 16 bits. -/
def fitsInt16 (x : Int) : Bool := decide (-32768 ≤ x) && decide (x ≤ 32767)

/-- A signed value that fits 32 bits. -/
def fitsInt32 (x : Int) : Bool := decide (-2147483648 ≤ x) && decide (x ≤ 2147483647)

/-- R118, R203: voltage and current are unsigned 16-bit fields, active power a signed 32-bit field. -/
def PhaseReading.wf (p : PhaseReading) : Bool :=
  decide (p.volts < 65536) && decide (p.amps < 65536) && fitsInt32 p.watts

def FrontEnd.wf (f : FrontEnd) : Bool := f.phase1.wf && f.phase2.wf && f.phase3.wf

def PhaseEnergy.wf (e : PhaseEnergy) : Bool :=
  fitsInt32 e.phase1 && fitsInt32 e.phase2 && fitsInt32 e.phase3

/-- R203: a temperature is a signed 16-bit field; a reading outside R46's sensor range stays reportable. -/
def ZoneTemps.wf (t : ZoneTemps) : Bool :=
  fitsInt16 t.zone1 && fitsInt16 t.zone2 && fitsInt16 t.zone3 &&
  fitsInt16 t.zone4 && fitsInt16 t.zone5 && fitsInt16 t.zone6

/-- R3: full periods take time, and are high for at most all of it. -/
def PilotWindow.wf : PilotWindow → Bool
  | .noFullPeriod => true
  | .periods high total => decide (0 < total) && decide (high ≤ total)

/-- A command whose operands the block's inputs can present. -/
def Instr.wf : Instr → Bool
  | .proximityReading _ front => front.wf
  | .pilotWindowEnd window => window.wf
  | .quickReading front => front.wf
  | .zoneSensorReading temps => temps.wf
  | .clockAdvance energy => energy.wf
  | .poleVoltageReading up un => fitsInt16 up && fitsInt16 un
  | .wakeLineEdge _ front => front.wf
  | .wakeTimerExpiry front => front.wf
  | .resumptionEnd front temps => front.wf && temps.wf
  | .startingEnd _ front temps => front.wf && temps.wf
  | .identify | .configure | .heartbeat | .restart | .park | .readResetCauses | .clearResetCauses
  | .readInlet | .setChargeLimits | .reportBattery | .writeCurve | .readCurve | .readAllocation
  | .writeZone | .readZone | .resetZone | .setAllowance | .readAllowance | .readInsulation
  | .setThresholds | .readFault | .acknowledgeFault | .retireFault | .stop | .resume
  | .discardSnapshot | .readSnapshot | .readMeter | .clearUnbilled | .setClock | .readClock
  | .writeTariff | .readTariff | .openAccount | .findAccount | .listAccounts | .readAccount
  | .amendAccount | .activateAccount | .suspendAccount | .closeAccount | .retireAccount
  | .takeAttention | .releaseAttention | .setAttentionSource | .unknownRequest
  | .transactionStart | .transactionEnd _ | .idleTimerExpiry | .pausingTimerExpiry
  | .periodicPass | .batteryReportStale | .cyclePeriodExpiry | .baseSettleEnd | .baseSampleEnd
  | .shiftSettleEnd | .shiftSampleEnd | .supervisionExpiry | .supplyReset | .resetPin
  | .resetPinRelease => true

end Sys2Proof
end

