-- ==== Sys2Proof/Certificates/Slice0/Obligations.lean ====
section
/-! DEFINITION. The statements for the provers. Each docstring names the rules it formalises; where a
clause rests on a choice of the model, it names the log entry. -/

open Sys2Proof Sys2Proof.Machine

/-! ### The step, and what every request has in common -/

/-- A step takes the command at the front of the queue and runs its meaning on the rest (the model's queue,
assumption 1). -/
def Obligations.StepTakesTheFrontCommand : Prop :=
  ∀ (c : Instr) (q : List Instr) (s : State), step (s.withPending (c :: q)) = exec c (s.withPending q)

/-- With no command waiting, a step is one ms (the model's choice, assumption 2): the timers of R10, R11,
R19, R31, R69, R71, R121, R132, R188 and R195 move, each where its block runs, and nothing else changes. In a
parked state the wake timer's elapsed count gains a minute every 60000 ms, up to 10080. -/
def Obligations.IdleStepPassesOneMillisecond : Prop :=
  ∀ s : State, s.pending = [] → ∃ t, step s = .next t ∧
    t.tck = { s.tck with secondMs := min 1000 (s.tck.secondMs + 1) } ∧
    t.inl = { s.inl with
      idleMs := if s.inl.state = .drawing ∧ s.alc.force.gridGrant = 0 then min 30000 (s.inl.idleMs + 1)
        else s.inl.idleMs,
      pausingMs := if s.inl.state = .pausing then min 3000 (s.inl.pausingMs + 1) else s.inl.pausingMs } ∧
    t.alc = { s.alc with
      staleMs := if s.alc.repStale then s.alc.staleMs else min 2000 (s.alc.staleMs + 1),
      periodMs := if s.blocksRun then min s.passPeriod (s.alc.periodMs + 1) else s.alc.periodMs } ∧
    t.imon = { s.imon with
      phaseMs := if s.blocksRun then min s.imon.cycle.duration (s.imon.phaseMs + 1) else s.imon.phaseMs,
      periodMs := if s.blocksRun then min 600000 (s.imon.periodMs + 1) else s.imon.periodMs } ∧
    t.mtr = { s.mtr with spanMs := if s.meterRuns then s.mtr.spanMs + 1 else s.mtr.spanMs } ∧
    t.rqp = { s.rqp with sup := match s.rqp.sup with
      | .armed left => .armed (left - 1)
      | .disarmed => .disarmed
      | .expired => .expired } ∧
    t.pwc = (if (s.pwc.state = .keepWarm ∨ s.pwc.state = .dormant) ∧ s.pwc.elapsedMin < 10080 then
        { s.pwc with
          elapsedMin := if 60000 ≤ s.pwc.elapsedMs + 1 then s.pwc.elapsedMin + 1 else s.pwc.elapsedMin,
          elapsedMs := if 60000 ≤ s.pwc.elapsedMs + 1 then 0 else s.pwc.elapsedMs + 1 }
      else s.pwc) ∧
    t.hzc = s.hzc ∧ t.stu = s.stu ∧ t.act = s.act ∧ t.atn = s.atn ∧ t.work = s.work ∧
    t.choices = s.choices ∧ t.pending = s.pending

/-- Every command completes, whatever the state (the model's reading of the manual: it has no fault and no
refusal of its own, assumption 24), and leaves the queue of commands that wait behind it (the model's,
assumption 1). The flags that a command gathers for itself are clear again after every step (the model's own
fields, assumption 23). -/
def Obligations.EveryCommandCompletes : Prop :=
  (∀ (c : Instr) (s : State), ∃ t, exec c s = .next t ∧ t.pending = s.pending) ∧
  (∀ s t : State, s.quiet = true → step s = .next t → t.quiet = true)

/-- R184, R185: a request command runs the oldest request awaiting execution, and the request is replaced in
the queue, in its place, by its response, which carries its tag. In Starting it is refused with NOT_READY; a
code that names no request is refused with UNKNOWN; both without effect. When the oldest request is not the
command's, nothing changes (the model's choice, assumption 4). -/
def Obligations.RequestsAreServedInTurn : Prop :=
  (∀ (c : Instr) (f : Byte → Bool) (p : List Byte) (s : State), codesOf c = some f →
    s.queued f = some p → s.pwc.state = .starting → exec c s = .next (s.answer ⟨.notReady, []⟩)) ∧
  (∀ (code : Byte) (p : List Byte) (s : State), code ∉ requestCodes → s.serves code p →
    exec .unknownRequest s = .next (s.answer ⟨.unknown, []⟩)) ∧
  (∀ (c : Instr) (f : Byte → Bool) (s : State), codesOf c = some f → s.queued f = none →
    exec c s = .next s) ∧
  (∀ (r : Reply) (s : State) (before after : List Item) (tag : Nat) (code : Byte) (p : List Byte),
    (∀ x ∈ before, ∃ g st b, x = .response g st b) →
    s.rqp.queue = before ++ .request tag code p :: after →
    nextRequest s.rqp.queue = some (tag, code, p) ∧
    s.answer r = { s with rqp := { s.rqp with
      queue := before ++ .response tag r.status r.payload :: after } })

/-- R185, R147, 13.4: the checks that come before a request's own conditions, each of which refuses it and
changes nothing else: a payload of the wrong length with LENGTH; a slot above 15 with RANGE, a generation that
is not the slot's with STALE and the slot's own, a Free slot with STATE (an Activate reports its first
condition there: the model's reading, assumption 37); a number, part, selector or index out of range with
RANGE, checked before the length where the entry gives it first (the model's reading, assumption 8) and after
it where the entry gives no order, as for Reset Zone (the model's choice, assumption 9); a part of Read Account
above 1, and a curve whose temperatures do not ascend, with RANGE (R151, R39). -/
def Obligations.ChecksComeFirst : Prop :=
  ∀ (c : Instr) (f : Byte → Bool) (p : List Byte) (s : State), codesOf c = some f →
    s.queued f = some p → s.pwc.state ≠ .starting →
    (∀ n, lengthFirst c = some n → p.length ≠ n → exec c s = .next (s.answer ⟨.length, []⟩)) ∧
    (∀ n, ((c = .readAccount ∧ n = 3) ∨ (c = .amendAccount ∧ n = 14) ∨
        ((c = .activateAccount ∨ c = .suspendAccount ∨ c = .closeAccount ∨ c = .retireAccount) ∧ n = 2)) →
      p.length = n →
      (15 < field p 0 1 → exec c s = .next (s.answer ⟨.range, []⟩)) ∧
      (∀ i : Fin 16, field p 0 1 = i.val →
        (field p 1 1 ≠ (s.act.slots.get i).gen →
          exec c s = .next (s.answer ⟨.stale, be 1 (s.act.slots.get i).gen⟩)) ∧
        (field p 1 1 = (s.act.slots.get i).gen → (s.act.slots.get i).acct = none →
          exec c s = .next (s.answer ⟨.state, if c = .activateAccount then be 1 1 else []⟩)))) ∧
    (∀ limit, ((c = .readAllocation ∧ limit = 1) ∨ (c = .readMeter ∧ limit = 1) ∨
        (c = .readFault ∧ limit = 8) ∨ (c = .readTariff ∧ limit = 7)) →
      (limit < field p 0 1 → exec c s = .next (s.answer ⟨.range, []⟩)) ∧
      (field p 0 1 ≤ limit → p.length ≠ 1 → exec c s = .next (s.answer ⟨.length, []⟩))) ∧
    (∀ n, ((c = .readZone ∧ n = 1) ∨ (c = .writeZone ∧ n = 9)) →
      (p = [] → exec c s = .next (s.answer ⟨.length, []⟩)) ∧
      (p ≠ [] → (field p 0 1 = 0 ∨ 6 < field p 0 1) → exec c s = .next (s.answer ⟨.range, []⟩)) ∧
      (1 ≤ field p 0 1 → field p 0 1 ≤ 6 → p.length ≠ n → exec c s = .next (s.answer ⟨.length, []⟩))) ∧
    (c = .resetZone → p.length = 1 → (field p 0 1 = 0 ∨ 6 < field p 0 1) →
      exec c s = .next (s.answer ⟨.range, []⟩)) ∧
    (c = .park → p.length = 3 → field p 0 1 ≠ 1 → field p 0 1 ≠ 2 →
      exec c s = .next (s.answer ⟨.range, []⟩)) ∧
    (c = .writeCurve → (p = [] → exec c s = .next (s.answer ⟨.length, []⟩)) ∧
      (12 < field p 0 1 → exec c s = .next (s.answer ⟨.range, []⟩)) ∧
      (field p 0 1 ≤ 12 → p.length ≠ 1 + 4 * field p 0 1 → exec c s = .next (s.answer ⟨.length, []⟩)) ∧
      (field p 0 1 ≤ 12 → p.length = 1 + 4 * field p 0 1 →
        ¬ ((readPoints (field p 0 1) (p.drop 1)).Pairwise fun a b => a.temp < b.temp) →
        exec c s = .next (s.answer ⟨.range, []⟩))) ∧
    (c = .readAccount → p.length = 3 → ∀ i : Fin 16, field p 0 1 = i.val →
      field p 1 1 = (s.act.slots.get i).gen → (s.act.slots.get i).acct ≠ none → 1 < field p 2 1 →
      exec c s = .next (s.answer ⟨.range, []⟩)) ∧
    (c = .writeTariff → (p = [] → exec c s = .next (s.answer ⟨.length, []⟩)) ∧
      (7 < field p 0 1 → exec c s = .next (s.answer ⟨.range, []⟩)) ∧
      (field p 0 1 ≤ 7 → p.length = 1 → exec c s = .next (s.answer ⟨.length, []⟩)))

/-- 13.5, with R15, R40, R41, R61, R63, R80, R98, R113, R127, R135, R142, R150, R151 and R192: each read
request answers OK with its image, of the length 13.5 gives, and changes nothing else. Every image is given
field by field, with the codes of 13.3. Some of it is the model's. Its readings: Read Allocation's time
received comes from the battery report (assumption 18), Read Meter's wired phase count is the Configure value
(assumption 17), and a tariff's defined flag, the saturation of the Unbilled register and the locating state
are formed from other fields (assumption 22). Its choices: the time to the next advance is at most 999
(assumption 14), the locating state is 0 for none and 1 for active (assumption 42), and a value wider than its
field, such as the span of a long tick, is reported modulo the field (assumption 21). -/
def Obligations.ReadRequestsReport : Prop :=
  ∀ s : State,
    let yes (b : Bool) : Nat := if b then 1 else 0
    let inletCode (x : InletState) : Nat := match x with
      | .unplugged => 0 | .plugged => 1 | .offered => 2 | .ready => 3 | .drawing => 4 | .pausing => 5
      | .faulted => 6
    let cableCode (x : Option CableClass) : Nat := match x with
      | none => 0 | some .a => 1 | some .b => 2 | some .c => 3 | some .d => 4 | some .invalid => 5
    let zoneCode (x : ZoneState) : Nat := match x with
      | .off => 0 | .requested => 1 | .heating => 2 | .holding => 3 | .isolated => 4 | .faulted => 5
    let zoneFaultNo (x : Option ZoneFault) : Nat := match x with
      | none => 0 | some .overTemperature => 1 | some .sensor => 2 | some .insulation => 3
    let stateCode (x : AcctState) : Nat := match x with
      | .opened => 1 | .active => 2 | .suspended => 3 | .closed => 4
    let reasonNo (x : Option SuspendReason) : Nat := match x with
      | none => 0 | some .request => 1 | some .unplug => 2 | some .stop => 3 | some .portReset => 4
    let powerCode (x : PowerState) : Nat := match x with
      | .starting => 0 | .active => 1 | .keepWarm => 2 | .dormant => 3
    let senseCode (x : WakeSense) : Nat := match x with
      | .rising => 0 | .falling => 1 | .either => 2
    let supCode (x : Supervision) : Nat := match x with
      | .disarmed => 0 | .armed _ => 1 | .expired => 2
    let sourceCode (x : FigureSource) : Nat := match x with
      | .battery => 0 | .grid => 1
    let poleNo (x : Option Pole) : Nat := match x with
      | none => 0 | some .pos => 1 | some .neg => 2
    let severityCode (x : Severity) : Nat := match x with
      | .unknown => 0 | .normal => 1 | .warning => 2 | .fault => 3
    let gradeNo (x : Option Grade) : Nat := match x with
      | none => 0 | some .fault => 1 | some .warning => 2 | some .margin => 3 | some .clear => 4
    let cycleCode (x : Cycle) : Nat := match x with
      | .idle => 0 | .baseSettle => 1 | .baseSample => 2 | .shiftSettle => 3 | .shiftSample => 4
    let measuredCode (x : CycleOutcome) : Nat := match x with
      | .none => 0 | .measured => 1 | .noBus => 2
    let recordNo (x : Option FaultRec) : Nat := match x.map FaultRec.state with
      | none => 0 | some .active => 1 | some .acknowledged => 2 | some .cleared => 3 | some .resolved => 4
    let originNo (x : Option Origin) : Nat := match x with
      | none => 0 | some (.pole .pos) => 1 | some (.pole .neg) => 2 | some (.zone z) => 3 + z.val
    let locatedCode (x : LocateOutcome) : Nat := match x with
      | .none => 0 | .found => 1 | .notExplained => 2 | .abandoned => 3
    let causeCode (x : StopCause) : Nat := match x with
      | .insulationFault => 1 | .request => 2
    let zoneNo (x : Option (Fin 6)) : Nat := match x with
      | none => 0 | some z => z.val + 1
    let zones (f : Fin 6 → Bool) : Nat :=
      yes (f 0) + 2 * yes (f 1) + 4 * yes (f 2) + 8 * yes (f 3) + 16 * yes (f 4) + 32 * yes (f 5)
    let handle (x : Option Handle) : List Byte := match x with
      | none => be 1 0 ++ be 1 0 ++ be 1 0
      | some h => be 1 1 ++ be 1 h.slot.val ++ be 1 h.gen
    let pole (x : PoleRec) : List Byte := be 1 (severityCode x.severity) ++ be 1 (gradeNo x.grade) ++
      be 1 (x.warnCount + 4 * x.faultCount + 16 * x.normalCount)
    (let c := s.rqp.config
     identifyImage s = be 2 0x5A4E ++ be 2 0x02E6 ++ be 1 1 ++ be 1 64 ++ be 1 4 ++
      be 1 (powerCode s.pwc.state) ++ be 1 (yes s.rqp.configured) ++ be 1 c.wired ++ be 2 c.acMax ++
      be 2 c.dcMax ++ be 2 c.eff ++ be 2 c.window ++ be 1 (senseCode c.sense) ++
      be 1 (supCode s.rqp.sup) ++
      be 2 (match s.rqp.sup with | .armed ms => ms | .disarmed => 0 | .expired => 0)) ∧
    (curveImage s = be 1 s.alc.curve.length ++
      (s.alc.curve.map fun q => beInt 2 q.temp ++ be 2 q.amps).flatten) ∧
    (let g := s.alc.grid
     let f := s.alc.force
     allocationPart0 s = be 2 g.iLim ++ be 4 g.pAc ++ be 2 g.pDc ++ be 2 g.bGrant ++ be 2 g.hGrant ++
      be 1 (sourceCode f.source) ++ be 2 f.bGrant ++ be 2 f.hGrant ++
      ((fins 6).map fun i => be 2 (f.zones.get i)).flatten ++ be 2 f.iChg ++
      be 3 s.alc.causes.toNat ++ be 3 s.alc.prevCauses.toNat ++ be 1 (yes s.alc.held)) ∧
    (let x := s.alc.inputs
     allocationPart1 s = be 2 x.offered ++ be 2 x.cable ++ be 2 x.ceiling ++ be 2 x.acMax ++ be 1 x.n ++
      be 2 x.vph ++ be 2 x.eff ++ be 2 x.dcMax ++ be 2 x.vbus ++ beInt 2 x.temp ++ be 2 x.bms ++
      be 1 (yes x.stale) ++
      ((fins 6).map fun i => be 1 (zoneCode (x.zones.get i).state) ++
        be 2 (x.zones.get i).demand).flatten ++
      be 2 x.share ++ be 1 (16 * severityCode x.sevPos + severityCode x.sevNeg) ++
      be 1 (yes x.acctExists + 2 * yes x.capReached + 4 * yes x.saturated) ++ be 1 (supCode x.sup) ++
      be 2 x.heatLimit ++ be 1 (yes x.allowanceZero + 2 * yes x.nominal) ++ be 1 (inletCode x.inlet) ++
      be 4 s.alc.repTime) ∧
    (let m := s.imon
     insulationImage s = be 1 (cycleCode m.cycle) ++ be 2 m.phaseMs ++ be 1 (poleNo m.shifted) ++
      be 1 m.discards ++ be 2 m.uP0 ++ be 2 m.uN0 ++ be 2 m.uP1 ++ be 2 m.uN1 ++ be 2 m.vbus ++
      be 2 m.rPos ++ be 2 m.rNeg ++ be 1 (measuredCode m.outcome) ++ be 4 m.endTime ++ be 2 m.warnTh ++
      be 2 m.faultTh ++ be 2 m.warnK ++ be 2 m.faultK ++ be 2 m.returnK ++ pole m.pos ++ pole m.neg ++
      be 1 (128 * yes m.loc.pole.isSome + poleNo m.loc.pole)) ∧
    (∀ (k : Nat) (x : Option FaultRec), faultImage k x = be 1 k ++ be 1 (recordNo x) ++
      be 1 (originNo (x.map FaultRec.origin)) ++
      be 1 ((x.map fun y => severityCode y.highest).getD 0) ++ be 2 ((x.map FaultRec.lowestR).getD 0) ++
      be 4 ((x.map FaultRec.first).getD 0) ++ be 4 ((x.map FaultRec.last).getD 0) ++
      be 2 ((x.map FaultRec.count).getD 0)) ∧
    (let l := s.imon.loc
     faultSummary s = be 1 8 ++
      ((fins 8).map fun k => be 1 (originNo ((s.imon.faults.get k).map FaultRec.origin)) ++
        be 1 (recordNo (s.imon.faults.get k))).flatten ++
      be 1 (yes l.pole.isSome) ++ be 1 (poleNo l.pole) ++
      be 1 (zones fun y => decide (y ∈ l.candidates)) ++ be 1 (zoneNo l.current) ++ be 1 l.tried ++
      be 1 (poleNo l.deferred) ++ be 1 (locatedCode l.outcome) ++ be 1 (originNo l.origin) ++
      be 4 l.endTime) ∧
    (snapshotImage s = be 2 s.stu.epoch ++ be 1 (yes s.stu.overflow) ++ be 1 (yes s.stu.bank.isSome) ++
      match s.stu.bank with
      | none => List.replicate 27 0#8
      | some c => be 2 c.epoch ++ be 1 (causeCode c.cause) ++ handle c.handle ++
        be 1 (zones c.enabled.get) ++ ((fins 6).map fun i => beInt 2 (c.targets.get i)).flatten ++
        be 2 c.ceiling ++ be 2 c.share ++ be 4 c.time) ∧
    (meterPart0 s = be 1 s.rqp.config.wired ++
      ((fins 3).map fun i => let q := s.mtr.phases.get i
        be 2 q.volts ++ be 2 q.amps ++ beInt 4 q.watts ++ be 1 (yes q.live)).flatten ++
      be 1 s.mtr.n ++ be 2 s.mtr.vph ++ be 4 s.mtr.unbilledWh ++ be 2 s.mtr.unbilledJ ++
      be 1 (yes (decide (99999999 ≤ s.mtr.unbilledWh)))) ∧
    (meterPart1 s = be 1 (yes s.mtr.last.isSome) ++
      (match s.mtr.last with
        | none => List.replicate 24 0#8
        | some q => be 4 q.t ++ be 2 q.spanMs ++ be 2 q.p1 ++ be 2 q.p2 ++ be 2 q.p3 ++ be 2 q.total ++
          be 2 q.heat ++ be 1 (sourceCode q.source) ++ be 2 q.bGrant ++ be 2 q.hGrant ++
          handle q.target) ++
      be 1 (yes s.mtr.lastIndex.isSome) ++ be 4 (s.mtr.lastIndex.getD 0) ++
      be 1 ((s.mtr.last.map fun q => yes q.crossing).getD 0)) ∧
    (clockImage s = be 4 s.tck.wall ++ beInt 2 s.tck.offset ++ be 1 (yes s.tck.isSet) ++
      be 2 ((((s.tck.wall : Int) + 60 * s.tck.offset) % 86400).toNat / 60) ++ be 4 (s.tck.wall / 900) ++
      be 2 (min 999 (1000 - s.tck.secondMs))) ∧
    (∀ i : Fin 8, let r := s.tck.tariffs.get i
      tariffImage i s = be 1 i.val ++ be 1 (yes (decide (r.bands ≠ []))) ++ be 1 r.bands.length ++
        ([0, 1, 2, 3].map fun k => be 2 ((r.bands[k]?.map TariffBand.start).getD 0) ++
          be 4 ((r.bands[k]?.map TariffBand.price).getD 0)).flatten ++
        be 4 r.idleFee ++ be 1 r.grace ++ be 1 r.refs) ∧
    (let used := (fins 16).filter fun i => (s.act.slots.get i).acct.isSome
     accountList s = be 1 used.length ++ (used.map fun i => be 1 i.val ++ be 1 (s.act.slots.get i).gen ++
      be 1 (((s.act.slots.get i).acct.map fun a => stateCode a.state).getD 0)).flatten) ∧
    (inletImage s = be 1 (inletCode s.inl.state) ++ be 1 (cableCode s.inl.cls) ++ be 1 (yes s.inl.pilot) ++
      be 2 s.inl.duty ++ be 2 s.inl.offered ++ be 1 (yes s.inl.enable) ++ be 4 s.inl.entryTime ++
      be 1 (s.inl.idleMs / 1000) ++ be 2 s.inl.pausingMs) ∧
    (∀ i : Fin 6, let z := s.zone i
      zoneImage i s = be 1 (i.val + 1) ++ be 1 (yes z.enabled) ++ be 1 (zoneCode z.state) ++
        beInt 2 z.target ++ be 2 z.gain ++ be 2 z.pMax ++ be 1 z.priority ++ beInt 2 z.temp ++
        be 2 z.demand ++ be 2 z.grant ++ be 2 z.duty ++ be 1 (yes z.contactor) ++
        be 1 (zoneFaultNo z.reason) ++ be 1 ((z.resume.map zoneCode).getD 255) ++
        be 1 (yes z.disableAfter)) ∧
    (∀ (i : Fin 16) (a : Account), s.account i = some a →
      accountPart0 i a s = be 1 i.val ++ be 1 (s.act.slots.get i).gen ++ be 1 (stateCode a.state) ++
        be 8 a.token ++ be 1 a.tariff.val ++ be 1 ((a.pending.map Fin.val).getD 0) ++
        be 1 (yes a.pending.isSome + 2 * yes a.energyCap.isSome + 4 * yes a.costCap.isSome +
          8 * yes a.firstActive.isSome + 16 * yes a.closed.isSome + 32 * yes a.reason.isSome) ++
        be 4 (a.energyCap.getD 0) ++ be 6 (a.costCap.getD 0) ++ be 1 (reasonNo a.reason) ++
        be 4 a.opened ++ be 4 (a.firstActive.getD 0) ++ be 4 (a.closed.getD 0) ++
        be 1 (yes a.hasDrawn + 2 * yes a.capReached +
          4 * yes (a.satTotal || a.satEnergy || a.satIdle) + 8 * yes a.satTotal +
          16 * yes a.satEnergy + 32 * yes a.satIdle) ∧
      accountPart1 a = be 4 a.totalWh ++ be 2 a.totalJ ++ be 4 a.heatWh ++ be 2 a.heatJ ++
        be 6 a.costEnergy ++ be 6 a.costIdle ++ be 1 a.idleSec ++ be 2 a.idleMin ++ be 1 a.graceUsed ++
        be 3 a.sticky.toNat ++ be 1 (yes a.statement.isSome) ++
        be 4 ((a.statement.map Statement.rounded).getD 0) ++
        be 4 ((a.statement.map Statement.closed).getD 0)) ∧
    (s.serves 0x01 [] → exec .identify s = .next (s.answer ⟨.ok, identifyImage s⟩) ∧
      (identifyImage s).length = 22) ∧
    (s.serves 0x10 [] → exec .readInlet s = .next (s.answer ⟨.ok, inletImage s⟩) ∧
      (inletImage s).length = 15) ∧
    (s.serves 0x1B [] → exec .readCurve s = .next (s.answer ⟨.ok, curveImage s⟩) ∧
      (curveImage s).length = 1 + 4 * s.alc.curve.length) ∧
    (s.serves 0x1C [0#8] → exec .readAllocation s = .next (s.answer ⟨.ok, allocationPart0 s⟩) ∧
      (allocationPart0 s).length = 38) ∧
    (s.serves 0x1C [1#8] → exec .readAllocation s = .next (s.answer ⟨.ok, allocationPart1 s⟩) ∧
      (allocationPart1 s).length = 53) ∧
    (∀ i : Fin 6, s.serves 0x21 [BitVec.ofNat 8 (i.val + 1)] →
      exec .readZone s = .next (s.answer ⟨.ok, zoneImage i s⟩) ∧ (zoneImage i s).length = 22) ∧
    (s.serves 0x24 [] → exec .readAllowance s = .next (s.answer ⟨.ok,
      be 2 s.hzc.allowWh ++ be 2 s.hzc.allowJ ++
        be 1 (if s.alc.force.source = .battery ∧ 0 < s.alc.force.hGrant then 1 else 0)⟩)) ∧
    (s.serves 0x28 [] → exec .readInsulation s = .next (s.answer ⟨.ok, insulationImage s⟩) ∧
      (insulationImage s).length = 41) ∧
    (∀ i : Fin 8, s.serves 0x2A [BitVec.ofNat 8 i.val] →
      exec .readFault s = .next (s.answer ⟨.ok, faultImage i.val (s.imon.faults.get i)⟩) ∧
      (faultImage i.val (s.imon.faults.get i)).length = 16) ∧
    (s.serves 0x2A [8#8] → exec .readFault s = .next (s.answer ⟨.ok, faultSummary s⟩) ∧
      (faultSummary s).length = 29) ∧
    (s.serves 0x33 [] → exec .readSnapshot s = .next (s.answer ⟨.ok, snapshotImage s⟩) ∧
      (snapshotImage s).length = 31) ∧
    (s.serves 0x38 [0#8] → exec .readMeter s = .next (s.answer ⟨.ok, meterPart0 s⟩) ∧
      (meterPart0 s).length = 38) ∧
    (s.serves 0x38 [1#8] → exec .readMeter s = .next (s.answer ⟨.ok, meterPart1 s⟩) ∧
      (meterPart1 s).length = 31) ∧
    (s.serves 0x41 [] → exec .readClock s = .next (s.answer ⟨.ok, clockImage s⟩) ∧
      (clockImage s).length = 15) ∧
    (∀ i : Fin 8, s.serves 0x43 [BitVec.ofNat 8 i.val] →
      exec .readTariff s = .next (s.answer ⟨.ok, tariffImage i s⟩) ∧ (tariffImage i s).length = 33) ∧
    (s.serves 0x4A [] → exec .listAccounts s = .next (s.answer ⟨.ok, accountList s⟩) ∧
      (accountList s).length = 1 + 3 * ((fins 16).filter fun i => (s.account i).isSome).length) ∧
    (∀ (i : Fin 16) (a : Account), s.account i = some a → (s.act.slots.get i).gen < 256 →
      (s.serves 0x4B ((s.act.handle i).bytes ++ [0#8]) →
        exec .readAccount s = .next (s.answer ⟨.ok, accountPart0 i a s⟩) ∧
        (accountPart0 i a s).length = 38) ∧
      (s.serves 0x4B ((s.act.handle i).bytes ++ [1#8]) →
        exec .readAccount s = .next (s.answer ⟨.ok, accountPart1 a⟩) ∧ (accountPart1 a).length = 40))

/-! ### The request port (chapter 11) -/

/-- R182, R186, R187, R202: a transaction that starts while the port runs carries the oldest response, with
its tag, status, length and payload, or an empty frame when the oldest item is a request or the queue is
empty; either frame opens with the port status as it stands, is 64 bytes long and ends in its check value.
Nothing but the transaction changes. The status byte shows the outstanding count in bits 2 to 0, the attention
line in bit 3, the last-dropped reason in bits 5 and 4 and its tag in bits 7 and 6. In Dormant and with the
reset pin low no transaction is taken (R187), and a start during a transaction changes nothing (the model's
choice, assumption 36). -/
def Obligations.TransactionCarriesTheOldestResponse : Prop :=
  (∀ (p : Port) (line : Bool), p.queue.length ≤ 4 → p.dropTag < 4 →
    (statusByte p line).toNat % 8 = p.queue.length ∧
    (statusByte p line).getLsbD 3 = line ∧
    (statusByte p line).toNat / 16 % 4 = p.dropReason.code ∧
    (statusByte p line).toNat / 64 = p.dropTag) ∧
  (∀ s : State, (s.pwc.state = .dormant ∨ s.pwc.pinLow = true ∨ s.rqp.txn ≠ none) →
    exec .transactionStart s = .next s) ∧
  ∀ s : State, s.portRuns = true → s.rqp.txn = none →
    (∀ (tag : Nat) (st : Status) (p : List Byte) (rest : List Item),
      s.rqp.queue = .response tag st p :: rest → p.length ≤ 59 →
      ∃ f, exec .transactionStart s = .next { s with rqp := { s.rqp with txn := some ⟨f, true⟩ } } ∧
        f.length = 64 ∧ f.take 4 = [statusByte s.rqp s.atn.line, BitVec.ofNat 8 (128 + tag),
          BitVec.ofNat 8 st.code, BitVec.ofNat 8 p.length] ∧
        (f.drop 4).take p.length = p ∧ f.drop 63 = [crc (f.take 63)]) ∧
    ((s.rqp.queue = [] ∨ ∃ tag code p rest, s.rqp.queue = .request tag code p :: rest) →
      ∃ f, exec .transactionStart s = .next { s with rqp := { s.rqp with txn := some ⟨f, false⟩ } } ∧
        f.length = 64 ∧ f.take 63 = statusByte s.rqp s.atn.line :: List.replicate 62 0#8 ∧
        f.drop 63 = [crc (f.take 63)])

/-- R183, R184: the end of a transaction, in its steps: collection of a carried response when all 64 bytes
were clocked, the shown drop cleared, the frame checked (64 bytes, the check value, the payload length), a
poll taken as such, and a request admitted with its tag while fewer than four items stand, or dropped with
BUSY. One that clocked more than 64 bytes collects its response and drops its frame (the model's reading,
assumption 20). A transaction in which no byte is clocked changes nothing but its own end. -/
def Obligations.TransactionEndTakesTheFrame : Prop :=
  ∀ (s : State) (x : Transaction) (b : List Byte), s.rqp.txn = some x →
    (b = [] → exec (.transactionEnd b) s = .next { s with rqp := { s.rqp with txn := none } }) ∧
    (b.length ≠ 0 →
      let queue := if x.carries = true ∧ 64 ≤ b.length then s.rqp.queue.drop 1 else s.rqp.queue
      let good := b.length = 64 ∧ b.drop 63 = [crc (b.take 63)] ∧ (b.getD 2 0#8).toNat ≤ 60
      let tag := (b.getD 1 0#8).toNat % 4
      (¬ good → exec (.transactionEnd b) s = .next { s with rqp := { s.rqp with
        queue := queue, dropReason := .frame, dropTag := tag, txn := none } }) ∧
      (good → b.getD 0 0#8 = 0#8 → exec (.transactionEnd b) s = .next { s with rqp := { s.rqp with
        queue := queue, dropReason := .none, txn := none } }) ∧
      (good → b.getD 0 0#8 ≠ 0#8 → queue.length < 4 →
        exec (.transactionEnd b) s = .next { s with rqp := { s.rqp with
          queue := queue ++ [.request tag (b.getD 0 0#8) ((b.drop 3).take (b.getD 2 0#8).toNat)],
          dropReason := .none, txn := none } }) ∧
      (good → b.getD 0 0#8 ≠ 0#8 → ¬ queue.length < 4 →
        exec (.transactionEnd b) s = .next { s with rqp := { s.rqp with
          queue := queue, dropReason := .busy, dropTag := tag, txn := none } }))

/-- R181, R182, R202: the queue never holds more than four items; every request in it came in at most 60
payload bytes, every response fits the 59 of its frame, and a frame that goes out is 64 bytes with a correct
check value. The curve's 12 points are part of the invariant, since Read Curve reports them (R39, R40). -/
def Obligations.PortStaysBounded : Prop :=
  ∀ s t : State,
    (s.rqp.bounded = true ∧ s.alc.curve.length ≤ 12 ∧
      ∀ x, s.rqp.txn = some x → x.frame.length = 64 ∧ x.frame.drop 63 = [crc (x.frame.take 63)]) →
    step s = .next t →
    (t.rqp.bounded = true ∧ t.alc.curve.length ≤ 12 ∧
      ∀ x, t.rqp.txn = some x → x.frame.length = 64 ∧ x.frame.drop 63 = [crc (x.frame.take 63)])

/-- R188, R190: Heartbeat leaves a disarmed supervision disarmed, restarts the deadline of an armed one, and
ends an expiry: armed with a fresh deadline when an account is Active, disarmed when none is. The response
reports the state, the time to the deadline and whether an expiry was cleared. -/
def Obligations.HeartbeatRenewsSupervision : Prop :=
  ∀ s : State, s.serves 0x03 [] → ∃ t, exec .heartbeat s = .next t ∧
    t.rqp = { s.rqp with
      sup := match s.rqp.sup with
        | .disarmed => .disarmed
        | .armed _ => .armed s.rqp.config.window
        | .expired => if s.act.activeSlot.isSome then .armed s.rqp.config.window else .disarmed,
      queue := answerOldest ⟨.ok, match s.rqp.sup with
        | .disarmed => be 1 0 ++ be 2 0 ++ be 1 0
        | .armed _ => be 1 1 ++ be 2 s.rqp.config.window ++ be 1 0
        | .expired => if s.act.activeSlot.isSome then be 1 1 ++ be 2 s.rqp.config.window ++ be 1 1
          else be 1 0 ++ be 2 0 ++ be 1 1⟩ s.rqp.queue } ∧
    t.stu = s.stu ∧ t.mtr = s.mtr ∧ t.tck = s.tck ∧ t.pwc = s.pwc

/-- R189: when the deadline of an armed supervision is reached, it is Expired; SUPERVISION is raised with
the Active account's handle; the account stays Active; and where ALC runs its pass, the charger command and
every grant in force fall to 0, inside a quiet window as outside one. Before the deadline nothing happens
(the model's choice, assumption 3). -/
def Obligations.SupervisionExpiryTakesAllPower : Prop :=
  ∀ s : State,
    (s.rqp.sup = .armed 0 → ∃ t, exec .supervisionExpiry s = .next t ∧
      t.rqp = { s.rqp with sup := .expired } ∧
      (t.atn.sources.get 4).flag = true ∧
      (t.atn.sources.get 4).detail = some (.expired s.act.activeHandle) ∧
      t.act.activeSlot = s.act.activeSlot ∧
      (s.blocksRun = true → t.alc.chargerCmd = 0 ∧ t.alc.force.bGrant = 0 ∧ t.alc.force.hGrant = 0 ∧
        ∀ i, t.alc.force.zones.get i = 0) ∧
      t.stu = s.stu ∧ t.mtr = s.mtr ∧ t.tck = s.tck ∧ t.pwc = s.pwc) ∧
    (s.rqp.sup ≠ .armed 0 → exec .supervisionExpiry s = .next s)

/-- R191: the first Configure stores its six fields, each within its range, and sets the configured flag;
where ALC runs, the pass that it triggers reads them; any later one is refused with LOCKED, reports the values
that stand and changes nothing else. -/
def Obligations.ConfigureIsTakenOnce : Prop :=
  ∀ (s : State) (p : List Byte), s.serves 0x02 p → p.length = 10 →
    (s.rqp.configured = true →
      exec .configure s = .next (s.answer ⟨.locked, s.rqp.config.bytes⟩)) ∧
    (s.rqp.configured = false → ∃ t c, exec .configure s = .next t ∧
      t.rqp = { s.rqp with config := c, configured := true,
                           queue := answerOldest ⟨.ok, c.bytes⟩ s.rqp.queue } ∧
      c.wired = (if field p 0 1 ≤ 1 then 1 else 3) ∧
      c.acMax = min 320 (max 60 (field p 1 2)) ∧ c.dcMax = min 500 (max 10 (field p 3 2)) ∧
      c.eff = min 990 (max 850 (field p 5 2)) ∧ c.window = min 5000 (max 200 (field p 7 2)) / 10 * 10 ∧
      c.sense = (if field p 9 1 = 0 then .rising else if field p 9 1 = 1 then .falling else .either) ∧
      (s.blocksRun = true → t.alc.inputs.acMax = c.acMax ∧ t.alc.inputs.dcMax = c.dcMax ∧
        t.alc.inputs.eff = c.eff ∧ t.alc.grid = t.alc.inputs.grid c.wired s.alc.curve ∧
        t.alc.causes = t.alc.inputs.causes c.wired s.alc.curve) ∧
      t.stu = s.stu ∧ t.mtr = s.mtr ∧ t.tck = s.tck ∧ t.pwc = s.pwc)

/-! ### Parking, waking and resets (chapter 12) -/

/-- R196, R197: an accepted Park stores its parameters and enters its mode. Into Dormant every contactor
opens, duties, grants and the charger command are 0 and both severities are Unknown; into Keep-Warm from
Active MTR's readings are 0. With the inlet not Unplugged, an account Active or a resumption in progress it
is refused with STATE. Supervision keeps its state: it is disarmed with no account Active (R188, R197), and
that an Expired supervision stays Expired is the model's choice (assumption 41). -/
def Obligations.ParkEntersTheRequestedMode : Prop :=
  ∀ (s : State) (p : List Byte), s.serves 0x08 p → p.length = 3 →
    (field p 0 1 = 1 ∨ field p 0 1 = 2) →
    ((s.inl.state ≠ .unplugged ∨ s.act.activeSlot.isSome = true ∨ s.pwc.resuming = true) →
      exec .park s = .next (s.answer ⟨.state, []⟩)) ∧
    (s.inl.state = .unplugged → s.act.activeSlot = none → s.pwc.resuming = false →
      ∃ t, exec .park s = .next t ∧
        t.pwc = { s.pwc with
          state := if field p 0 1 = 1 then .keepWarm else .dormant,
          park := if field p 0 1 = 1 then .keepWarm else .dormant,
          wakeMin := min 10080 (field p 1 2), elapsedMin := 0, elapsedMs := 0,
          sense := s.rqp.config.sense } ∧
        t.rqp.queue = answerOldest ⟨.ok, be 1 (if field p 0 1 = 1 then 2 else 3) ++ be 1 (field p 0 1) ++
          be 2 (min 10080 (field p 1 2)) ++ be 1 s.rqp.config.sense.code⟩ s.rqp.queue ∧
        t.tck = s.tck ∧ t.stu = s.stu ∧ t.rqp.sup = s.rqp.sup ∧ t.rqp.config = s.rqp.config ∧
        (field p 0 1 = 1 → s.pwc.state = .active → t.mtr.n = 0 ∧ t.mtr.vph = 0 ∧
          ∀ i, t.mtr.phases.get i = ⟨0, 0, 0, false⟩) ∧
        (field p 0 1 = 2 → t.act = s.act ∧ t.alc.chargerCmd = 0 ∧ t.imon.cycle = .idle ∧
          t.imon.pos.severity = .unknown ∧ t.imon.neg.severity = .unknown ∧ t.imon.loc.pole = none ∧
          (∀ i, (t.zone i).contactor = false ∧ (t.zone i).duty = 0 ∧ (t.zone i).grant = 0) ∧
          t.mtr.n = 0))

/-- R201: Read Reset Causes reports the record and the power state and changes nothing else; Clear Reset
Causes empties the record and reports what it held; both refuse a payload with LENGTH. -/
def Obligations.ResetCauseRequests : Prop :=
  ∀ (s : State) (p : List Byte),
    (s.serves 0x09 p → exec .readResetCauses s = .next (s.answer
      (if p = [] then ⟨.ok, be 1 s.pwc.causes.code ++ be 1 s.pwc.state.code⟩ else ⟨.length, []⟩))) ∧
    (s.serves 0x0A p → exec .clearResetCauses s = .next
      (if p = [] then
        ({ s with pwc := { s.pwc with causes := ⟨false, false, false⟩ } } : State).answer
          ⟨.ok, be 1 s.pwc.causes.code⟩
       else s.answer ⟨.length, []⟩))

/-- R198, R199: in a parked state an edge of the sense in use, and the elapsed count at a wake timer above 0,
wake the part: Active, the park parameters cleared, WAKE raised with its cause and the state woken from. From
Dormant a resumption begins; from Keep-Warm MTR has taken its quick reading, which the command carries (the
model's reading, assumption 6). Any other edge and an expiry that is not due change nothing (the model's
choice, assumption 3). -/
def Obligations.ParkedPartWakes : Prop :=
  ∀ (s : State) (f : FrontEnd),
    (∀ (c : Instr) (cause : WakeCause),
      ((∃ e, c = .wakeLineEdge e f ∧ cause = .wakeLine ∧ s.pwc.sense.matches e = true) ∨
       (c = .wakeTimerExpiry f ∧ cause = .wakeTimer ∧ 0 < s.pwc.wakeMin ∧
        s.pwc.wakeMin ≤ s.pwc.elapsedMin)) →
      (s.pwc.state = .keepWarm ∨ s.pwc.state = .dormant) →
      ∃ t, exec c s = .next t ∧
        t.pwc = { s.pwc with state := .active, park := .none, wakeMin := 0, elapsedMin := 0, elapsedMs := 0,
                             resuming := decide (s.pwc.state = .dormant) || s.pwc.resuming } ∧
        (t.atn.sources.get 10).flag = true ∧
        (t.atn.sources.get 10).detail = some (.wake cause s.pwc.state) ∧
        (s.pwc.state = .keepWarm → t.mtr.n = liveCount (phaseRecs s.rqp.config.wired f)) ∧
        (s.pwc.state = .dormant → t.mtr = s.mtr) ∧
        t.rqp = s.rqp ∧ t.tck = s.tck ∧ t.stu = s.stu) ∧
    (∀ e, (s.parked = false ∨ s.pwc.sense.matches e = false) → exec (.wakeLineEdge e f) s = .next s) ∧
    ((s.parked = false ∨ s.pwc.wakeMin = 0 ∨ s.pwc.elapsedMin < s.pwc.wakeMin) →
      exec (.wakeTimerExpiry f) s = .next s)

/-- R199: at the end of a resumption the blocks run again: MTR has its first quick reading, each zone its
temperature, a cycle stands in BaseSettle and the allocation period has started. R66: the contactors of the
zones in Requested, Heating and Holding close, unless the first reading faults the zone, and no other does. -/
def Obligations.ResumptionStartsTheBlocks : Prop :=
  ∀ (s : State) (f : FrontEnd) (z : ZoneTemps), s.pwc.state = .active → s.pwc.resuming = true →
    ∃ t, exec (.resumptionEnd f z) s = .next t ∧
      t.pwc = { s.pwc with resuming := false } ∧
      t.mtr.n = liveCount (phaseRecs s.rqp.config.wired f) ∧
      (∀ i, t.mtr.integrals.get i = 0) ∧
      (t.zone 0).temp = z.zone1 ∧ (t.zone 1).temp = z.zone2 ∧ (t.zone 2).temp = z.zone3 ∧
      (t.zone 3).temp = z.zone4 ∧ (t.zone 4).temp = z.zone5 ∧ (t.zone 5).temp = z.zone6 ∧
      (∀ i, let on : Prop := (s.zone i).state = .requested ∨ (s.zone i).state = .heating ∨
          (s.zone i).state = .holding
        (on → -450 ≤ tempOf z i → tempOf z i < 600 → (t.zone i).contactor = true ∧
          ((t.zone i).state = .requested ∨ (t.zone i).state = .heating ∨ (t.zone i).state = .holding)) ∧
        (on → (tempOf z i < -450 ∨ 600 ≤ tempOf z i) → (t.zone i).contactor = false ∧
          (t.zone i).state = .faulted) ∧
        (¬ on → (t.zone i).contactor = false) ∧ (t.zone i).enabled = (s.zone i).enabled) ∧
      t.imon.cycle = .baseSettle ∧ t.imon.phaseMs = 0 ∧ t.imon.periodMs = 0 ∧ t.alc.periodMs = 0 ∧
      t.rqp = s.rqp ∧ t.tck = s.tck ∧ t.stu = s.stu

/-- R195, R16: the end of Starting is the entry to Active; INL derives its state from one proximity reading
and n (Unplugged when open, else Pausing with AC present and Plugged without), a cycle starts and the
allocation period with it. R155, R179: the ACCOUNT raise of a suspension by a port reset is made now (that it
waits in ATN meanwhile is the model's reading, assumption 43). -/
def Obligations.StartingDerivesTheInlet : Prop :=
  ∀ (s : State) (ohms : Nat) (f : FrontEnd) (z : ZoneTemps), s.pwc.state = .starting →
    s.pwc.pinLow = false →
    ∃ t, exec (.startingEnd ohms f z) s = .next t ∧
      t.pwc = { s.pwc with state := .active } ∧
      t.mtr.n = liveCount (phaseRecs s.rqp.config.wired f) ∧
      t.inl.cls = bandOf ohms ∧ t.inl.accepted = bandOf ohms ∧ t.inl.enable = false ∧
      t.inl.state = (if 10000 ≤ ohms then .unplugged
        else if 0 < liveCount (phaseRecs s.rqp.config.wired f) then .pausing else .plugged) ∧
      (ohms < 10000 → (t.atn.sources.get 5).flag = true) ∧
      (∀ h, s.atn.owed = some h → (t.atn.sources.get 6).flag = true ∧
        (t.atn.sources.get 6).detail = some (.account h .suspendedPortReset)) ∧
      (s.atn.owed = none → t.atn.sources.get 6 = s.atn.sources.get 6) ∧ t.atn.owed = none ∧
      t.imon.cycle = .baseSettle ∧ t.imon.phaseMs = 0 ∧ t.alc.periodMs = 0 ∧
      t.rqp = s.rqp ∧ t.tck = s.tck ∧ t.stu = s.stu

/-- R200 with the supply-reset columns of R16, R42, R65, R82, R101, R115, R129, R143, R168, R179 and R194: a
supply reset leaves the reset state. Where those columns are silent, the values of that state are the model's
choice (assumption 25). What stands outside the part stays: the commands that wait and the level of the reset
pin; so does the model's count of choices (the model's choice, assumptions 19 and 23). -/
def Obligations.SupplyResetRestoresTheResetState : Prop :=
  ∀ s : State, exec .supplyReset s = .next { State.reset with
    pending := s.pending, choices := s.choices,
    pwc := { State.reset.pwc with pinLow := s.pwc.pinLow } }

/-- R187, R193, R194, R200 with the port-reset columns of R16, R42, R65, R115, R143, R168 and R179: an
executed Restart and the reset pin going low are port resets. The queue, the flags and the bank are empty and
the attention line is released, the inlet stands Unplugged, supervision is disarmed, the Active account is
Suspended with reason PortReset (its ACCOUNT raise waits for the end of Starting: assumption 43), the clock
and the Configure values stand, and the cause is added to the record. While the pin is low the port takes
nothing, and a pin that goes low again changes nothing (the model's choice, assumption 19); its release
changes nothing else. R82, R101, R129: the measurement record is cleared but for its thresholds, a locating
sequence is abandoned, the fault table is kept with the pole conditions ended (R90), and of the meter only the
last tick, its index and the Unbilled register are kept. Those columns do not list the sums and the readings
of a Sample phase, the cycle's period timer and the time that the integrals have covered: that they too become
0 is the model's choice (assumption 25). -/
def Obligations.PortResetsKeepTheRecords : Prop :=
  (∀ (s : State) (c : Instr) (pin : Bool),
    ((c = .restart ∧ s.serves 0x04 [] ∧ pin = false) ∨
     (c = .resetPin ∧ s.pwc.pinLow = false ∧ pin = true)) →
    ∃ t, exec c s = .next t ∧
      t.pwc = { state := .starting, park := .none, wakeMin := 0, elapsedMin := 0, elapsedMs := 0,
                sense := s.rqp.config.sense,
                causes := { s.pwc.causes with pin := pin || s.pwc.causes.pin,
                                              restart := !pin || s.pwc.causes.restart },
                resuming := false, pinLow := pin || s.pwc.pinLow } ∧
      t.rqp = { s.rqp with queue := [], dropReason := .none, dropTag := 0, sup := .disarmed,
                           txn := none } ∧
      t.inl.state = .unplugged ∧ t.inl.enable = false ∧ t.inl.cls = none ∧
      t.alc.chargerCmd = 0 ∧ t.alc.force = Figures.zero ∧ t.alc.repStale = true ∧
      t.alc.curve = s.alc.curve ∧ t.alc.ceiling = s.alc.ceiling ∧
      (∀ i, (t.zone i).enabled = false ∧ (t.zone i).target = (s.zone i).target ∧
        ((s.zone i).state ≠ .faulted → (t.zone i).state = .off ∧ (t.zone i).contactor = false)) ∧
      t.imon = { s.imon with
        cycle := .idle, phaseMs := 0, shifted := none, discards := 0, uP0 := 0, uN0 := 0, uP1 := 0, uN1 := 0,
        vbus := 0, rPos := 0, rNeg := 0, outcome := .none, endTime := 0, warnK := 0, faultK := 0,
        returnK := 0, pos := ⟨.unknown, none, 0, 0, 0⟩, neg := ⟨.unknown, none, 0, 0, 0⟩, sumP := 0,
        sumN := 0, samples := 0, periodMs := 0, faults := t.imon.faults,
        loc := match s.imon.loc.pole with
          | none => s.imon.loc
          | some p => { s.imon.loc with pole := none, current := none, candidates := [], deferred := none,
                                        outcome := .abandoned, origin := some (.pole p),
                                        endTime := s.tck.wall } } ∧
      (s.imon.oneRecordEach = true → ∀ k, t.imon.faults.get k = (s.imon.faults.get k).map fun r =>
        if r.origin = .pole .pos ∨ r.origin = .pole .neg then
          { r with state := if r.state = .active then .cleared
                     else if r.state = .acknowledged then .resolved else r.state }
        else r) ∧
      t.stu = { s.stu with bank := none, overflow := false } ∧
      (∀ i, t.mtr.phases.get i = ⟨0, 0, 0, false⟩) ∧ (∀ i, t.mtr.integrals.get i = 0) ∧
      t.mtr = { s.mtr with phases := t.mtr.phases, integrals := t.mtr.integrals, spanMs := 0, n := 0,
                           vph := 0 } ∧
      t.tck = s.tck ∧
      (∀ i, (t.atn.sources.get i).flag = false ∧ (t.atn.sources.get i).detail = none ∧
        (t.atn.sources.get i).level = (s.atn.sources.get i).level ∧
        (t.atn.sources.get i).id = (s.atn.sources.get i).id) ∧
      t.atn.stack = [] ∧ t.atn.line = false ∧
      t.atn.owed = (match s.act.activeSlot with
        | none => s.atn.owed
        | some i => some ⟨i, (s.act.slots.get i).gen⟩) ∧
      (∀ i a, s.act.activeSlot = some i → (s.act.slots.get i).acct = some a →
        (t.act.slots.get i).acct = some { a with state := .suspended, reason := some .portReset }) ∧
      (s.act.activeSlot = none → t.act = s.act)) ∧
  (∀ s : State, s.pwc.pinLow = true → exec .resetPin s = .next s ∧
    exec .transactionStart s = .next s) ∧
  (∀ s : State, exec .resetPinRelease s = .next { s with pwc := { s.pwc with pinLow := false } })

/-! ### The inlet (chapter 1) -/

/-- R2, R5, R13, R14: the fifth equal reading of a cable, with the input open before, is a plug: class and
accepted band are the cable's and the record is Plugged; a parked part is woken by it with cause plug. With
another cable before, it is a class change: the class is the new cable's, the state stays (but for what the
pass that follows decides in Offered and Ready, R8), INLET is raised and the pass reads the new cable current.
Of any band, open among them: a shorter run only counts, a run of the accepted band changes nothing, and a
reading of another band starts a new run. The bands are those of R2, by their bounds in ohms. -/
def Obligations.FifthReadingPlugs : Prop :=
  (∀ r : Nat, (bandOf r = none ↔ 10000 ≤ r) ∧ (bandOf r = some .a ↔ 1800 ≤ r ∧ r ≤ 2700) ∧
    (bandOf r = some .b ↔ 820 ≤ r ∧ r < 1800) ∧ (bandOf r = some .c ↔ 330 ≤ r ∧ r < 820) ∧
    (bandOf r = some .d ↔ 120 ≤ r ∧ r < 330) ∧
    (bandOf r = some .invalid ↔ r < 120 ∨ (2700 < r ∧ r < 10000))) ∧
  (∀ (s : State) (ohms : Nat) (f : FrontEnd), s.pwc.state ≠ .starting → s.work = Work.clear →
    (bandOf ohms = s.inl.runBand → s.inl.runCount < 4 → exec (.proximityReading ohms f) s =
      .next { s with inl := { s.inl with runCount := s.inl.runCount + 1 } }) ∧
    (bandOf ohms = s.inl.runBand → s.inl.accepted = s.inl.runBand → exec (.proximityReading ohms f) s =
      .next { s with inl := { s.inl with runCount := min 5 (s.inl.runCount + 1) } }) ∧
    (bandOf ohms ≠ s.inl.runBand → exec (.proximityReading ohms f) s =
      .next { s with inl := { s.inl with runBand := bandOf ohms, runCount := 1 } })) ∧
  ∀ (s : State) (ohms : Nat) (f : FrontEnd) (k : CableClass), s.pwc.state ≠ .starting →
    bandOf ohms = some k → s.inl.runBand = some k →
    (s.inl.runCount = 4 → s.inl.accepted = none → ∃ t, exec (.proximityReading ohms f) s = .next t ∧
      t.inl.state = .plugged ∧ t.inl.cls = some k ∧ t.inl.accepted = some k ∧ t.inl.enable = false ∧
      t.inl.entryTime = s.tck.wall ∧
      (t.atn.sources.get 5).flag = true ∧
      (t.atn.sources.get 5).detail = some (.inlet .plugged (some k)) ∧
      t.pwc.state = .active ∧
      (s.pwc.state = .active → t.pwc = s.pwc ∧ t.mtr = s.mtr) ∧
      (s.pwc.state ≠ .active → (t.atn.sources.get 10).flag = true ∧
        (t.atn.sources.get 10).detail = some (.wake .plug s.pwc.state)) ∧
      t.rqp = s.rqp ∧ t.tck = s.tck ∧ t.stu = s.stu) ∧
    (∀ k', s.inl.runCount = 4 → s.inl.accepted = some k' → k' ≠ k →
      ∃ t, exec (.proximityReading ohms f) s = .next t ∧
        t.inl.cls = some k ∧ t.inl.accepted = some k ∧ (t.atn.sources.get 5).flag = true ∧
        (s.inl.state ≠ .offered → s.inl.state ≠ .ready → t.inl.state = s.inl.state ∧
          t.inl.enable = s.inl.enable ∧ t.inl.entryTime = s.inl.entryTime ∧
          (t.atn.sources.get 5).detail = some (.inlet s.inl.state (some k))) ∧
        (s.blocksRun = true → t.alc.inputs.cable = match k with
          | .a => 160 | .b => 200 | .c => 320 | .d => 500 | .invalid => 0) ∧
        t.inl.offered = s.inl.offered ∧ t.rqp = s.rqp ∧ t.tck = s.tck ∧ t.stu = s.stu ∧
        t.mtr = s.mtr ∧ t.pwc = s.pwc)

/-- R6, R155, R146: the fifth open reading unplugs: the record is Unplugged with its class, pilot and offer
cleared and enable withdrawn, the charger command is 0, the Active account is Suspended with reason Unplug,
ACCOUNT is raised and supervision is disarmed unless it is Expired. A sample in progress is discarded (R73). A
shorter run of open readings only counts: FifthReadingPlugs. -/
def Obligations.FifthOpenReadingUnplugs : Prop :=
  ∀ (s : State) (ohms : Nat) (f : FrontEnd) (k : CableClass), s.pwc.state ≠ .starting →
    10000 ≤ ohms → s.inl.runBand = none → s.inl.runCount = 4 → s.inl.accepted = some k →
    ∃ t, exec (.proximityReading ohms f) s = .next t ∧
      t.inl.state = .unplugged ∧ t.inl.cls = none ∧ t.inl.accepted = none ∧ t.inl.pilot = false ∧
      t.inl.duty = 0 ∧ t.inl.offered = 0 ∧ t.inl.enable = false ∧ t.alc.chargerCmd = 0 ∧
      (∀ i a, s.act.activeSlot = some i → (s.act.slots.get i).acct = some a →
        (t.atn.sources.get 6).flag = true ∧
        (t.atn.sources.get 6).detail = some (.account (s.act.handle i) .suspendedUnplug) ∧
        (∃ b, (t.act.slots.get i).acct = some b ∧ b.state = .suspended ∧ b.reason = some .unplug) ∧
        t.rqp = { s.rqp with sup := if s.rqp.sup = .expired then .expired else .disarmed }) ∧
      (s.act.activeSlot = none → t.act = s.act ∧ t.rqp = s.rqp) ∧
      t.imon = (if s.sampleOpen = true then
          { s.imon with
            cycle := if s.imon.cycle = .baseSample then .baseSettle else .shiftSettle,
            phaseMs := 0, discards := min 255 (s.imon.discards + 1), sumP := 0, sumN := 0, samples := 0 }
        else s.imon) ∧
      t.pwc = s.pwc ∧ t.tck = s.tck ∧ t.stu = s.stu ∧ t.mtr = s.mtr

/-- R3, R7: a pilot window sets pilot, duty and offered current: with no full period the pilot is absent and
both are 0; otherwise the duty is the high share in permille and the offer 0.6 A per percent of a duty of 10
to 90 percent, 0 outside. A valid offer brings Plugged on; a lost one brings Offered and Ready to Plugged and
Drawing to Pausing; Pausing and Faulted stay. The pass of an offer change reads the new offer. -/
def Obligations.PilotWindowSetsTheOffer : Prop :=
  ∀ (s : State) (w : PilotWindow), w.wf = true → s.inl.state ≠ .unplugged → s.meterRuns = true →
    ∃ t, exec (.pilotWindowEnd w) s = .next t ∧
      (w = .noFullPeriod → t.inl.pilot = false ∧ t.inl.duty = 0 ∧ t.inl.offered = 0) ∧
      (∀ high total, w = .periods high total → t.inl.pilot = true ∧
        t.inl.duty = high * 1000 / total ∧
        t.inl.offered = (if 100 ≤ high * 1000 / total ∧ high * 1000 / total ≤ 900
          then high * 1000 / total * 6 / 10 else 0)) ∧
      t.inl.offered ≤ 540 ∧
      (s.inl.state = .plugged → s.inl.offerValid = false → (s.inl.pilot = false → s.inl.offered = 0) →
        (t.inl.state = .plugged ↔ t.inl.offerValid = false)) ∧
      (s.inl.state = .drawing → s.inl.offerValid = true →
        t.inl.state = (if t.inl.offerValid then .drawing else .pausing)) ∧
      ((s.inl.state = .offered ∨ s.inl.state = .ready) → s.inl.offerValid = true →
        (t.inl.offerValid = false → t.inl.state = .plugged ∧ t.inl.enable = false) ∧
        (t.inl.offerValid = true →
          t.inl.state = .offered ∨ t.inl.state = .ready ∨ t.inl.state = .drawing)) ∧
      ((s.inl.state = .pausing ∨ s.inl.state = .faulted) → t.inl.state = s.inl.state) ∧
      (t.inl.offered ≠ s.inl.offered → t.alc.inputs.offered = t.inl.offered) ∧
      t.inl.cls = s.inl.cls ∧ t.rqp = s.rqp ∧ t.tck = s.tck ∧ t.stu = s.stu ∧ t.mtr = s.mtr ∧
      t.pwc = s.pwc

/-- R10, R11: 30 s in Drawing at a grid grant of 0 release the draw: Pausing, enable withdrawn, both timers at
0. 3 s in Pausing with AC present are a fault: Faulted. Each raises INLET. Before its limit neither timer does
anything (the model's choice, assumption 3). -/
def Obligations.InletTimersExpire : Prop :=
  ∀ s : State,
    (s.inl.state = .drawing → s.alc.force.gridGrant = 0 → 30000 ≤ s.inl.idleMs →
      ∃ t, exec .idleTimerExpiry s = .next t ∧ t.inl.state = .pausing ∧ t.inl.enable = false ∧
        t.inl.idleMs = 0 ∧ t.inl.pausingMs = 0 ∧ t.inl.entryTime = s.tck.wall ∧
        t.inl.cls = s.inl.cls ∧ t.inl.offered = s.inl.offered ∧
        (t.atn.sources.get 5).flag = true ∧ t.rqp = s.rqp ∧ t.tck = s.tck ∧ t.mtr = s.mtr ∧
        t.pwc = s.pwc ∧ t.stu = s.stu) ∧
    (s.inl.state = .pausing → 0 < s.mtr.n → 3000 ≤ s.inl.pausingMs →
      ∃ t, exec .pausingTimerExpiry s = .next t ∧ t.inl.state = .faulted ∧ t.inl.enable = false ∧
        t.inl.pausingMs = 0 ∧ t.inl.entryTime = s.tck.wall ∧ t.inl.cls = s.inl.cls ∧
        t.inl.offered = s.inl.offered ∧
        (t.atn.sources.get 5).flag = true ∧ t.rqp = s.rqp ∧ t.tck = s.tck ∧ t.mtr = s.mtr ∧
        t.pwc = s.pwc ∧ t.stu = s.stu) ∧
    ((s.inl.state ≠ .drawing ∨ s.inl.idleMs < 30000) → exec .idleTimerExpiry s = .next s) ∧
    ((s.inl.state ≠ .pausing ∨ s.inl.pausingMs < 3000) → exec .pausingTimerExpiry s = .next s)

/-- R1, R3, R10, R11: after every step the inlet-enable output is asserted exactly in Ready and Drawing, the
duty and the offer are in their ranges and 0 without a pilot, and each timer is 0 outside its state. -/
def Obligations.InletRecordStaysInOrder : Prop :=
  ∀ s t : State, s.inl.enableFollows = true ∧ s.inl.inRange = true → step s = .next t →
    t.inl.enableFollows = true ∧ t.inl.inRange = true

/-! ### Charge allocation (chapter 2) -/

/-- R37, R38, R39, R18, R31: Set Charge Limits, Report Battery and an accepted Write Curve store their fields,
clamped to their ranges, and report them; the battery report is fresh with its time. Where ALC runs, each
triggers a pass, which reads the new values. The other settings stay. -/
def Obligations.ChargeSettingsAreStored : Prop :=
  ∀ (s : State) (p : List Byte),
    (s.serves 0x18 p → p.length = 9 → ∃ t, exec .setChargeLimits s = .next t ∧
      t.alc.ceiling = min 630 (field p 0 2) ∧ t.alc.share = min 1000 (field p 2 2) ∧
      t.alc.heatLimit = min 10000 (field p 4 2) ∧ t.alc.mask = BitVec.ofNat 18 (field p 6 3) ∧
      t.alc.curve = s.alc.curve ∧ t.alc.repTemp = s.alc.repTemp ∧ t.alc.repBms = s.alc.repBms ∧
      t.rqp = { s.rqp with queue := answerOldest ⟨.ok, be 2 (min 630 (field p 0 2)) ++
        be 2 (min 1000 (field p 2 2)) ++ be 2 (min 10000 (field p 4 2)) ++
        be 3 (BitVec.ofNat 18 (field p 6 3)).toNat⟩ s.rqp.queue } ∧
      (s.blocksRun = true → t.alc.inputs.ceiling = min 630 (field p 0 2) ∧
        t.alc.inputs.share = min 1000 (field p 2 2) ∧ t.alc.inputs.heatLimit = min 10000 (field p 4 2) ∧
        t.alc.grid = t.alc.inputs.grid s.rqp.config.wired s.alc.curve ∧
        t.alc.causes = t.alc.inputs.causes s.rqp.config.wired s.alc.curve) ∧
      t.tck = s.tck ∧ t.mtr = s.mtr ∧ t.stu = s.stu ∧ t.pwc = s.pwc) ∧
    (s.serves 0x19 p → p.length = 4 → ∃ t, exec .reportBattery s = .next t ∧
      t.alc.repTemp = min 900 (max (-450) (fieldInt p 0 2)) ∧ t.alc.repBms = min 5000 (field p 2 2) ∧
      t.alc.repTime = s.tck.wall ∧ t.alc.repStale = false ∧ t.alc.staleMs = 0 ∧
      t.alc.curve = s.alc.curve ∧ t.alc.ceiling = s.alc.ceiling ∧ t.alc.share = s.alc.share ∧
      t.rqp = { s.rqp with queue := answerOldest ⟨.ok,
        beInt 2 (min 900 (max (-450) (fieldInt p 0 2))) ++ be 2 (min 5000 (field p 2 2))⟩ s.rqp.queue } ∧
      (s.blocksRun = true → t.alc.inputs.temp = min 900 (max (-450) (fieldInt p 0 2)) ∧
        t.alc.inputs.bms = min 5000 (field p 2 2) ∧ t.alc.inputs.stale = false ∧
        t.alc.grid = t.alc.inputs.grid s.rqp.config.wired s.alc.curve ∧
        t.alc.causes = t.alc.inputs.causes s.rqp.config.wired s.alc.curve) ∧
      t.tck = s.tck ∧ t.mtr = s.mtr ∧ t.stu = s.stu ∧ t.pwc = s.pwc) ∧
    (∀ k, s.serves 0x1A (be 1 k ++ p) → k ≤ 12 → p.length = 4 * k → ascending (readPoints k p) = true →
      ∃ t, exec .writeCurve s = .next t ∧ t.alc.curve = readPoints k p ∧ t.alc.curve.length = k ∧
      (∀ q ∈ t.alc.curve, -450 ≤ q.temp ∧ q.temp ≤ 900 ∧ q.amps ≤ 5000) ∧
      t.alc.ceiling = s.alc.ceiling ∧ t.alc.repTemp = s.alc.repTemp ∧
      t.rqp = { s.rqp with queue := answerOldest ⟨.ok, be 1 k⟩ s.rqp.queue } ∧
      (s.blocksRun = true → t.alc.inputs.temp = s.alc.repTemp ∧ t.alc.inputs.ceiling = s.alc.ceiling ∧
        t.alc.grid = t.alc.inputs.grid s.rqp.config.wired (readPoints k p) ∧
        t.alc.causes = t.alc.inputs.causes s.rqp.config.wired (readPoints k p)) ∧
      t.tck = s.tck ∧ t.mtr = s.mtr ∧ t.stu = s.stu ∧ t.pwc = s.pwc)

/-- R19, R31, R17, R8, R32 to R36, R73, R165: an expired allocation period, and a report that turns stale, run
a pass where ALC runs; the allocation record it leaves is the result of the inputs it records.
Outside a Sample phase the figures of the pass are in force and INL decides by its grant: Offered goes on to
Ready, or to Drawing with AC present, above 0; Ready returns to Offered at 0; any other state stays. In a Sample
phase an ordinary pass with other figures is held, and leaves what is in force; a safety pass with other figures
is applied and discards the sample (in Keep-Warm so is a pass that brings the battery-sourced grant down: R43,
the model's reading, assumption 44); a pass with the figures in force changes no output (that it leaves the
held-pass flag is the model's reading, assumption 33). The causes of the pass join the Active account's sticky
flags, held or applied, and those that are new and within the mask raise ALLOCATION; where one pass runs, they
are its causes exactly.
Before its time neither event does anything (the model's choice, assumption 3). -/
def Obligations.PassesRecordTheirInputs : Prop :=
  ∀ s : State,
    (s.blocksRun = true → s.passPeriod ≤ s.alc.periodMs →
      let wired := s.rqp.config.wired
      let curve := s.alc.curve
      let prio : Table 6 Nat := s.hzc.zones.map Zone.priority
      let g := s.passInputs.grid wired curve
      let f := s.passInputs.figures wired curve prio
      let c := s.passInputs.causes wired curve
      let new : CauseSet := c &&& ~~~s.alc.causes &&& s.alc.mask
      let budget : Nat := if s.inl.state = .drawing then g.pDc
        else if s.hzc.allowWh * 3600 + s.hzc.allowJ = 0 ∨ s.rqp.sup = .expired then 0 else s.alc.heatLimit
      let safety : Prop := budget < s.alc.force.bGrant + s.alc.force.hGrant ∨
        (s.inl.state ≠ .drawing ∧ s.alc.force.source = .grid) ∨
        (s.pwc.state = .keepWarm ∧ s.inl.state ≠ .drawing ∧ f.hGrant < s.alc.force.hGrant)
      ∃ t, exec .periodicPass s = .next t ∧
      t.alc.periodMs = 0 ∧
      t.alc.grid = t.alc.inputs.grid wired curve ∧
      t.alc.causes = t.alc.inputs.causes wired curve ∧
      t.alc.inputs.ceiling = s.alc.ceiling ∧ t.alc.inputs.vbus = s.imon.vbus ∧
      t.alc.inputs.n = s.mtr.n ∧ t.alc.inputs.sup = s.rqp.sup ∧ t.alc.inputs.temp = s.alc.repTemp ∧
      (s.sampleOpen = false →
        t.alc.force = t.alc.inputs.figures wired curve prio ∧
        t.alc.chargerCmd = t.alc.force.iChg ∧ t.imon = s.imon ∧
        t.inl.state = (match s.inl.state with
          | .offered => if 0 < g.bGrant + g.hGrant then (if 0 < s.mtr.n then .drawing else .ready)
              else .offered
          | .ready => if 0 < g.bGrant + g.hGrant then .ready else .offered
          | st => st)) ∧
      (s.inl.state ≠ .offered → s.inl.state ≠ .ready → t.inl.state = s.inl.state) ∧
      (s.work = Work.clear → s.sampleOpen = true → safety → f ≠ s.alc.force →
        t.imon = { s.imon with
          cycle := if s.imon.cycle = .baseSample then .baseSettle else .shiftSettle,
          phaseMs := 0, discards := min 255 (s.imon.discards + 1), sumP := 0, sumN := 0, samples := 0 } ∧
        t.alc.held = false ∧ t.alc.force = t.alc.inputs.figures wired curve prio) ∧
      (s.work = Work.clear → s.sampleOpen = true → ¬ safety → s.inl.state ≠ .offered →
        s.inl.state ≠ .ready →
        (f ≠ s.alc.force → t.inl = s.inl ∧ t.hzc = s.hzc ∧ t.imon = s.imon ∧
          t.alc = { s.alc with periodMs := 0, inputs := s.passInputs, grid := g, causes := c,
                               prevCauses := s.alc.causes, held := true }) ∧
        (f = s.alc.force → t.imon = s.imon ∧ t.alc.force = s.alc.force ∧ t.alc.held = s.alc.held ∧
          t.alc.chargerCmd = f.iChg)) ∧
      (∀ i a, s.act.activeSlot = some i → (s.act.slots.get i).acct = some a →
        ∃ b, (t.act.slots.get i).acct = some b ∧ b = { a with sticky := b.sticky } ∧
          a.sticky &&& b.sticky = a.sticky ∧ (s.work = Work.clear → c &&& b.sticky = c)) ∧
      (∀ j, s.act.activeSlot ≠ some j → t.act.slots.get j = s.act.slots.get j) ∧
      (s.work = Work.clear → new ≠ 0 → (t.atn.sources.get 7).flag = true) ∧
      (s.work = Work.clear → s.inl.state ≠ .offered → s.inl.state ≠ .ready →
        (∀ i, (s.zone i).state ≠ .requested) → (s.sampleOpen = false ∨ ¬ safety) →
        t.alc.prevCauses = s.alc.causes ∧ t.alc.causes = c ∧
        t.atn.sources.get 7 = (if new = 0 then s.atn.sources.get 7
          else { s.atn.sources.get 7 with flag := true, detail := some (.causes new) }) ∧
        (∀ i a, s.act.activeSlot = some i → (s.act.slots.get i).acct = some a →
          (t.act.slots.get i).acct = some { a with sticky := a.sticky ||| c })) ∧
      t.rqp = s.rqp ∧ t.tck = s.tck ∧ t.mtr = s.mtr ∧ t.stu = s.stu ∧ t.pwc = s.pwc) ∧
    (s.alc.repStale = false → 2000 ≤ s.alc.staleMs → ∃ t, exec .batteryReportStale s = .next t ∧
      t.alc.repStale = true ∧ t.alc.repTemp = s.alc.repTemp ∧ t.alc.repBms = s.alc.repBms ∧
      (s.blocksRun = true → t.alc.inputs.stale = true ∧
        t.alc.grid = t.alc.inputs.grid s.rqp.config.wired s.alc.curve) ∧
      t.rqp = s.rqp ∧ t.tck = s.tck ∧ t.mtr = s.mtr ∧ t.stu = s.stu ∧ t.pwc = s.pwc) ∧
    ((s.blocksRun = false ∨ s.alc.periodMs < s.passPeriod) → exec .periodicPass s = .next s) ∧
    ((s.alc.repStale = true ∨ s.alc.staleMs < 2000) → exec .batteryReportStale s = .next s)

/-- R21 to R28 and section 2.7: what a pass computes of its inputs, stage by stage: the phase current limit,
the power and the gated DC budget, the demands, the split between battery and heaters, the charger setpoint,
the figures in force by the inlet state, and each of the eighteen causes. It follows, as the close of section 2.6
says, that with source grid the battery and heat grants stay within the power of that limit, which is 0 or at
least 60, no more than the offer, the cable, the ceiling and the charger, half of that at a Warning, and 0 at a
Fault. -/
def Obligations.GridGrantsStayWithinTheLimits : Prop :=
  ∀ (x : PassInputs) (wired : Nat) (curve : List CurvePoint) (prio : Table 6 Nat),
    let f := x.figures wired curve prio
    (let n := if x.nominal = true then wired else x.n
     let volts := if x.nominal = true then 2300 else x.vph
     let least := min (min x.offered x.cable) (min x.ceiling x.acMax)
     let fault : Prop := x.sevPos = .fault ∨ x.sevNeg = .fault
     let warning : Prop := x.sevPos = .warning ∨ x.sevNeg = .warning
     let derated := if fault then 0 else if warning then least * 500 / 1000 else least
     let noAc : Prop := x.n = 0 ∧ x.nominal = false
     let iLim := if noAc then 0 else if derated < 60 then 0 else derated
     let pAc := n * volts * iLim / 100
     let outside : Prop := x.vbus < 2000 ∨ 5000 < x.vbus
     let acTerm := pAc * x.eff / 1000
     let dcTerm := x.vbus * x.dcMax / 100
     let gated : Prop := x.acctExists = false ∨ x.capReached = true ∨ x.saturated = true ∨ x.sup = .expired
     let pDc := if gated ∨ outside then 0 else min acTerm dcTerm
     let asks (i : Fin 6) : Nat :=
       if (x.zones.get i).state = .requested ∨ (x.zones.get i).state = .heating then (x.zones.get i).demand
       else 0
     let hReq := asks 0 + asks 1 + asks 2 + asks 3 + asks 4 + asks 5
     let bReq := x.vbus * (if x.stale = true then 0 else min (curveAt curve x.temp) x.bms) / 100
     let guarantee := min hReq (pDc * x.share / 1000)
     let battery := min bReq (pDc - guarantee)
     let heat := guarantee + min (hReq - guarantee) (pDc - guarantee - battery)
     let budget := if x.allowanceZero = true ∨ x.sup = .expired then 0 else x.heatLimit
     let warmth := min hReq budget
     let has (k : Nat) : Prop := (x.causes wired curve).getLsbD k = true
     x.grid wired curve = ⟨iLim, pAc, pDc, battery, heat⟩ ∧
     (x.inlet = .drawing → f = ⟨.grid, battery, heat, x.zoneGrants prio heat,
       if 0 < pDc then (battery + heat) * 100 / x.vbus else 0⟩) ∧
     (x.inlet ≠ .drawing → f = ⟨.battery, 0, warmth, x.zoneGrants prio warmth, 0⟩) ∧
     (has 0 ↔ x.offered = least) ∧ (has 1 ↔ x.cable = least) ∧ (has 2 ↔ x.ceiling = least) ∧
     (has 3 ↔ x.acMax = least) ∧ (has 4 ↔ fault ∨ warning) ∧ (has 5 ↔ derated < 60) ∧ (has 6 ↔ noAc) ∧
     (has 7 ↔ ¬ outside ∧ dcTerm ≤ acTerm) ∧ (has 8 ↔ outside) ∧ (has 9 ↔ x.acctExists = false) ∧
     (has 10 ↔ x.capReached = true) ∧ (has 11 ↔ x.saturated = true) ∧ (has 12 ↔ x.sup = .expired) ∧
     (has 13 ↔ x.stale = true) ∧ (has 14 ↔ 0 < pDc ∧ bReq ≤ pDc - guarantee) ∧
     (has 15 ↔ (if x.inlet = .drawing then heat else warmth) < hReq) ∧
     (has 16 ↔ x.inlet ≠ .drawing ∧ 0 < warmth) ∧ (has 17 ↔ x.inlet ≠ .drawing ∧ x.allowanceZero = true)) ∧
    (x.share ≤ 1000 → x.inlet = .drawing → x.nominal = false →
      f.source = .grid ∧
      f.bGrant + f.hGrant ≤ x.n * x.vph * x.iLim / 100 * x.eff / 1000 ∧
      (f.bGrant + f.hGrant) * 100 ≤ x.vbus * x.dcMax ∧
      (x.iLim = 0 ∨ 60 ≤ x.iLim) ∧
      x.iLim ≤ x.offered ∧ x.iLim ≤ x.cable ∧ x.iLim ≤ x.ceiling ∧ x.iLim ≤ x.acMax ∧
      ((x.sevPos = .warning ∨ x.sevNeg = .warning) →
        2 * x.iLim ≤ x.offered ∧ 2 * x.iLim ≤ x.cable ∧ 2 * x.iLim ≤ x.ceiling ∧ 2 * x.iLim ≤ x.acMax) ∧
      ((x.sevPos = .fault ∨ x.sevNeg = .fault) → x.iLim = 0) ∧
      ((x.acctExists = false ∨ x.capReached = true ∨ x.saturated = true ∨ x.sup = .expired) →
        f.bGrant = 0 ∧ f.hGrant = 0 ∧ f.iChg = 0))

/-- R29: the zones are served by priority, and equal priorities by zone number: each zone that asks receives
its demand, or what the zones served before it have left of the heat grant; together they receive the heat
grant or all they ask for. -/
def Obligations.ZoneGrantsFollowPriority : Prop :=
  ∀ (x : PassInputs) (prio : Table 6 Nat) (h : Nat), (∀ i, prio.get i ≤ 7) →
    let before (j i : Fin 6) : Bool :=
      decide (prio.get i < prio.get j) || (decide (prio.get j = prio.get i) && decide (j < i))
    let sum (p : Fin 6 → Bool) (v : Fin 6 → Nat) : Nat := ((fins 6).filter p).foldl (fun a i => a + v i) 0
    (∀ i, (x.zoneGrants prio h).get i =
      min (x.zones.get i).asks (h - sum (fun j => before j i) fun j => (x.zones.get j).asks)) ∧
    sum (fun _ => true) (fun i => (x.zoneGrants prio h).get i) = min h x.hReq

/-- R30: the acceptance curve is read at its points exactly, holds its end values outside them, and between
two neighbouring points is the straight line between them, rounded down, on a falling section as on a rising
one, so that it lies between their currents; with no point it is 0. -/
def Obligations.CurveIsReadBetweenItsPoints : Prop :=
  (∀ t, curveAt [] t = 0) ∧
  ∀ (before after : List CurvePoint) (p : CurvePoint), ascending (before ++ p :: after) = true →
    curveAt (before ++ p :: after) p.temp = p.amps ∧
    (before = [] → ∀ t, t ≤ p.temp → curveAt (before ++ p :: after) t = p.amps) ∧
    (after = [] → ∀ t, p.temp ≤ t → curveAt (before ++ p :: after) t = p.amps) ∧
    (∀ (q : CurvePoint) (rest : List CurvePoint) (t : Int), after = q :: rest → p.temp ≤ t → t ≤ q.temp →
      min p.amps q.amps ≤ curveAt (before ++ p :: after) t ∧
      curveAt (before ++ p :: after) t ≤ max p.amps q.amps ∧
      (curveAt (before ++ p :: after) t : Int) =
        p.amps + ((q.amps : Int) - p.amps) * (t - p.temp) / (q.temp - p.temp))

/-- Section 2.6: the charger command is above zero only while the inlet is Drawing, exactly one account is
Active without CapReached or Saturated, no pole is at confirmed Fault, and supervision is not Expired. The
invariant adds what keeps it: at most one account is Active, a command above 0 belongs to grid figures with a
grant in force while ALC runs, and a resumption is in progress only in Active. -/
def Obligations.ChargerRunsOnlyWhenAllowed : Prop :=
  ∀ s t : State,
    (s.chargerSafe = true ∧ s.act.oneActive = true ∧ (s.pwc.resuming = true → s.pwc.state = .active) ∧
      (0 < s.alc.chargerCmd → s.blocksRun = true ∧ s.alc.force.source = .grid ∧
        0 < s.alc.force.bGrant + s.alc.force.hGrant)) →
    step s = .next t →
    (t.chargerSafe = true ∧ t.act.oneActive = true ∧ (t.pwc.resuming = true → t.pwc.state = .active) ∧
      (0 < t.alc.chargerCmd → t.blocksRun = true ∧ t.alc.force.source = .grid ∧
        0 < t.alc.force.bGrant + t.alc.force.hGrant))

/-! ### Heater zones (chapter 3) -/

/-- R62, R44, R51, R58: an accepted Write Zone stores the enabled flag and the clamped settings of its zone
and no other's. Outside a Sample phase a zone that is not Isolated or Faulted is then connected exactly when
enabled; while a Sample phase lasts through the request no contactor moves; an Isolated zone keeps its
isolation and remembers a disable; a Faulted zone stays Faulted. That the settings are stored at once inside a
Sample phase is the model's reading (assumption 34). The response is the zone's image after the passes that
the request triggers (the model's reading, assumption 27). -/
def Obligations.WriteZoneStoresTheSettings : Prop :=
  ∀ (s : State) (p : List Byte) (i : Fin 6), s.serves 0x20 p → p.length = 9 → field p 0 1 = i.val + 1 →
    ∃ t, exec .writeZone s = .next t ∧
      (t.zone i).enabled = decide (field p 1 1 ≠ 0) ∧
      (t.zone i).target = min 400 (max (-200) (fieldInt p 2 2)) ∧
      (t.zone i).gain = min 200 (max 1 (field p 4 2)) ∧
      (t.zone i).pMax = min 6000 (max 100 (field p 6 2)) ∧
      (t.zone i).priority = min 7 (field p 8 1) ∧
      (∀ j, (t.zone j).temp = (s.zone j).temp) ∧
      (∀ j, j ≠ i → (t.zone j).enabled = (s.zone j).enabled ∧ (t.zone j).target = (s.zone j).target ∧
        (t.zone j).gain = (s.zone j).gain ∧ (t.zone j).pMax = (s.zone j).pMax ∧
        (t.zone j).priority = (s.zone j).priority) ∧
      (s.sampleOpen = false → ((s.zone i).state = .off ∨ (s.zone i).state.connected = true) →
        (field p 1 1 = 0 → (t.zone i).state = .off) ∧
        (field p 1 1 ≠ 0 → (t.zone i).state.connected = true)) ∧
      (s.sampleOpen = false → (s.zone i).state = .off → field p 1 1 ≠ 0 →
        (t.zone i).contactor = s.blocksRun) ∧
      (s.sampleOpen = true → t.sampleOpen = true →
        ∀ j, (t.zone j).contactor = (s.zone j).contactor ∧
          (t.zone j).state.connected = (s.zone j).state.connected) ∧
      ((s.zone i).state = .isolated → (t.zone i).state = .isolated ∧
        (t.zone i).disableAfter = decide (field p 1 1 = 0)) ∧
      ((s.zone i).state = .faulted → (t.zone i).state = .faulted ∧ (t.zone i).reason = (s.zone i).reason) ∧
      t.rqp = { s.rqp with queue := answerOldest ⟨.ok, zoneImage i t⟩ s.rqp.queue } ∧
      t.tck = s.tck ∧ t.mtr = s.mtr ∧ t.stu = s.stu ∧ t.pwc = s.pwc

/-- R54, R90: Reset Zone is refused with STATE unless the zone is Faulted and its condition gone (readings
in range and below the cut-off; for insulation, no pole at Warning or Fault). Accepted, the zone is Off and
disabled without a reason, and the record of an insulation fault loses its condition. -/
def Obligations.ResetZoneClearsAGoneFault : Prop :=
  ∀ (s : State) (p : List Byte) (i : Fin 6), s.serves 0x22 p → p.length = 1 → field p 0 1 = i.val + 1 →
    let z := s.zone i
    let present := z.temp < -450 ∨ 900 < z.temp ∨ 600 ≤ z.temp ∨
      (z.reason = some .insulation ∧ (s.imon.pos.severity = .warning ∨ s.imon.pos.severity = .fault ∨
        s.imon.neg.severity = .warning ∨ s.imon.neg.severity = .fault))
    ((z.state ≠ .faulted ∨ present) → exec .resetZone s = .next (s.answer ⟨.state, []⟩)) ∧
    (z.state = .faulted → ¬ present → ∃ t, exec .resetZone s = .next t ∧
      t.zone i = { z with state := .off, enabled := false, demand := 0, grant := 0, duty := 0,
                          contactor := false, reason := none, resume := none, disableAfter := false } ∧
      (∀ j, j ≠ i → (t.zone j).enabled = (s.zone j).enabled ∧ (t.zone j).target = (s.zone j).target ∧
        ((s.zone j).state = .faulted → t.zone j = s.zone j)) ∧
      (s.imon.oneRecordEach = true → ∀ k, t.imon.faults.get k = (s.imon.faults.get k).map fun r =>
        if z.reason = some .insulation ∧ r.origin = .zone i then
          { r with state := if r.state = .active then .cleared
                     else if r.state = .acknowledged then .resolved else r.state }
        else r) ∧
      t.rqp = { s.rqp with queue := answerOldest ⟨.ok, be 1 (i.val + 1) ++ be 1 0⟩ s.rqp.queue } ∧
      t.tck = s.tck ∧ t.mtr = s.mtr ∧ t.stu = s.stu ∧ t.pwc = s.pwc)

/-- R61: Set Allowance stores the clamped Wh with a residue of 0. Between two values above 0, or from 0 to
0, nothing else happens; a value brought to 0 raises ZONE and leaves ALC's next pass without allowance; a value
raised from 0 triggers a pass with allowance, and raises nothing. -/
def Obligations.SetAllowanceWritesTheAllowance : Prop :=
  ∀ (s : State) (p : List Byte), s.serves 0x23 p → p.length = 2 →
    (∃ t, exec .setAllowance s = .next t ∧ t.hzc.allowWh = min 20000 (field p 0 2) ∧ t.hzc.allowJ = 0 ∧
      t.rqp = { s.rqp with
        queue := answerOldest ⟨.ok, be 2 (min 20000 (field p 0 2)) ++ be 2 0⟩ s.rqp.queue } ∧
      (0 < s.hzc.allowWh * 3600 + s.hzc.allowJ → field p 0 2 = 0 →
        (t.atn.sources.get 8).flag = true ∧
        (t.atn.sources.get 8).detail = some (.zone none .allowanceExhausted) ∧
        (s.blocksRun = true → t.alc.inputs.allowanceZero = true)) ∧
      (s.hzc.allowWh * 3600 + s.hzc.allowJ = 0 → 0 < field p 0 2 →
        t.atn.sources.get 8 = s.atn.sources.get 8 ∧
        (s.blocksRun = true → t.alc.inputs.allowanceZero = false ∧
          t.alc.causes = t.alc.inputs.causes s.rqp.config.wired s.alc.curve)) ∧
      t.tck = s.tck ∧ t.mtr = s.mtr ∧ t.stu = s.stu ∧ t.pwc = s.pwc) ∧
    (s.work = Work.clear → (s.hzc.allowWh * 3600 + s.hzc.allowJ = 0 ↔ field p 0 2 = 0) →
      exec .setAllowance s = .next (({ s with hzc := { s.hzc with
        allowWh := min 20000 (field p 0 2), allowJ := 0 } } : State).answer
          ⟨.ok, be 2 (min 20000 (field p 0 2)) ++ be 2 0⟩))

/-- R46, R47, R48, R53, R64: one reading of the six sensors, where HZC runs. A zone that is not Faulted
enters Faulted on a reading out of range (sensor) or of 600 and more (over-temperature), dark and with its
flag kept; an enabled zone that asks enters Holding at its target, and one in Holding enters Heating more
than 10 below it; the demand is k times the shortfall, within P_max. ZONE has the detail of the highest zone
that raised it, and stays as it was when none did. A fault of the isolated zone abandons the locating sequence
(R97), and no other reading touches it. R51, R73: in a Sample phase, a closed contactor that a fault
opens discards the sample. Where HZC does not run a reading changes nothing (the model's choice,
assumption 3). -/
def Obligations.ZoneReadingsActOnTheZones : Prop :=
  ∀ (s : State) (z : ZoneTemps),
    (s.blocksRun = false → exec (.zoneSensorReading z) s = .next s) ∧
    (s.blocksRun = true → ∃ t, exec (.zoneSensorReading z) s = .next t ∧
      let outside (i : Fin 6) : Prop := tempOf z i < -450 ∨ 900 < tempOf z i
      let hot (i : Fin 6) : Prop := 600 ≤ tempOf z i ∧ tempOf z i ≤ 900
      let fair (i : Fin 6) : Prop := -450 ≤ tempOf z i ∧ tempOf z i < 600
      let asking (i : Fin 6) : Prop := (s.zone i).state = .requested ∨ (s.zone i).state = .heating
      let shortfall (i : Fin 6) : Nat :=
        min (s.zone i).pMax ((s.zone i).gain * ((s.zone i).target - tempOf z i).toNat)
      let event (i : Fin 6) (e : ZoneEvent) : Prop :=
        (e = .sensor ∧ (s.zone i).state ≠ .faulted ∧ outside i) ∨
        (e = .overTemperature ∧ (s.zone i).state ≠ .faulted ∧ hot i) ∨
        (e = .targetReached ∧ asking i ∧ fair i ∧ (s.zone i).target ≤ tempOf z i)
      (∀ i, (t.zone i).temp = tempOf z i ∧ (t.zone i).enabled = (s.zone i).enabled ∧
        (t.zone i).target = (s.zone i).target) ∧
      (∀ i, (s.zone i).state = .faulted → t.zone i = { s.zone i with temp := tempOf z i }) ∧
      (∀ i, (s.zone i).state ≠ .faulted → outside i ∨ hot i →
        (t.zone i).state = .faulted ∧ (t.zone i).contactor = false ∧ (t.zone i).duty = 0 ∧
        (t.zone i).grant = 0 ∧ (t.zone i).demand = 0 ∧ (t.zone i).resume = none ∧
        (outside i → (t.zone i).reason = some .sensor) ∧
        (hot i → (t.zone i).reason = some .overTemperature)) ∧
      (∀ i, (s.zone i).enabled = true → fair i →
        (asking i → (s.zone i).target ≤ tempOf z i →
          (t.zone i).state = .holding ∧ (t.zone i).demand = 0) ∧
        (asking i → tempOf z i < (s.zone i).target →
          ((t.zone i).state = .requested ∨ (t.zone i).state = .heating) ∧
          (t.zone i).demand = shortfall i) ∧
        ((s.zone i).state = .holding → tempOf z i < (s.zone i).target - 10 →
          (t.zone i).state = .heating ∧ (t.zone i).demand = shortfall i) ∧
        ((s.zone i).state = .holding → (s.zone i).target - 10 ≤ tempOf z i →
          (t.zone i).state = .holding ∧ (t.zone i).demand = 0)) ∧
      (∀ i, fair i → (s.zone i).state = .isolated → (t.zone i).state = .isolated) ∧
      (∀ i, (s.zone i).state = .isolated → outside i ∨ hot i → t.imon.loc = match s.imon.loc.pole with
        | none => s.imon.loc
        | some p => { s.imon.loc with pole := none, current := none, candidates := [], deferred := none,
                                      outcome := .abandoned, origin := some (.pole p),
                                      endTime := s.tck.wall }) ∧
      ((∀ i, (s.zone i).state = .isolated → fair i) → t.imon.loc = s.imon.loc) ∧
      (∀ i e, event i e → (∀ j, i < j → ∀ e', ¬ event j e') →
        (t.atn.sources.get 8).flag = true ∧ (t.atn.sources.get 8).detail = some (.zone (some i) e)) ∧
      ((∀ i e, ¬ event i e) → t.atn.sources.get 8 = s.atn.sources.get 8) ∧
      (∀ i, s.sampleOpen = true → (s.zone i).state ≠ .faulted → outside i ∨ hot i →
        (s.zone i).contactor = true →
        t.imon.cycle = (if s.imon.cycle = .baseSample then .baseSettle else .shiftSettle) ∧
        t.imon.phaseMs = 0 ∧ t.imon.discards = min 255 (s.imon.discards + 1) ∧ t.imon.sumP = 0 ∧
        t.imon.sumN = 0 ∧ t.imon.samples = 0) ∧
      t.rqp = s.rqp ∧ t.tck = s.tck ∧ t.mtr = s.mtr ∧ t.stu = s.stu ∧ t.pwc = s.pwc)

/-- R45: a zone that is Off, Isolated or Faulted has duty 0, no grant, no demand and an open contactor, and at
most one zone is Isolated; a demand is within P_max and a duty within 1000 permille (R44). The invariant adds
that what an isolation remembers is the state of a connected zone. -/
def Obligations.ZonesStayInOrder : Prop :=
  ∀ s t : State, s.hzc.restful = true ∧ s.hzc.oneIsolated = true → step s = .next t →
    t.hzc.restful = true ∧ t.hzc.oneIsolated = true

/-! ### Insulation measurement (chapter 4) -/

/-- R69, R71, R68: the cycle's timed events, each at its time: a period that expires in Idle starts a cycle,
the two Settle phases open their Sample phase, a reading in a Sample phase joins the sums and one in a Settle
phase, its sum 500 or more, does nothing. Before its time, or in another phase, an event does nothing
(the model's choice, assumption 3). -/
def Obligations.CyclePhasesFollowTheirTimers : Prop :=
  ∀ s : State,
    let period := if s.pwc.state = .keepWarm then 600000 else 10000
    let fresh (c : Cycle) : Insulation :=
      { s.imon with cycle := c, phaseMs := 0, sumP := 0, sumN := 0, samples := 0 }
    (exec .cyclePeriodExpiry s = .next
      (if s.blocksRun = true ∧ s.imon.cycle = .idle ∧ period ≤ s.imon.periodMs then
        { s with imon := { fresh .baseSettle with discards := 0, shifted := none, periodMs := 0 } }
       else s)) ∧
    (exec .baseSettleEnd s = .next
      (if s.imon.cycle = .baseSettle ∧ 1500 ≤ s.imon.phaseMs then { s with imon := fresh .baseSample }
       else s)) ∧
    (exec .shiftSettleEnd s = .next
      (if s.imon.cycle = .shiftSettle ∧ 1500 ≤ s.imon.phaseMs then { s with imon := fresh .shiftSample }
       else s)) ∧
    (∀ up un : Int, s.imon.cycle = .idle → exec (.poleVoltageReading up un) s = .next s) ∧
    (∀ up un : Int, s.work = Work.clear → 500 ≤ up.toNat + un.toNat →
      ((s.imon.cycle = .baseSettle ∨ s.imon.cycle = .shiftSettle) →
        exec (.poleVoltageReading up un) s = .next s) ∧
      (s.sampleOpen = true → exec (.poleVoltageReading up un) s = .next { s with imon := { s.imon with
        sumP := s.imon.sumP + up.toNat, sumN := s.imon.sumN + un.toNat,
        samples := s.imon.samples + 1 } })) ∧
    ((s.imon.cycle ≠ .baseSample ∨ s.imon.phaseMs < 500) → exec .baseSampleEnd s = .next s) ∧
    ((s.imon.cycle ≠ .shiftSample ∨ s.imon.phaseMs < 500) → exec .shiftSampleEnd s = .next s)

/-- R74, R78, R90, R97: a reading whose sum is below 500 ends the cycle as no bus: its voltages are kept as
the base voltages and V_bus, both poles become Unknown without counts or class, pole conditions end, a
locating sequence is abandoned, and the pass that follows sets BUS_RANGE. No insulation source and no stop
is raised. The zone that the sequence held Isolated is released (R57): into its resume-state with its contactor
closed, or to Off when it has been disabled. The next cycle starts by period. -/
def Obligations.NoBusEndsTheCycle : Prop :=
  ∀ (s : State) (up un : Int), s.imon.cycle ≠ .idle → up.toNat + un.toNat < 500 →
    ∃ t, exec (.poleVoltageReading up un) s = .next t ∧
      t.imon.uP0 = up.toNat ∧ t.imon.uN0 = un.toNat ∧ t.imon.vbus = up.toNat + un.toNat ∧
      t.imon.uP1 = s.imon.uP1 ∧ t.imon.uN1 = s.imon.uN1 ∧ t.imon.rPos = s.imon.rPos ∧
      t.imon.rNeg = s.imon.rNeg ∧ t.imon.outcome = .noBus ∧ t.imon.endTime = s.tck.wall ∧
      t.imon.shifted = none ∧ t.imon.pos = ⟨.unknown, none, 0, 0, 0⟩ ∧
      t.imon.neg = ⟨.unknown, none, 0, 0, 0⟩ ∧ t.imon.loc.pole = none ∧
      (s.imon.loc.pole ≠ none → t.imon.loc.outcome = .abandoned) ∧
      (∀ z, s.imon.loc.current = some z → (s.zone z).state = .isolated →
        (t.zone z).resume = none ∧ (t.zone z).disableAfter = false ∧
        ((s.zone z).disableAfter = true → (s.zone z).enabled = false →
          (t.zone z).state = .off ∧ (t.zone z).contactor = false) ∧
        ((s.zone z).disableAfter = false → (s.zone z).enabled = true →
          (t.zone z).contactor = s.blocksRun ∧
          ((s.zone z).resume = some .requested →
            (t.zone z).state = .requested ∨ (t.zone z).state = .heating) ∧
          ((s.zone z).resume = some .heating → (t.zone z).state = .heating) ∧
          ((s.zone z).resume = some .holding → (t.zone z).state = .holding))) ∧
      t.imon.cycle = (if (if s.pwc.state = .keepWarm then 600000 else 10000) ≤ s.imon.periodMs
        then .baseSettle else .idle) ∧
      (s.imon.oneRecordEach = true → ∀ k, t.imon.faults.get k = (s.imon.faults.get k).map fun r =>
        if r.origin = .pole .pos ∨ r.origin = .pole .neg then
          { r with state := if r.state = .active then .cleared
                     else if r.state = .acknowledged then .resolved else r.state }
        else r) ∧
      (s.blocksRun = true → t.alc.inputs.vbus = up.toNat + un.toNat ∧ t.alc.causes.getLsbD 8 = true) ∧
      (∀ k : Fin 11, k.val ≤ 3 → t.atn.sources.get k = s.atn.sources.get k) ∧
      t.rqp = s.rqp ∧ t.tck = s.tck ∧ t.mtr = s.mtr ∧ t.stu = s.stu ∧ t.pwc = s.pwc

/-- R70, R52, R33, R72: at the end of BaseSample the base voltages are the means of the phase's readings,
V_bus is their sum, the pole with the larger one is shifted (POS at a tie), and ShiftSettle begins. The window
has ended: no pass is held and every zone stands in line with its flag. The pass that follows reads the new
V_bus. The mean of a phase in which no reading was taken is a free value (the model's choice, assumption 16). -/
def Obligations.BaseSampleGivesTheVoltages : Prop :=
  ∀ s : State, s.imon.cycle = .baseSample → 500 ≤ s.imon.phaseMs →
    let mean (positive : Bool) (sum : Nat) : Nat :=
      if s.imon.samples = 0 then Config.meanOfNone positive false else sum / s.imon.samples
    let up := mean true s.imon.sumP
    let un := mean false s.imon.sumN
    ∃ t, exec .baseSampleEnd s = .next t ∧
      t.imon = { s.imon with
        uP0 := up, uN0 := un, vbus := up + un, shifted := some (if un ≤ up then .pos else .neg),
        cycle := .shiftSettle, phaseMs := 0, sumP := 0, sumN := 0, samples := 0 } ∧
      t.alc.held = false ∧
      (∀ i, ((t.zone i).state.connected = true → (t.zone i).enabled = true) ∧
        ((t.zone i).state = .off → (t.zone i).enabled = false)) ∧
      (s.blocksRun = true → t.alc.inputs.vbus = t.imon.vbus) ∧
      t.rqp = s.rqp ∧ t.tck = s.tck ∧ t.mtr = s.mtr ∧ t.stu = s.stu ∧ t.pwc = s.pwc

/-- R75, R76, R77, R79, R71, R91 to R93, R104 to R106: the Compute at the end of ShiftSample. The resistances
follow from the base and shifted voltages of the shifted pole L and the other pole S, the thresholds from
V_bus; each pole takes its grade. A pole newly at Fault brings one stop with cause InsulationFault and raises
INS_FAULT; one newly at Warning raises INS_WARNING; without a new Fault no stop is taken. The next cycle
starts at once for a pending pole, for an isolation, or for a period that has passed. R87 to R90: the record
of a pole takes the change: raised anew, with its count, worsened, seen again, or ended; with no record, a
pole newly at Warning or Fault gets one in the lowest Free slot, POS before NEG. The sources carry the slot of
that record. A record that the same Compute's judgement moves (R95) is left to LocatingJudgesTheCandidate.
R92, R93: with no sequence active, a pole newly at Warning, without a new Fault, starts one: over the zones
that stand enabled once the window's end has brought them in line, the first of them Isolated with its
resume-state and the others candidates; POS starts first and NEG is then deferred; with no such zone the
sequence completes at once as not explained. The mean of a phase without readings is a free value (the model's
choice, assumption 16). That no sequence is active after a new Fault, also where the other pole is newly at
Warning, rests on the order of IMON's requests (the model's reading, assumption 39). -/
def Obligations.ShiftSampleComputes : Prop :=
  ∀ s : State, s.imon.cycle = .shiftSample → 500 ≤ s.imon.phaseMs → s.act.oneActive = true →
    let m := s.imon
    let mean (positive : Bool) (sum : Nat) : Nat :=
      if m.samples = 0 then Config.meanOfNone positive true else sum / m.samples
    let u1 := mean true m.sumP
    let n1 := mean false m.sumN
    let lPos : Bool := decide (m.shifted ≠ some .neg)
    let uL0 := if lPos then m.uP0 else m.uN0
    let uS0 := if lPos then m.uN0 else m.uP0
    let uL1 := if lPos then u1 else n1
    let uS1 := if lPos then n1 else u1
    let rS := if uL1 = 0 ∨ uS1 * uL0 ≤ uS0 * uL1 then 50000
      else min 50000 (400 * (uS1 * uL0 - uS0 * uL1) / (uL1 * uL0))
    let rL := if uS0 = 0 then 50000 else min 50000 (rS * uL0 / uS0)
    let warnK := m.warnTh * m.vbus / 10000
    let faultK := m.faultTh * m.vbus / 10000
    let grade (r : Nat) : Grade := if r < faultK then .fault else if r < warnK then .warning
      else if r < warnK * 11 / 10 then .margin else .clear
    let pos := m.pos.update (grade (if lPos then rL else rS))
    let neg := m.neg.update (grade (if lPos then rS else rL))
    let newFault := (pos.severity = .fault ∧ m.pos.severity ≠ .fault) ∨
      (neg.severity = .fault ∧ m.neg.severity ≠ .fault)
    let newWarning := (pos.severity = .warning ∧ m.pos.severity ≠ .warning) ∨
      (neg.severity = .warning ∧ m.neg.severity ≠ .warning)
    let period := if s.pwc.state = .keepWarm then 600000 else 10000
    ∃ t, exec .shiftSampleEnd s = .next t ∧
      t.imon.uP0 = m.uP0 ∧ t.imon.uN0 = m.uN0 ∧ t.imon.vbus = m.vbus ∧
      t.imon.uP1 = u1 ∧ t.imon.uN1 = n1 ∧
      t.imon.rPos = (if lPos then rL else rS) ∧ t.imon.rNeg = (if lPos then rS else rL) ∧
      t.imon.warnK = warnK ∧ t.imon.faultK = faultK ∧ t.imon.returnK = warnK * 11 / 10 ∧
      t.imon.pos = pos ∧ t.imon.neg = neg ∧
      t.imon.outcome = .measured ∧ t.imon.endTime = s.tck.wall ∧ t.imon.shifted = none ∧
      t.imon.cycle = (if pos.pendingConfirm = true ∨ neg.pendingConfirm = true ∨
        t.imon.loc.current ≠ none ∨ period ≤ m.periodMs then .baseSettle else .idle) ∧
      (newFault → t.stu.epoch = (s.stu.epoch + 1) % 65536 ∧ t.stu.bank.isSome = true ∧
        (t.atn.sources.get 0).flag = true ∧ (t.atn.sources.get 3).flag = true ∧
        (t.atn.sources.get 3).detail =
          some (.stop ((s.stu.epoch + 1) % 65536) .insulationFault s.stu.bank.isNone) ∧
        t.act.activeSlot = none ∧ t.imon.loc.pole = none ∧
        (∀ i, (t.zone i).enabled = false ∧ ((t.zone i).state = .off ∨ (t.zone i).state = .faulted)) ∧
        t.inl.state ≠ .ready ∧ t.inl.state ≠ .drawing) ∧
      (newWarning → (t.atn.sources.get 1).flag = true) ∧
      (¬ newFault → t.stu = s.stu ∧ t.atn.sources.get 0 = s.atn.sources.get 0 ∧
        t.atn.sources.get 3 = s.atn.sources.get 3 ∧ t.rqp = s.rqp ∧
        t.act.activeSlot = s.act.activeSlot) ∧
      (¬ newWarning → t.atn.sources.get 1 = s.atn.sources.get 1) ∧
      (let before (q : Pole) : Severity := match q with | .pos => m.pos.severity | .neg => m.neg.severity
       let after (q : Pole) : Severity := match q with | .pos => pos.severity | .neg => neg.severity
       let ohms (q : Pole) : Nat := if lPos = decide (q = .pos) then rL else rS
       let raised (v : Severity) : Prop := v = .warning ∨ v = .fault
       let newly (q : Pole) (v : Severity) : Prop := after q = v ∧ before q ≠ v
       let judged (o : Origin) : Prop := ¬ newFault ∧ ∃ q z, m.loc.pole = some q ∧ m.loc.current = some z ∧
         (o = .pole q ∨ o = .zone z)
       let fresh (q : Pole) : Prop := (newly q .warning ∨ newly q .fault) ∧
         ∀ k x, m.faults.get k = some x → x.origin ≠ .pole q
       let changed (q : Pole) (x : FaultRec) : FaultRec :=
         if raised (after q) ∧ ¬ raised (before q) then
           { x with state := .active, count := min 65535 (x.count + 1), last := s.tck.wall,
                    highest := if x.highest = .fault ∨ after q = .fault then .fault else .warning,
                    lowestR := min x.lowestR (ohms q) }
         else if before q = .warning ∧ after q = .fault then
           { x with highest := .fault, last := s.tck.wall, lowestR := min x.lowestR (ohms q),
                    state := if x.state = .acknowledged then .active else x.state }
         else if raised (after q) then { x with last := s.tck.wall, lowestR := min x.lowestR (ohms q) }
         else if raised (before q) then
           { x with state := if x.state = .active then .cleared
                      else if x.state = .acknowledged then .resolved else x.state }
         else x
       m.oneRecordEach = true →
        (∀ k x, m.faults.get k = some x → ¬ judged x.origin → t.imon.faults.get k = some (match x.origin with
          | .pole q => changed q x
          | .zone _ => x)) ∧
        (∀ q, fresh q → ¬ judged (.pole q) → ∃ k, m.faults.get k = none ∧
          t.imon.faults.get k = some ⟨.pole q, .active, after q, ohms q, s.tck.wall, s.tck.wall, 1⟩ ∧
          ∀ j, j < k → m.faults.get j ≠ none ∨
            (q = .neg ∧ fresh .pos ∧ ∀ i, i < j → m.faults.get i ≠ none)) ∧
        (¬ fresh .pos → ¬ fresh .neg → ∀ k, m.faults.get k = none → t.imon.faults.get k = none) ∧
        (∀ q, (newly q .warning ∧ (q = .pos → ¬ newly .neg .warning)) → ¬ judged (.pole q) →
          ∃ k x, t.imon.faults.get k = some x ∧ x.origin = .pole q ∧
            (t.atn.sources.get 1).detail = some (.faultSlot k.val)) ∧
        (∀ q, (newly q .fault ∧ (q = .pos → ¬ newly .neg .fault)) →
          ∃ k x, t.imon.faults.get k = some x ∧ x.origin = .pole q ∧
            (t.atn.sources.get 0).detail = some (.faultSlot k.val))) ∧
      (¬ newFault → m.loc.pole = none →
        let joins (y : Fin 6) : Bool := decide ((s.zone y).state ≠ .isolated) &&
          decide ((s.zone y).state ≠ .faulted) && (s.zone y).enabled
        let list := (fins 6).filter joins
        let after (q : Pole) : Severity := match q with | .pos => pos.severity | .neg => neg.severity
        let warns (q : Pole) : Bool := decide (after q = .warning) && decide ((m.pole q).severity ≠ .warning)
        let first : Pole := if warns .pos then .pos else .neg
        let both : Bool := warns .pos && warns .neg
        let last : Pole := if both then .neg else match m.loc.deferred with
          | none => first
          | some d => if after d = .warning then d else first
        (¬ newWarning → t.imon.loc = m.loc ∧ t.atn.sources.get 2 = s.atn.sources.get 2) ∧
        (∀ y rest, newWarning → list = y :: rest →
          t.imon.loc = { m.loc with pole := some first, current := some y, candidates := rest, tried := 0,
                                    deferred := if both then some .neg else m.loc.deferred } ∧
          t.atn.sources.get 2 = s.atn.sources.get 2 ∧
          (t.zone y).state = .isolated ∧ (t.zone y).contactor = false ∧
          (((s.zone y).state = .heating ∨ (s.zone y).state = .holding) →
            (t.zone y).resume = some (s.zone y).state) ∧
          (((s.zone y).state = .off ∨ (s.zone y).state = .requested) →
            (t.zone y).resume = some .requested ∨ (t.zone y).resume = some .heating)) ∧
        (newWarning → list = [] →
          t.imon.loc = { m.loc with pole := none, current := none, candidates := [], tried := 0,
                                    deferred := none, outcome := .notExplained,
                                    origin := some (.pole last), endTime := s.tck.wall } ∧
          (t.atn.sources.get 2).flag = true ∧
          (m.oneRecordEach = true → ∀ k x, t.imon.faults.get k = some x → x.origin = .pole last →
            (t.atn.sources.get 2).detail = some (.faultSlot k.val)))) ∧
      t.rqp.queue = s.rqp.queue ∧ t.tck = s.tck ∧ t.mtr = s.mtr ∧ t.pwc = s.pwc

/-- R77: what one Compute makes of a pole's counts and severity, by its class: the two tables of the rule. A
rise needs two cycles in a row, a return to Normal three Clear ones, and a Fault never falls to Warning. -/
def Obligations.SeverityNeedsConfirmation : Prop :=
  ∀ (p : PoleRec) (g : Grade), p.warnCount ≤ 2 → p.faultCount ≤ 2 → p.normalCount ≤ 3 →
    let q := p.update g
    q.grade = some g ∧
    q.warnCount = (if g = .fault ∨ g = .warning then min 2 (p.warnCount + 1) else 0) ∧
    q.faultCount = (if g = .fault then min 2 (p.faultCount + 1) else 0) ∧
    (q.severity = .fault ↔
      (p.severity ≠ .fault ∧ g = .fault ∧ 1 ≤ p.faultCount) ∨
      (p.severity = .fault ∧ ¬ (g = .clear ∧ 2 ≤ p.normalCount))) ∧
    (q.severity = .warning ↔
      ((p.severity = .unknown ∨ p.severity = .normal) ∧ (g = .fault ∨ g = .warning) ∧ 1 ≤ p.warnCount ∧
        ¬ (g = .fault ∧ 1 ≤ p.faultCount)) ∨
      (p.severity = .warning ∧ ¬ (g = .fault ∧ 1 ≤ p.faultCount) ∧ ¬ (g = .clear ∧ 2 ≤ p.normalCount))) ∧
    (q.severity = .normal ↔
      ((p.severity = .warning ∨ p.severity = .fault) ∧ g = .clear ∧ 2 ≤ p.normalCount) ∨
      (p.severity = .unknown ∧ (g = .margin ∨ g = .clear)) ∨
      (p.severity = .normal ∧ ¬ ((g = .fault ∨ g = .warning) ∧ 1 ≤ p.warnCount) ∧
        ¬ (g = .fault ∧ 1 ≤ p.faultCount))) ∧
    q.normalCount = (if g = .clear then
        if (p.severity = .warning ∨ p.severity = .fault) ∧ 2 ≤ p.normalCount then 0
        else min 3 (p.normalCount + 1)
      else 0) ∧
    (q.pendingConfirm = true ↔
      (q.warnCount = 1 ∧ (q.severity = .unknown ∨ q.severity = .normal)) ∨
      (q.faultCount = 1 ∧ q.severity ≠ .fault))

/-! ### Fault table and locating (chapter 5) -/

/-- R92 to R97, R52, R55, R57: at a Compute without a new Fault, the current zone of an active sequence is
judged by the resistance of the sequence's pole. At or above the derived warning threshold it explains the
condition: it is Faulted for insulation, the pole's record has moved onto the zone, re-keyed or merged into
the zone's own, after it has taken what this Compute tells it (R89, R90; its state when the pole returns to
Normal at this very Compute is the model's choice, assumption 46), and the sequence completes as found. Below
it the zone is released, and the next candidate that can be isolated is isolated: one that stands enabled once
the window's end has brought the zones in line (R52). When none is left the sequence completes as not
explained. Each completion raises LOCATING_DONE with the slot of the record concerned and clears a deferred
pole, be it one that this Compute brings to Warning; if that pole stands at Warning, a sequence begins for it
at once over the zones then connected, and completes as not explained at once when there is none. -/
def Obligations.LocatingJudgesTheCandidate : Prop :=
  ∀ (s : State) (p : Pole) (z : Fin 6), s.imon.cycle = .shiftSample → 500 ≤ s.imon.phaseMs →
    s.imon.loc.pole = some p → s.imon.loc.current = some z → z ∉ s.imon.loc.candidates →
    (s.zone z).state = .isolated → (s.zone z).remembers = true → s.hzc.oneIsolated = true →
    s.imon.oneRecordEach = true →
    let m := s.imon.evaluate s.imon.meanP s.imon.meanN
    let before (q : Pole) : Severity := match q with
      | .pos => s.imon.pos.severity
      | .neg => s.imon.neg.severity
    let after (q : Pole) : Severity := match q with | .pos => m.pos.severity | .neg => m.neg.severity
    (∀ q, after q = .fault → before q = .fault) →
    let r := match p with | .pos => m.rPos | .neg => m.rNeg
    let other : Pole := match p with | .pos => .neg | .neg => .pos
    let deferred : Option Pole :=
      if after other = .warning ∧ before other ≠ .warning then some other else s.imon.loc.deferred
    let raised (v : Severity) : Prop := v = .warning ∨ v = .fault
    let told (x : FaultRec) : FaultRec :=
      if raised (after p) ∧ ¬ raised (before p) then
        { x with state := .active, count := min 65535 (x.count + 1), last := s.tck.wall,
                 highest := if x.highest = .fault then .fault else .warning, lowestR := min x.lowestR r }
      else if raised (after p) then { x with last := s.tck.wall, lowestR := min x.lowestR r }
      else if raised (before p) then
        { x with state := if x.state = .active then .cleared
                   else if x.state = .acknowledged then .resolved else x.state }
      else x
    let worse (v w : Severity) : Severity := if v = .fault ∨ w = .fault then .fault
      else if v = .warning ∨ w = .warning then .warning
      else if v = .normal ∨ w = .normal then .normal else .unknown
    let joins (y : Fin 6) : Bool := decide ((s.zone y).state ≠ .isolated) &&
      decide ((s.zone y).state ≠ .faulted) && (s.zone y).enabled
    let next := s.imon.loc.candidates.find? joins
    let ended : Prop := m.warnK ≤ r ∨ next = none
    let list := (fins 6).filter fun y => joins y ||
      (decide (y = z) && decide (r < m.warnK) && !(s.zone z).disableAfter)
    let second : Option Pole := match deferred with
      | none => none
      | some q => if after q = .warning then some q else none
    let outcome : LocateOutcome := if m.warnK ≤ r then .found else .notExplained
    let origin : Origin := if m.warnK ≤ r then .zone z else .pole p
    ∃ t, exec .shiftSampleEnd s = .next t ∧
      (m.warnK ≤ r →
        (t.zone z).state = .faulted ∧ (t.zone z).reason = some .insulation ∧
        (t.zone z).contactor = false ∧ (t.zone z).resume = none ∧
        t.imon.recordOf (.pole p) = none ∧
        ((s.imon.recordOf (.pole p)).isSome = true → (t.imon.recordOf (.zone z)).isSome = true) ∧
        (∀ k x, s.imon.faults.get k = some x → x.origin = .pole p →
          (s.imon.recordOf (.zone z) = none → t.imon.faults.get k =
            some { told x with origin := .zone z, last := s.tck.wall }) ∧
          (∀ j w, s.imon.faults.get j = some w → w.origin = .zone z →
            t.imon.faults.get k = none ∧ t.imon.faults.get j = some
              { origin := .zone z, state := (told x).state,
                highest := worse w.highest (told x).highest,
                lowestR := min w.lowestR (told x).lowestR, first := min w.first x.first,
                last := s.tck.wall, count := min 65535 (w.count + (told x).count) })) ∧
        (t.atn.sources.get 8).detail = some (.zone (some z) .insulation)) ∧
      (r < m.warnK → (after p = before p → t.imon.recordOf (.pole p) = s.imon.recordOf (.pole p)) ∧
        (∀ k x, s.imon.faults.get k = some x →
          (x.origin = .pole p → t.imon.faults.get k = some (told x)) ∧
          (x.origin = .zone z → t.imon.faults.get k = some x)) ∧
        (t.zone z).enabled = (s.zone z).enabled ∧
        ((s.zone z).disableAfter = true → (t.zone z).state = .off ∧ (t.zone z).resume = none) ∧
        ((s.zone z).disableAfter = false → t.imon.loc.current ≠ some z →
          (t.zone z).contactor = s.blocksRun ∧ (t.zone z).resume = none)) ∧
      (∀ y, r < m.warnK → next = some y →
        (t.zone y).state = .isolated ∧ (t.zone y).contactor = false ∧
        (((s.zone y).state = .heating ∨ (s.zone y).state = .holding) →
          (t.zone y).resume = some (s.zone y).state) ∧
        (((s.zone y).state = .off ∨ (s.zone y).state = .requested) →
          (t.zone y).resume = some .requested ∨ (t.zone y).resume = some .heating) ∧
        t.imon.loc.pole = some p ∧ t.imon.loc.current = some y ∧
        t.imon.loc.tried = s.imon.loc.tried + 1 ∧ t.imon.loc.deferred = deferred ∧
        t.atn.sources.get 2 = s.atn.sources.get 2 ∧ t.imon.cycle = .baseSettle) ∧
      (ended → t.imon.loc.deferred = none ∧ t.imon.loc.endTime = s.tck.wall ∧
        (t.atn.sources.get 2).flag = true ∧
        (∀ k x, t.imon.faults.get k = some x → t.imon.loc.origin = some x.origin →
          (t.atn.sources.get 2).detail = some (.faultSlot k.val))) ∧
      (ended → second = none → t.imon.loc.pole = none ∧ t.imon.loc.current = none ∧
        t.imon.loc.candidates = [] ∧ t.imon.loc.outcome = outcome ∧ t.imon.loc.origin = some origin ∧
        t.imon.loc.tried = s.imon.loc.tried + if m.warnK ≤ r then 0 else 1) ∧
      (∀ q y rest, ended → second = some q → list = y :: rest →
        t.imon.loc.pole = some q ∧ t.imon.loc.current = some y ∧ t.imon.loc.candidates = rest ∧
        t.imon.loc.tried = 0 ∧ t.imon.loc.outcome = outcome ∧ t.imon.loc.origin = some origin ∧
        (t.zone y).state = .isolated ∧ (t.zone y).contactor = false ∧ t.imon.cycle = .baseSettle) ∧
      (∀ q, ended → second = some q → list = [] →
        t.imon.loc.pole = none ∧ t.imon.loc.current = none ∧ t.imon.loc.candidates = [] ∧
        t.imon.loc.tried = 0 ∧ t.imon.loc.outcome = .notExplained ∧ t.imon.loc.origin = some (.pole q)) ∧
      t.stu = s.stu ∧ t.rqp = s.rqp ∧ t.tck = s.tck ∧ t.mtr = s.mtr ∧ t.pwc = s.pwc

/-- R99, R100: Acknowledge Fault takes an Active record to Acknowledged and a Cleared one to Resolved, and
leaves an Acknowledged or Resolved one; a Free slot is refused with STATE. Retire Fault frees the slot of a
Resolved record and refuses any other with STATE. A slot above 7 is refused with RANGE, a payload of another
length with LENGTH, the slot being checked first (the model's reading, assumption 8). The response is the slot
with its state after the request, and nothing else changes. -/
def Obligations.FaultRecordsAcknowledgeAndRetire : Prop :=
  ∀ (s : State) (c : Instr) (code : Byte),
    ((c = .acknowledgeFault ∧ code = 0x2B) ∨ (c = .retireFault ∧ code = 0x2C)) →
    (∀ p : List Byte, s.serves code p → (p = [] ∨ (field p 0 1 ≤ 7 ∧ p.length ≠ 1)) →
      exec c s = .next (s.answer ⟨.length, []⟩)) ∧
    (∀ p : List Byte, s.serves code p → 7 < field p 0 1 → exec c s = .next (s.answer ⟨.range, []⟩)) ∧
    (∀ i : Fin 8, s.serves code [BitVec.ofNat 8 i.val] →
      (s.imon.faults.get i = none →
        exec c s = .next (s.answer ⟨.state, [BitVec.ofNat 8 i.val, 0#8]⟩)) ∧
      (∀ r, s.imon.faults.get i = some r → c = .acknowledgeFault →
        let st : FaultState := if r.state = .active ∨ r.state = .acknowledged then .acknowledged
          else .resolved
        exec c s = .next (({ s with imon := { s.imon with
          faults := s.imon.faults.set i (some { r with state := st }) } } : State).answer
            ⟨.ok, [BitVec.ofNat 8 i.val, BitVec.ofNat 8 st.code]⟩)) ∧
      (∀ r, s.imon.faults.get i = some r → c = .retireFault →
        (r.state = .resolved → exec c s = .next (({ s with imon := { s.imon with
          faults := s.imon.faults.set i none } } : State).answer
            ⟨.ok, [BitVec.ofNat 8 i.val, 0#8]⟩)) ∧
        (r.state ≠ .resolved → exec c s = .next (s.answer
          ⟨.state, [BitVec.ofNat 8 i.val, BitVec.ofNat 8 r.state.code]⟩))))

/-- R85: the fault table never holds two records of one origin. -/
def Obligations.OneRecordPerOrigin : Prop :=
  ∀ s t : State, s.imon.oneRecordEach = true → step s = .next t → t.imon.oneRecordEach = true

/-! ### Stops (chapter 6) -/

/-- R105, R106, R108, R114, R59, R12, R155: an accepted Stop is taken whole. The epoch advances, an empty
bank takes the context as it stood and a full one sets the overflow flag; the Active account is Suspended
with reason Stop and supervision disarmed; every zone is disabled and Off unless it is Faulted; Drawing
enters Pausing and Ready enters Offered; STOP is raised; where ALC runs, no power is left. A stop inside a
quiet window discards the sample in progress (R73); outside one the cycle goes on. That an isolation remembers
a connected zone is part of the invariant ZonesStayInOrder. -/
def Obligations.StopIsTakenWhole : Prop :=
  ∀ s : State, s.serves 0x30 [] → s.act.oneActive = true →
    let epoch := (s.stu.epoch + 1) % 65536
    let handle := s.act.activeSlot.map fun i => (⟨i, (s.act.slots.get i).gen⟩ : Handle)
    ∃ t, exec .stop s = .next t ∧
      t.stu.epoch = epoch ∧
      (s.stu.bank = none → t.stu.overflow = s.stu.overflow ∧ ∃ c, t.stu.bank = some c ∧
        c.epoch = epoch ∧ c.cause = .request ∧ c.handle = handle ∧
        (∀ i, c.enabled.get i = (s.zone i).enabled ∧ c.targets.get i = (s.zone i).target) ∧
        c.ceiling = s.alc.ceiling ∧ c.share = s.alc.share ∧ c.time = s.tck.wall) ∧
      (s.stu.bank ≠ none → t.stu.bank = s.stu.bank ∧ t.stu.overflow = true) ∧
      (∀ i, (t.zone i).enabled = false ∧ (t.zone i).target = (s.zone i).target ∧
        ((s.zone i).state = .faulted → t.zone i = { s.zone i with enabled := false }) ∧
        ((s.zone i).state ≠ .faulted → (s.zone i).remembers = true →
          (t.zone i).state = .off ∧ (t.zone i).contactor = false ∧
          (t.zone i).duty = 0 ∧ (t.zone i).grant = 0 ∧ (t.zone i).demand = 0 ∧
          (t.zone i).resume = none)) ∧
      t.inl.state = (match s.inl.state with
        | .drawing => .pausing
        | .ready => .offered
        | st => st) ∧
      t.act.activeSlot = none ∧
      (∀ i a, s.act.activeSlot = some i → (s.act.slots.get i).acct = some a →
        (t.act.slots.get i).acct = some { a with state := .suspended, reason := some .stop } ∧
        (t.atn.sources.get 6).flag = true ∧
        (t.atn.sources.get 6).detail =
          some (.account ⟨i, (s.act.slots.get i).gen⟩ .suspendedStop)) ∧
      (t.atn.sources.get 3).flag = true ∧
      (t.atn.sources.get 3).detail = some (.stop epoch .request s.stu.bank.isNone) ∧
      t.imon.loc.pole = none ∧
      t.imon = (if s.sampleOpen = true then
          { s.imon with
            cycle := if s.imon.cycle = .baseSample then .baseSettle else .shiftSettle,
            phaseMs := 0, discards := min 255 (s.imon.discards + 1), sumP := 0, sumN := 0, samples := 0,
            loc := t.imon.loc }
        else { s.imon with loc := t.imon.loc }) ∧
      (s.blocksRun = true → t.alc.chargerCmd = 0 ∧ t.alc.force = Figures.zero) ∧
      t.alc.ceiling = s.alc.ceiling ∧ t.alc.share = s.alc.share ∧
      t.rqp = { s.rqp with
        sup := match s.rqp.sup with
          | .armed ms => if s.act.activeSlot = none then .armed ms else .disarmed
          | .disarmed => .disarmed
          | .expired => .expired,
        queue := answerOldest ⟨.ok, be 2 epoch ++ be 1 (if s.stu.bank = none then 1 else 0) ++
          handleBytes handle ++ be 1 (if s.stu.bank = none ∧ s.stu.overflow = false then 0 else 1)⟩
          s.rqp.queue } ∧
      t.tck = s.tck ∧ t.mtr = s.mtr ∧ t.pwc = s.pwc

/-- R109 to R112: Resume is refused with STATE while the bank is empty or a pole stands at Fault. Accepted, it
restores the six flags and targets, the ceiling and the share, reactivates the banked account where the four
conditions of R111 hold and reports the first that fails, and empties the bank. Discard Snapshot empties the
bank and does nothing else; an empty bank refuses it. -/
def Obligations.ResumeRestoresTheContext : Prop :=
  ∀ s : State,
    (s.serves 0x31 [] →
      (s.stu.bank = none ∨ s.imon.pos.severity = .fault ∨ s.imon.neg.severity = .fault) →
      exec .resume s = .next (s.answer ⟨.state, be 1 (if s.stu.bank = none then 0 else 1) ++
        be 1 s.imon.pos.severity.code ++ be 1 s.imon.neg.severity.code⟩)) ∧
    (∀ c, s.serves 0x31 [] → s.stu.bank = some c → s.imon.pos.severity ≠ .fault →
      s.imon.neg.severity ≠ .fault →
      let stopped (h : Handle) : Prop := (s.act.slots.get h.slot).gen = h.gen ∧
        ∃ a, (s.act.slots.get h.slot).acct = some a ∧ a.state = .suspended ∧ a.reason = some .stop
      ∃ (t : State) (outcome : Nat), exec .resume s = .next t ∧
        (outcome = 1 ↔ c.handle = none) ∧
        (outcome = 2 ↔ ∃ h, c.handle = some h ∧ ¬ stopped h) ∧
        (outcome = 3 ↔ ∃ h, c.handle = some h ∧ stopped h ∧ s.inl.state = .unplugged) ∧
        (outcome = 4 ↔ ∃ h, c.handle = some h ∧ stopped h ∧ s.inl.state ≠ .unplugged ∧
          s.act.activeSlot ≠ none) ∧
        outcome ≤ 4 ∧
        (outcome = 0 → ∃ h a, c.handle = some h ∧ t.act.activeSlot = some h.slot ∧
          (t.act.slots.get h.slot).acct = some a ∧ a.reason = none ∧
          t.rqp.sup = (if s.rqp.sup = .expired then .expired else .armed s.rqp.config.window)) ∧
        (outcome ≠ 0 → t.act.activeSlot = s.act.activeSlot ∧ t.rqp.sup = s.rqp.sup) ∧
        t.stu = { s.stu with bank := none, overflow := false } ∧
        (∀ i, (t.zone i).enabled = c.enabled.get i ∧ (t.zone i).target = c.targets.get i ∧
          (t.zone i).gain = (s.zone i).gain ∧ (t.zone i).pMax = (s.zone i).pMax ∧
          (t.zone i).priority = (s.zone i).priority ∧
          (s.sampleOpen = false → ((s.zone i).state = .off ∨ (s.zone i).state.connected = true) →
            (t.zone i).state.connected = c.enabled.get i) ∧
          ((s.zone i).state = .faulted → (t.zone i).state = .faulted)) ∧
        t.alc.ceiling = c.ceiling ∧ t.alc.share = c.share ∧ t.alc.heatLimit = s.alc.heatLimit ∧
        t.alc.mask = s.alc.mask ∧
        t.rqp.queue = answerOldest ⟨.ok, be 2 c.epoch ++ be 1 c.cause.code ++ be 1 outcome ++
          handleBytes c.handle ++ be 1 (if s.stu.overflow = true then 1 else 0)⟩ s.rqp.queue ∧
        t.tck = s.tck ∧ t.mtr = s.mtr ∧ t.pwc = s.pwc) ∧
    (∀ p, s.serves 0x32 p → exec .discardSnapshot s = .next (
      if p = [] then
        match s.stu.bank with
        | none => s.answer ⟨.state, []⟩
        | some c => ({ s with stu := { s.stu with bank := none, overflow := false } } : State).answer
            ⟨.ok, be 2 c.epoch ++ be 1 c.cause.code ++ be 1 (if s.stu.overflow = true then 1 else 0)⟩
      else s.answer ⟨.length, []⟩))

/-! ### Metering, time and tariffs (chapters 7 and 8) -/

/-- R81, R128, R134, R141: Set Thresholds, Clear Unbilled, Set Clock and Write Tariff change the values they
name, as clamped, and nothing else; each refuses what its entry refuses. A Write Tariff too short to hold its
index and count is refused with LENGTH (the model's reading, assumption 8). -/
def Obligations.PlainWritesAreExact : Prop :=
  ∀ (s : State) (p : List Byte),
    (s.serves 0x29 p → p.length ≠ 4 → exec .setThresholds s = .next (s.answer ⟨.length, []⟩)) ∧
    (s.serves 0x29 p → p.length = 4 →
      let warn := min 2000 (max 100 (field p 0 2))
      let fault := min 1000 (max 50 (field p 2 2))
      exec .setThresholds s = .next (
        if fault < warn then
          ({ s with imon := { s.imon with warnTh := warn, faultTh := fault } } : State).answer
            ⟨.ok, be 2 warn ++ be 2 fault⟩
        else s.answer ⟨.range, []⟩)) ∧
    (s.serves 0x39 p → exec .clearUnbilled s = .next (
      if p = [] then ({ s with mtr := { s.mtr with unbilledWh := 0, unbilledJ := 0 } } : State).answer
        ⟨.ok, be 4 s.mtr.unbilledWh ++ be 2 s.mtr.unbilledJ⟩
      else s.answer ⟨.length, []⟩)) ∧
    (s.serves 0x40 p → p.length ≠ 6 → exec .setClock s = .next (s.answer ⟨.length, []⟩)) ∧
    (s.serves 0x40 p → p.length = 6 →
      let offset := min 840 (max (-720) (fieldInt p 4 2))
      exec .setClock s = .next (({ s with
        tck := { s.tck with wall := field p 0 4, offset := offset, isSet := true, secondMs := 0 },
        mtr := { s.mtr with lastIndex := none } } : State).answer
          ⟨.ok, be 4 (field p 0 4) ++ beInt 2 offset ++ be 4 s.tck.wall⟩)) ∧
    (s.serves 0x42 p → 7 < field p 0 1 → exec .writeTariff s = .next (s.answer ⟨.range, []⟩)) ∧
    (s.serves 0x42 p → field p 0 1 ≤ 7 → p.length < 2 →
      exec .writeTariff s = .next (s.answer ⟨.length, []⟩)) ∧
    (∀ i : Fin 8, s.serves 0x42 p → 2 ≤ p.length → field p 0 1 = i.val →
      let k := field p 1 1
      let bands := readBands k (p.drop 2)
      let good := (∀ b ∈ bands.head?, b.start = 0) ∧ (∀ b ∈ bands, b.start ≤ 1439) ∧
        bands.Pairwise fun a b => a.start < b.start
      let new : Tariff := if k = 0 then { s.tck.tariffs.get i with bands := [], idleFee := 0, grace := 0 }
        else { s.tck.tariffs.get i with
          bands := bands.map fun b => ⟨b.start, min 1000000 b.price⟩,
          idleFee := min 10000000 (field p (2 + 6 * k) 4), grace := min 240 (field p (6 + 6 * k) 1) }
      (4 < k → exec .writeTariff s = .next (s.answer ⟨.range, []⟩)) ∧
      (k ≤ 4 → p.length ≠ 7 + 6 * k → exec .writeTariff s = .next (s.answer ⟨.length, []⟩)) ∧
      (k ≤ 4 → p.length = 7 + 6 * k →
        (0 < (s.tck.tariffs.get i).refs → exec .writeTariff s = .next (s.answer ⟨.inUse, []⟩)) ∧
        ((s.tck.tariffs.get i).refs = 0 → ¬ good →
          exec .writeTariff s = .next (s.answer ⟨.range, []⟩)) ∧
        ((s.tck.tariffs.get i).refs = 0 → good →
          ∃ t, exec .writeTariff s = .next t ∧
            t = ({ s with tck := { s.tck with tariffs := s.tck.tariffs.set i new } } : State).answer
              ⟨.ok, tariffImage i t⟩)))

/-- R117 to R119, R9: a quick reading, where MTR runs, takes the wired phases; n is the number of them at 1800
and more, V_ph the lowest of those or 0. A new n reaches INL when it leaves or reaches 0, and the pass it
triggers; the same n changes nothing else. AC gone brings Drawing to Ready, and Pausing to Offered or Plugged
by its offer; the pass then keeps Ready or Offered by its prospective grant (R8). That the tick keeps this
phase count until the next reading is the model's reading (assumption 17). Where MTR does not run a reading
changes nothing (the model's choice, assumption 3). -/
def Obligations.QuickReadingCountsTheLivePhases : Prop :=
  ∀ (s : State) (f : FrontEnd),
    (s.meterRuns = false → exec (.quickReading f) s = .next s) ∧
    (s.meterRuns = true →
      let wired (w : Bool) (p : PhaseReading) : PhaseRec :=
        if w then ⟨p.volts, p.amps, p.watts, decide (1800 ≤ p.volts)⟩ else ⟨0, 0, 0, false⟩
      let three := decide (s.rqp.config.wired = 3)
      let live := (if three then [f.phase1.volts, f.phase2.volts, f.phase3.volts]
        else [f.phase1.volts]).filter fun v => decide (1800 ≤ v)
      ∃ t, exec (.quickReading f) s = .next t ∧
        t.mtr.phases.get 0 = wired true f.phase1 ∧ t.mtr.phases.get 1 = wired three f.phase2 ∧
        t.mtr.phases.get 2 = wired three f.phase3 ∧ t.mtr.n = live.length ∧
        t.mtr.vph = (live.min?).getD 0 ∧
        t.mtr = { s.mtr with phases := t.mtr.phases, n := live.length, vph := (live.min?).getD 0,
                             wired := s.rqp.config.wired } ∧
        (live.length = s.mtr.n → s.work = Work.clear → t = { s with mtr := t.mtr }) ∧
        (live.length ≠ s.mtr.n → t.alc.inputs.n = live.length) ∧
        (s.mtr.n = 0 → 0 < live.length → s.inl.state = .ready → t.inl.state = .drawing) ∧
        (0 < s.mtr.n → live.length = 0 → s.inl.state = .drawing →
          t.inl.state = .ready ∨ t.inl.state = .offered) ∧
        (0 < s.mtr.n → live.length = 0 → s.inl.state = .pausing → s.inl.offerValid = false →
          t.inl.state = .plugged) ∧
        (0 < s.mtr.n → live.length = 0 → s.inl.state = .pausing → s.inl.offerValid = true →
          t.inl.state = .offered ∨ t.inl.state = .ready) ∧
        (0 < s.mtr.n → live.length = 0 → s.sampleOpen = false →
          (s.inl.state = .drawing ∨ (s.inl.state = .pausing ∧ s.inl.offerValid = true)) →
          (t.inl.state = .ready ↔ 0 < t.alc.grid.bGrant + t.alc.grid.hGrant)) ∧
        t.rqp = s.rqp ∧ t.tck = s.tck ∧ t.stu = s.stu ∧ t.pwc = s.pwc)

/-- R132, R120 to R126, R137, R139, R159 to R164, R60: an advance of the clock. Where MTR runs it takes a
tick: the phase energies, to which the command adds those of the second (the model's choice, assumption 7),
clamped, over the phases that the latest quick reading took as wired (the model's reading, assumption 17),
with the heat share; the record of the tick; the integrals restarted. The delivery goes to the Active account,
priced under its tariff after a pending switch, with its idle count and its caps, each register holding at its
maximum; an account saturated on total energy takes nothing; or it goes to the Unbilled register, which holds
likewise. At a crossing TARIFF is raised for each account that switches, the detail of the highest slot
standing (R140). A register newly saturated and a cap newly reached raise ACCOUNT, and the pass that follows
sees them and is a safety pass: it is applied inside a Sample phase too, clears the held-pass flag, and
discards the sample when it changes the figures in force. Where HZC runs with battery heat in force the
allowance falls by the grant; brought to 0 it raises ZONE, and the pass that follows reads it as 0. At the
clock's maximum no advance is taken (the model's choice, assumption 13), and before 1000 ms nothing happens
(the model's choice, assumption 3). -/
def Obligations.ClockAdvanceTakesATick : Prop :=
  ∀ (s : State) (e : PhaseEnergy),
    (s.tck.secondMs < 1000 → exec (.clockAdvance e) s = .next s) ∧
    (1000 ≤ s.tck.secondMs → 4294967295 ≤ s.tck.wall → ∃ t, exec (.clockAdvance e) s = .next t ∧
      t.tck = { s.tck with secondMs := 0 } ∧ t.mtr.last = s.mtr.last ∧ t.mtr.unbilledWh = s.mtr.unbilledWh ∧
      t.hzc.allowWh = s.hzc.allowWh) ∧
    (1000 ≤ s.tck.secondMs → s.tck.wall < 4294967295 → ∃ t, exec (.clockAdvance e) s = .next t ∧
      t.tck.wall = s.tck.wall + 1 ∧ t.tck.secondMs = 0 ∧ t.tck.offset = s.tck.offset ∧
      t.tck.isSet = s.tck.isSet ∧ t.rqp = s.rqp ∧ t.stu = s.stu ∧ t.pwc = s.pwc ∧
      (let debit := if s.blocksRun = true ∧ s.alc.force.source = .battery then s.alc.force.hGrant else 0
       let stock := s.hzc.allowWh * 3600 + s.hzc.allowJ
       (s.hzc.allowJ < 3600 → t.hzc.allowJ < 3600 ∧
        t.hzc.allowWh * 3600 + t.hzc.allowJ = stock - debit) ∧
       (0 < stock → stock ≤ debit → (t.atn.sources.get 8).flag = true ∧
        (t.atn.sources.get 8).detail = some (.zone none .allowanceExhausted) ∧
        t.alc.inputs.allowanceZero = true) ∧
       ((stock = 0 ∨ debit < stock) → t.atn.sources.get 8 = s.atn.sources.get 8)) ∧
      (s.meterRuns = false → t.mtr = s.mtr ∧ t.act.activeSlot = s.act.activeSlot ∧
        t.atn.sources.get 9 = s.atn.sources.get 9) ∧
      (s.meterRuns = true →
        let joules (w : Bool) (j : Int) : Nat := if w then min 20000 j.toNat else 0
        let three := decide (s.mtr.wired = 3)
        let p1 := joules true (s.mtr.integrals.get 0 + e.phase1)
        let p2 := joules three (s.mtr.integrals.get 1 + e.phase2)
        let p3 := joules three (s.mtr.integrals.get 2 + e.phase3)
        let total := p1 + p2 + p3
        let f := s.alc.force
        let heat := if s.inl.state = .drawing ∧ f.source = .grid ∧ 0 < f.bGrant + f.hGrant
          then total * f.hGrant / (f.bGrant + f.hGrant) else 0
        let crossing := decide (s.mtr.lastIndex ≠ some (s.tck.wall / 900))
        heat ≤ total ∧
        t.mtr.last = some ⟨s.tck.wall + 1, s.mtr.spanMs, p1, p2, p3, total, heat, f.source, f.bGrant,
          f.hGrant, s.act.activeHandle, s.tck.wall / 900, crossing⟩ ∧
        t.mtr.lastIndex = some (s.tck.wall / 900) ∧ t.mtr.spanMs = 0 ∧
        (∀ i, t.mtr.integrals.get i = 0) ∧ t.mtr.n = s.mtr.n ∧ t.mtr.phases = s.mtr.phases ∧
        t.act.activeSlot = s.act.activeSlot ∧
        (∀ i, s.act.activeSlot ≠ some i → ∀ a, (s.act.slots.get i).acct = some a →
          (t.act.slots.get i).acct = some (if crossing = true ∧ a.state ≠ .closed then
            { a with tariff := a.pending.getD a.tariff, pending := none } else a)) ∧
        (let switches (i : Fin 16) (b : Fin 8) : Prop :=
          ∃ a, (s.act.slots.get i).acct = some a ∧ a.state ≠ .closed ∧ a.pending = some b
         (∀ i b, crossing = true → switches i b → (∀ j, i < j → ∀ c, ¬ switches j c) →
          (t.atn.sources.get 9).flag = true ∧
          (t.atn.sources.get 9).detail = some (.tariff ⟨i, (s.act.slots.get i).gen⟩ b)) ∧
         ((crossing = false ∨ ∀ i b, ¬ switches i b) →
          t.atn.sources.get 9 = s.atn.sources.get 9)) ∧
        (s.act.activeSlot = none → s.mtr.unbilledWh < 99999999 →
          t.mtr.unbilledWh * 3600 + t.mtr.unbilledJ =
            min (99999999 * 3600) (s.mtr.unbilledWh * 3600 + s.mtr.unbilledJ + total) ∧
          t.mtr.unbilledJ < 3600) ∧
        ((s.act.activeSlot ≠ none ∨ 99999999 ≤ s.mtr.unbilledWh) →
          t.mtr.unbilledWh = s.mtr.unbilledWh ∧ t.mtr.unbilledJ = s.mtr.unbilledJ) ∧
        (∀ i a, s.act.activeSlot = some i → (s.act.slots.get i).acct = some a → a.satTotal = true →
          ∃ b, (t.act.slots.get i).acct = some b ∧ b = { a with
            tariff := if crossing = true then a.pending.getD a.tariff else a.tariff,
            pending := if crossing = true then none else a.pending, sticky := b.sticky }) ∧
        (∀ i a, s.act.activeSlot = some i → (s.act.slots.get i).acct = some a → a.satTotal = false →
          a.totalWh < 99999999 →
          let tariff := if crossing = true then a.pending.getD a.tariff else a.tariff
          let tar := s.tck.tariffs.get tariff
          let price := bandPrice tar.bands (minuteOfDay s.tck.wall s.tck.offset)
          let drawn := a.hasDrawn || decide (0 < total)
          let idle := drawn = true ∧
            (s.inl.state = .plugged ∨ s.inl.state = .offered ∨ s.inl.state = .ready)
          let minute := idle ∧ 59 ≤ a.idleSec
          let fee := minute ∧ tar.grace ≤ a.graceUsed
          let sum := a.totalWh * 3600 + a.totalJ + total
          let full := 99999999 * 3600 ≤ sum
          let kept := min (99999999 * 3600) sum - (a.totalWh * 3600 + a.totalJ)
          let carried := if full then 99999999 - a.totalWh else (a.totalJ + total) / 3600
          ∃ b, (t.act.slots.get i).acct = some b ∧ b.state = .active ∧ b.tariff = tariff ∧
            b.totalWh * 3600 + b.totalJ = min (99999999 * 3600) sum ∧
            b.heatWh * 3600 + b.heatJ = a.heatWh * 3600 + a.heatJ +
              (if full then min heat kept else heat) ∧
            b.totalJ < 3600 ∧ b.heatJ < 3600 ∧ b.hasDrawn = drawn ∧
            b.costEnergy = min 999999999999 (a.costEnergy + carried * price) ∧
            b.costIdle = (if fee then min 999999999999 (a.costIdle + tar.idleFee) else a.costIdle) ∧
            b.idleMin = (if fee then min 65535 (a.idleMin + 1) else a.idleMin) ∧
            b.graceUsed = (if minute ∧ a.graceUsed < tar.grace then a.graceUsed + 1 else a.graceUsed) ∧
            b.idleSec = (if minute then 0 else if idle then a.idleSec + 1 else a.idleSec) ∧
            (b.satTotal = true ↔ full) ∧
            (b.satEnergy = true ↔
              a.satEnergy = true ∨ 999999999999 < a.costEnergy + carried * price) ∧
            (b.satIdle = true ↔ a.satIdle = true ∨ (fee ∧ 999999999999 < a.costIdle + tar.idleFee)) ∧
            (b.capReached = true ↔ (∃ c, a.energyCap = some c ∧ c ≤ b.totalWh) ∨
              (∃ c, a.costCap = some c ∧ c ≤ b.costEnergy + b.costIdle)) ∧
            ((full ∨ (a.satEnergy = false ∧ b.satEnergy = true) ∨
                (a.satIdle = false ∧ b.satIdle = true) ∨
                (a.capReached = false ∧ b.capReached = true)) →
              (t.atn.sources.get 6).flag = true ∧
              (∃ e, (t.atn.sources.get 6).detail = some (.account ⟨i, (s.act.slots.get i).gen⟩ e)) ∧
              t.alc.inputs.capReached = b.capReached ∧
              t.alc.inputs.saturated = (b.satTotal || b.satEnergy || b.satIdle) ∧
              t.alc.held = false ∧
              t.alc.force = t.alc.inputs.figures s.rqp.config.wired s.alc.curve (s.hzc.zones.map Zone.priority) ∧
              t.alc.chargerCmd = t.alc.force.iChg ∧
              (s.sampleOpen = true → t.alc.force ≠ s.alc.force → t.imon = { s.imon with
                cycle := if s.imon.cycle = .baseSample then .baseSettle else .shiftSettle, phaseMs := 0,
                discards := min 255 (s.imon.discards + 1), sumP := 0, sumN := 0, samples := 0 })) ∧
            (a.capReached = false → b.capReached = true → (t.atn.sources.get 6).detail =
                some (.account ⟨i, (s.act.slots.get i).gen⟩ .capReached)))))

/-! ### Accounts (chapter 9) -/

/-- R144, R148, R149, R163: Open Account's checks in their order, and the account that an accepted Open puts
into the lowest Free slot, which takes a reference on its tariff; that the bits 7 to 2 of the presence byte
are ignored is the model's choice (assumption 45); Find Account reports the account that carries a token. -/
def Obligations.OpenAndFindGoByToken : Prop :=
  ∀ (s : State) (p : List Byte),
    let token := field p 0 8
    let holds (j : Fin 16) : Prop := ∃ a, (s.act.slots.get j).acct = some a ∧ a.token = token
    let report (j : Fin 16) (a : Account) : List Byte :=
      be 1 j.val ++ be 1 (s.act.slots.get j).gen ++ be 1 a.state.code
    (s.serves 0x48 p → p.length ≠ 20 → exec .openAccount s = .next (s.answer ⟨.length, []⟩)) ∧
    (s.serves 0x48 p → p.length = 20 →
      ((token = 0 ∨ 7 < field p 8 1) → exec .openAccount s = .next (s.answer ⟨.range, []⟩)) ∧
      (token ≠ 0 → ∀ tariff : Fin 8, field p 8 1 = tariff.val →
        (∀ j a, (s.act.slots.get j).acct = some a → a.token = token → (∀ k, k < j → ¬ holds k) →
          exec .openAccount s = .next (s.answer ⟨.duplicate, report j a⟩)) ∧
        ((∀ j, ¬ holds j) → (∀ j, (s.act.slots.get j).acct ≠ none) →
          exec .openAccount s = .next (s.answer ⟨.full, []⟩)) ∧
        (∀ i, (∀ j, ¬ holds j) → (s.act.slots.get i).acct = none →
          (∀ k, k < i → (s.act.slots.get k).acct ≠ none) →
          ((s.tck.tariffs.get tariff).bands = [] →
            exec .openAccount s = .next (s.answer ⟨.state, []⟩)) ∧
          ((s.tck.tariffs.get tariff).bands ≠ [] →
            let e := if (field p 9 1).testBit 0 then some (min 99999999 (field p 10 4)) else none
            let c := if (field p 9 1).testBit 1 then some (min 999999999999 (field p 14 6)) else none
            let a : Account :=
              { state := .opened, token := token, tariff := tariff, pending := none, energyCap := e,
                costCap := c, totalWh := 0, totalJ := 0, heatWh := 0, heatJ := 0, costEnergy := 0,
                costIdle := 0, idleSec := 0, idleMin := 0, graceUsed := 0, hasDrawn := false, sticky := 0,
                capReached := decide (e = some 0 ∨ c = some 0), satTotal := false, satEnergy := false,
                satIdle := false, reason := none, opened := s.tck.wall, firstActive := none,
                closed := none, statement := none }
            let old := s.tck.tariffs.get tariff
            let named := s.tck.tariffs.set tariff { old with refs := old.refs + 1 }
            exec .openAccount s = .next (({ s with
              act := ⟨s.act.slots.set i ⟨(s.act.slots.get i).gen, some a⟩⟩,
              tck := { s.tck with tariffs := named } } : State).answer
                ⟨.ok, be 1 i.val ++ be 1 (s.act.slots.get i).gen ++
                  be 1 ((if e = none then 0 else 1) + if c = none then 0 else 2) ++
                  be 4 (e.getD 0) ++ be 6 (c.getD 0)⟩))))) ∧
    (s.serves 0x49 p → p.length ≠ 8 → exec .findAccount s = .next (s.answer ⟨.length, []⟩)) ∧
    (s.serves 0x49 p → p.length = 8 →
      (token = 0 → exec .findAccount s = .next (s.answer ⟨.range, []⟩)) ∧
      (token ≠ 0 → (∀ j, ¬ holds j) → exec .findAccount s = .next (s.answer ⟨.notFound, []⟩)) ∧
      (token ≠ 0 → ∀ j a, (s.act.slots.get j).acct = some a → a.token = token →
        (∀ k, k < j → ¬ holds k) → exec .findAccount s = .next (s.answer ⟨.ok, report j a⟩)))

/-- R152, R153, R154, R146, R138, R165: Amend replaces the pending tariff and the caps of an account that is
not Closed and moves the references with the pending tariff; it reads the bits 0 to 2 of the presence byte,
and that it ignores the bits 7 to 3 is the model's choice (assumption 45); on the Active account a change of
CapReached triggers a pass, which reads it and is a safety pass when the cap is newly reached, and otherwise
no pass runs and the sticky flags stand; Activate reports the first of its six conditions that fails, or makes
the account Active and arms supervision; Suspend takes the Active account out of Active with reason Request
and disarms it. -/
def Obligations.AccountsAreAmendedAndActivated : Prop :=
  ∀ (s : State) (p : List Byte) (i : Fin 16) (a : Account), (s.act.slots.get i).acct = some a →
    field p 0 1 = i.val → field p 1 1 = (s.act.slots.get i).gen →
    (s.serves 0x4C p → p.length = 14 →
      ((field p 2 1).testBit 0 = true → 7 < field p 3 1 →
        exec .amendAccount s = .next (s.answer ⟨.range, []⟩)) ∧
      (∀ pend : Option (Fin 8),
        ((field p 2 1).testBit 0 = false ∧ pend = none ∨
          (field p 2 1).testBit 0 = true ∧ ∃ b, pend = some b ∧ field p 3 1 = b.val) →
        let refused := a.state = .closed ∨
          (pend ≠ a.pending ∧ ∃ b, pend = some b ∧ (s.tck.tariffs.get b).bands = [])
        (refused → exec .amendAccount s = .next (s.answer ⟨.state, []⟩)) ∧
        (¬ refused → ∃ t b, exec .amendAccount s = .next t ∧ (t.act.slots.get i).acct = some b ∧
          b = { a with
            pending := pend,
            energyCap := if (field p 2 1).testBit 1 then some (min 99999999 (field p 4 4)) else none,
            costCap := if (field p 2 1).testBit 2 then some (min 999999999999 (field p 8 6)) else none,
            capReached := b.capReached, sticky := b.sticky } ∧
          (b.capReached = true ↔ (∃ c, b.energyCap = some c ∧ c ≤ a.totalWh) ∨
            ∃ c, b.costCap = some c ∧ c ≤ a.costEnergy + a.costIdle) ∧
          (∀ j, (t.tck.tariffs.get j).refs = (s.tck.tariffs.get j).refs +
              (if pend = some j ∧ a.pending ≠ some j then 1 else 0) -
              (if a.pending = some j ∧ pend ≠ some j then 1 else 0) ∧
            (t.tck.tariffs.get j).bands = (s.tck.tariffs.get j).bands) ∧
          (∀ j, j ≠ i → s.act.activeSlot ≠ some j → t.act.slots.get j = s.act.slots.get j) ∧
          (a.state ≠ .active → b.sticky = a.sticky) ∧
          (s.act.activeSlot = some i → b.capReached ≠ a.capReached → s.blocksRun = true →
            t.alc.inputs.capReached = b.capReached ∧ t.alc.inputs.acctExists = true ∧
            t.alc.causes = t.alc.inputs.causes s.rqp.config.wired s.alc.curve ∧
            t.alc.causes &&& b.sticky = t.alc.causes ∧
            (b.capReached = true → t.alc.held = false ∧
              t.alc.force =
                t.alc.inputs.figures s.rqp.config.wired s.alc.curve (s.hzc.zones.map Zone.priority) ∧
              t.alc.chargerCmd = t.alc.force.iChg ∧
              (s.sampleOpen = true → t.alc.force ≠ s.alc.force → t.imon = { s.imon with
                cycle := if s.imon.cycle = .baseSample then .baseSettle else .shiftSettle, phaseMs := 0,
                discards := min 255 (s.imon.discards + 1), sumP := 0, sumN := 0, samples := 0 }))) ∧
          ((a.state ≠ .active ∨ b.capReached = a.capReached) → s.work = Work.clear →
            b.sticky = a.sticky ∧ (∀ j, j ≠ i → t.act.slots.get j = s.act.slots.get j) ∧
            t.inl = s.inl ∧ t.alc = s.alc ∧ t.hzc = s.hzc ∧ t.imon = s.imon ∧ t.atn = s.atn) ∧
          t.rqp = { s.rqp with queue := answerOldest ⟨.ok, amendImage b⟩ s.rqp.queue } ∧
          t.tck.wall = s.tck.wall ∧ t.mtr = s.mtr ∧ t.stu = s.stu ∧ t.pwc = s.pwc))) ∧
    (s.serves 0x4D p → p.length = 2 →
      let failure := if a.state ≠ .opened ∧ a.state ≠ .suspended then 1
        else if s.inl.state = .unplugged then 2
        else if s.act.activeSlot ≠ none then 3
        else if s.tck.isSet = false then 4
        else if s.rqp.configured = false then 5
        else if (s.tck.tariffs.get a.tariff).bands = [] then 6 else 0
      (failure ≠ 0 → exec .activateAccount s = .next (s.answer ⟨.state, be 1 failure⟩)) ∧
      (failure = 0 → ∃ t b, exec .activateAccount s = .next t ∧ (t.act.slots.get i).acct = some b ∧
        b = { a with state := .active, reason := none,
                     firstActive := some (a.firstActive.getD s.tck.wall), sticky := b.sticky } ∧
        t.act.activeSlot = some i ∧ (∀ j, j ≠ i → t.act.slots.get j = s.act.slots.get j) ∧
        t.rqp = { s.rqp with
          sup := if s.rqp.sup = .expired then .expired else .armed s.rqp.config.window,
          queue := answerOldest ⟨.ok, be 1 i.val ++ be 1 (s.act.slots.get i).gen ++
            be 1 (if a.capReached = true then 1 else 0) ++
            be 1 (if a.satTotal = true ∨ a.satEnergy = true ∨ a.satIdle = true then 1 else 0)⟩
            s.rqp.queue } ∧
        t.tck = s.tck ∧ t.mtr = s.mtr ∧ t.stu = s.stu ∧ t.pwc = s.pwc)) ∧
    (s.serves 0x4E p → p.length = 2 →
      (a.state ≠ .active → exec .suspendAccount s = .next (s.answer ⟨.state, []⟩)) ∧
      (a.state = .active → ∃ t, exec .suspendAccount s = .next t ∧
        (t.act.slots.get i).acct = some { a with state := .suspended, reason := some .request } ∧
        (s.act.oneActive = true → ∀ j, j ≠ i → t.act.slots.get j = s.act.slots.get j) ∧
        t.rqp = { s.rqp with
          sup := match s.rqp.sup with
            | .armed _ => .disarmed
            | .disarmed => .disarmed
            | .expired => .expired,
          queue := answerOldest ⟨.ok, be 1 i.val ++ be 1 (s.act.slots.get i).gen ++ be 1 1⟩
            s.rqp.queue } ∧
        t.tck = s.tck ∧ t.mtr = s.mtr ∧ t.stu = s.stu ∧ t.pwc = s.pwc))

/-- R156, R157, R158: Close freezes an account that is not Closed with its statement, releases its pending
reference and, from Active, disarms supervision (the idle seconds become 0: the model's choice, assumption
38). Retire frees the slot of a Closed account, advances its generation and releases its reference, and
nothing else. Either refuses an account in any other state with STATE. -/
def Obligations.CloseFormsTheStatementAndRetireFrees : Prop :=
  ∀ (s : State) (p : List Byte) (i : Fin 16) (a : Account), (s.act.slots.get i).acct = some a →
    p.length = 2 → field p 0 1 = i.val → field p 1 1 = (s.act.slots.get i).gen →
    (s.serves 0x4F p →
      (a.state = .closed → exec .closeAccount s = .next (s.answer ⟨.state, []⟩)) ∧
      (a.state ≠ .closed →
        let cost := (a.costEnergy + a.costIdle + 5000) / 10000
        ∃ t, exec .closeAccount s = .next t ∧
          (t.act.slots.get i).acct = some { a with
            state := .closed, reason := none, closed := some s.tck.wall, pending := none, idleSec := 0,
            statement := some ⟨cost, a.totalWh, a.totalJ, a.heatWh, a.heatJ, a.idleMin, a.sticky,
              s.tck.wall⟩ } ∧
          (s.act.oneActive = true → s.work = Work.clear →
            ∀ j, j ≠ i → t.act.slots.get j = s.act.slots.get j) ∧
          (∀ j, (t.tck.tariffs.get j).refs =
            (s.tck.tariffs.get j).refs - if a.pending = some j then 1 else 0) ∧
          t.rqp = { s.rqp with
            sup := match s.rqp.sup with
              | .armed ms => if a.state = .active then .disarmed else .armed ms
              | .disarmed => .disarmed
              | .expired => .expired,
            queue := answerOldest ⟨.ok, be 1 i.val ++ be 1 (s.act.slots.get i).gen ++ be 4 cost ++
              be 4 a.totalWh ++ be 2 a.totalJ ++ be 4 a.heatWh ++ be 2 a.heatJ ++ be 2 a.idleMin ++
              be 3 a.sticky.toNat ++ be 4 s.tck.wall⟩ s.rqp.queue } ∧
          t.tck.wall = s.tck.wall ∧ t.mtr = s.mtr ∧ t.stu = s.stu ∧ t.pwc = s.pwc)) ∧
    (s.serves 0x50 p →
      (a.state ≠ .closed → exec .retireAccount s = .next (s.answer ⟨.state, []⟩)) ∧
      (a.state = .closed →
        let gen := ((s.act.slots.get i).gen + 1) % 256
        let old := s.tck.tariffs.get a.tariff
        let named := s.tck.tariffs.set a.tariff { old with refs := old.refs - 1 }
        exec .retireAccount s = .next (({ s with
          act := ⟨s.act.slots.set i ⟨gen, none⟩⟩,
          tck := { s.tck with tariffs := named } } : State).answer ⟨.ok, be 1 i.val ++ be 1 gen⟩)))

/-- R144, R145, R159, R160, R164: after every step each account's registers, grace used and caps are within
their ranges, its heat within its total, no two accounts carry one token, and every generation is below 256. The
invariant adds that every tariff's grace is at most 240 (R136), which bounds the grace used (R162). -/
def Obligations.AccountsStayBounded : Prop :=
  ∀ s t : State,
    (s.act.bounded = true ∧ s.act.tokensDiffer = true ∧ (∀ i, (s.act.slots.get i).gen < 256) ∧
      ∀ i, (s.tck.tariffs.get i).grace ≤ 240) →
    step s = .next t →
    (t.act.bounded = true ∧ t.act.tokensDiffer = true ∧ (∀ i, (t.act.slots.get i).gen < 256) ∧
      ∀ i, (t.tck.tariffs.get i).grace ≤ 240)

/-- Section 9.2, R188, R155, R197: at most one account is Active and none while the inlet is Unplugged;
supervision is armed only with an account Active and disarmed only without; in Starting and while parked the
inlet stands Unplugged and no resumption is in progress. -/
def Obligations.SessionsStayConsistent : Prop :=
  ∀ s t : State, s.sessionOk = true → step s = .next t → t.sessionOk = true

/-- R136, R138: every tariff's reference count is the number of times the accounts name it, and a tariff that
is named is defined. The invariant adds that a Closed account has no pending tariff (R156). -/
def Obligations.ReferencesAreCounted : Prop :=
  ∀ s t : State,
    (s.refsCount = true ∧ ∀ a ∈ s.act.standing, a.state = .closed → a.pending = none) →
    step s = .next t →
    (t.refsCount = true ∧ ∀ a ∈ t.act.standing, a.state = .closed → a.pending = none)

/-- R156, R145, R164, R165: from Open to Retire an account keeps its slot, generation and token, its registers
and counts never fall, its sticky flags and saturations stay, and once Closed it does not change at all,
whatever the command. -/
def Obligations.AccountRegistersOnlyRise : Prop :=
  ∀ (c : Instr) (s t : State) (i : Fin 16) (a : Account), c ≠ .supplyReset → c ≠ .retireAccount →
    (s.act.slots.get i).acct = some a → a.registersBounded = true → exec c s = .next t →
    (t.act.slots.get i).gen = (s.act.slots.get i).gen ∧
    ∃ b, (t.act.slots.get i).acct = some b ∧ b.token = a.token ∧
      a.totalWh * 3600 + a.totalJ ≤ b.totalWh * 3600 + b.totalJ ∧
      a.heatWh * 3600 + a.heatJ ≤ b.heatWh * 3600 + b.heatJ ∧
      a.costEnergy ≤ b.costEnergy ∧ a.costIdle ≤ b.costIdle ∧ a.idleMin ≤ b.idleMin ∧
      a.graceUsed ≤ b.graceUsed ∧ a.sticky &&& b.sticky = a.sticky ∧
      (a.hasDrawn = true → b.hasDrawn = true) ∧ (a.satTotal = true → b.satTotal = true) ∧
      (a.satEnergy = true → b.satEnergy = true) ∧ (a.satIdle = true → b.satIdle = true) ∧
      (a.state = .closed → b = a)

/-! ### Attention (chapter 10) -/

/-- R172, R173: the attention line is asserted exactly when some flagged source stands above the floor, the
top of the stack or 0; the winner is the flagged source above the floor that comes first by higher level,
then higher arbitration ID, then lower index, and there is one exactly while the line is asserted. -/
def Obligations.AttentionLineAndWinner : Prop :=
  ∀ a : Attention,
    let floor := match a.stack with
      | [] => 0
      | top :: _ => top
    let contends (i : Fin 11) : Prop := (a.sources.get i).flag = true ∧ floor < (a.sources.get i).level
    let first (i j : Fin 11) : Prop :=
      (a.sources.get j).level < (a.sources.get i).level ∨
      ((a.sources.get j).level = (a.sources.get i).level ∧
        ((a.sources.get j).id < (a.sources.get i).id ∨
        ((a.sources.get j).id = (a.sources.get i).id ∧ i < j)))
    (a.line = true ↔ ∃ i, contends i) ∧
    (∀ i, a.winner = some i ↔ contends i ∧ ∀ j, contends j → j ≠ i → first i j) ∧
    (a.winner = none ↔ a.line = false)

/-- R174, R175, R177: Take clears the winner's flag and pushes its level; with four entries it is refused, and
without a winner answered NONE. Release pops the top, refused on an empty stack. Set Attention Source writes a
source's level and ID, within 7 and 15; a payload of another length is refused with LENGTH before its index is
read (the model's choice, assumption 9). The details are given field by field as 13.6 lays them out, with the
codes of 13.3, and the set of flagged sources bit by bit (R203). Nothing else changes. -/
def Obligations.AttentionRequestsAreExact : Prop :=
  ∀ s : State,
    let a := s.atn
    let yes (b : Bool) : Nat := if b then 1 else 0
    let handle (h : Handle) : List Byte := be 1 h.slot.val ++ be 1 h.gen
    let fields (d : Detail) : List Byte := match d with
      | .faultSlot slot => be 1 slot
      | .stop epoch cause banked => be 2 epoch ++
        be 1 (match cause with | .insulationFault => 1 | .request => 2) ++ be 1 (yes banked)
      | .expired none => be 1 1 ++ be 1 0 ++ be 2 0
      | .expired (some h) => be 1 1 ++ be 1 1 ++ handle h
      | .inlet state cls => be 1 (match state with
          | .unplugged => 0 | .plugged => 1 | .offered => 2 | .ready => 3 | .drawing => 4 | .pausing => 5
          | .faulted => 6) ++ be 1 (match cls with
          | none => 0 | some .a => 1 | some .b => 2 | some .c => 3 | some .d => 4 | some .invalid => 5)
      | .account h event => handle h ++ be 1 (match event with
          | .capReached => 1 | .totalSaturated => 2 | .costEnergySaturated => 3 | .costIdleSaturated => 4
          | .suspendedUnplug => 5 | .suspendedStop => 6 | .suspendedPortReset => 7)
      | .causes new => be 3 new.toNat
      | .zone z event => be 1 (match z with | none => 0 | some i => i.val + 1) ++ be 1 (match event with
          | .targetReached => 1 | .overTemperature => 2 | .sensor => 3 | .insulation => 4
          | .allowanceExhausted => 5)
      | .tariff h new => handle h ++ be 1 new.val
      | .wake cause woken => be 1 (match cause with | .plug => 1 | .wakeLine => 2 | .wakeTimer => 3) ++
        be 1 (match woken with | .starting => 0 | .active => 1 | .keepWarm => 2 | .dormant => 3)
    let detail (d : Option Detail) : List Byte := match d with
      | none => List.replicate 8 0#8
      | some d => fields d ++ List.replicate (8 - (fields d).length) 0#8
    let floorBytes (b : Attention) : List Byte := be 1 (b.stack.headD 0) ++ be 1 b.stack.length
    let flagged (b : Attention) : Nat :=
      let on (i : Fin 11) : Nat := yes (b.sources.get i).flag
      on 0 + 2 * on 1 + 4 * on 2 + 8 * on 3 + 16 * on 4 + 32 * on 5 + 64 * on 6 + 128 * on 7 +
        256 * on 8 + 512 * on 9 + 1024 * on 10
    (∀ p : List Byte, p ≠ [] →
      (s.serves 0x58 p → exec .takeAttention s = .next (s.answer ⟨.length, []⟩)) ∧
      (s.serves 0x59 p → exec .releaseAttention s = .next (s.answer ⟨.length, []⟩))) ∧
    (∀ p : List Byte, p.length ≠ 3 → s.serves 0x5A p →
      exec .setAttentionSource s = .next (s.answer ⟨.length, []⟩)) ∧
    (s.serves 0x58 [] →
      (4 ≤ a.stack.length → exec .takeAttention s = .next (s.answer
        ⟨.state, floorBytes a ++ be 2 (flagged a)⟩)) ∧
      (a.stack.length < 4 → a.winner = none → exec .takeAttention s = .next (s.answer
        ⟨.none, floorBytes a ++ be 2 (flagged a)⟩)) ∧
      (∀ i, a.stack.length < 4 → a.winner = some i →
        let r := a.sources.get i
        let b : Attention :=
          { a with sources := a.sources.set i { r with flag := false }, stack := r.level :: a.stack }
        exec .takeAttention s = .next (({ s with atn := b } : State).answer
          ⟨.ok, be 1 i.val ++ be 1 r.level ++ be 1 r.id ++ detail r.detail ++ floorBytes b ++
            be 2 (flagged b)⟩))) ∧
    (s.serves 0x59 [] →
      (a.stack = [] → exec .releaseAttention s = .next (s.answer ⟨.state, []⟩)) ∧
      (∀ top rest, a.stack = top :: rest →
        let b : Attention := { a with stack := rest }
        exec .releaseAttention s = .next (({ s with atn := b } : State).answer
          ⟨.ok, floorBytes b ++ be 1 (if b.line = true then 1 else 0) ++ be 2 (flagged b)⟩))) ∧
    (∀ p : List Byte, s.serves 0x5A p → p.length = 3 →
      (10 < field p 0 1 → exec .setAttentionSource s = .next (s.answer ⟨.range, []⟩)) ∧
      (∀ i : Fin 11, field p 0 1 = i.val →
        let r := { a.sources.get i with level := min 7 (field p 1 1), id := min 15 (field p 2 1) }
        exec .setAttentionSource s = .next (
          ({ s with atn := { a with sources := a.sources.set i r } } : State).answer
            ⟨.ok, be 1 i.val ++ be 1 r.level ++ be 1 r.id ++ be 1 (if r.flag = true then 1 else 0) ++
              be 1 (if r.detail = none then 0 else 1) ++ detail r.detail⟩)))

/-- R170, R171: the floor stack holds at most four levels of 1 to 7, ascending from bottom to top, and every
source's level and arbitration ID stay in their ranges. -/
def Obligations.AttentionStaysOrdered : Prop :=
  ∀ s t : State, s.atn.ordered = true → step s = .next t → t.atn.ordered = true

/-! ### The whole part -/

/-- R18, R44, R60, R81, R103, R126, R131, R136, R141, R170, R171, R191: what only certain commands change.
Every command but those named leaves the item as it was; a request flag is cleared by a Take and the resets
alone. -/
def Obligations.SettingsChangeOnlyByTheirCommands : Prop :=
  ∀ (c : Instr) (s t : State), exec c s = .next t → c ≠ .supplyReset →
    (c ≠ .setThresholds → t.imon.warnTh = s.imon.warnTh ∧ t.imon.faultTh = s.imon.faultTh) ∧
    (c ≠ .configure → t.rqp.config = s.rqp.config ∧ t.rqp.configured = s.rqp.configured) ∧
    (c ≠ .setClock → t.tck.offset = s.tck.offset ∧ t.tck.isSet = s.tck.isSet ∧
      ((∀ e, c ≠ .clockAdvance e) → t.tck.wall = s.tck.wall ∧ t.tck.secondMs = s.tck.secondMs)) ∧
    (c ≠ .writeTariff → ∀ i, (t.tck.tariffs.get i).bands = (s.tck.tariffs.get i).bands ∧
      (t.tck.tariffs.get i).idleFee = (s.tck.tariffs.get i).idleFee ∧
      (t.tck.tariffs.get i).grace = (s.tck.tariffs.get i).grace) ∧
    (c ≠ .writeCurve → t.alc.curve = s.alc.curve) ∧
    (c ≠ .setChargeLimits → t.alc.heatLimit = s.alc.heatLimit ∧ t.alc.mask = s.alc.mask ∧
      (c ≠ .resume → t.alc.ceiling = s.alc.ceiling ∧ t.alc.share = s.alc.share)) ∧
    (c ≠ .writeZone → ∀ i, (t.zone i).gain = (s.zone i).gain ∧ (t.zone i).pMax = (s.zone i).pMax ∧
      (t.zone i).priority = (s.zone i).priority ∧
      (c ≠ .resume → (t.zone i).target = (s.zone i).target)) ∧
    (c ≠ .setAllowance → (∀ e, c ≠ .clockAdvance e) →
      t.hzc.allowWh = s.hzc.allowWh ∧ t.hzc.allowJ = s.hzc.allowJ) ∧
    (c ≠ .clearUnbilled → (∀ e, c ≠ .clockAdvance e) →
      t.mtr.unbilledWh = s.mtr.unbilledWh ∧ t.mtr.unbilledJ = s.mtr.unbilledJ ∧
      t.mtr.last = s.mtr.last) ∧
    (c ≠ .stop → c ≠ .shiftSampleEnd → t.stu.epoch = s.stu.epoch) ∧
    (c ≠ .setAttentionSource → ∀ i, (t.atn.sources.get i).level = (s.atn.sources.get i).level ∧
      (t.atn.sources.get i).id = (s.atn.sources.get i).id) ∧
    (c ≠ .restart → c ≠ .resetPin →
      (c ≠ .takeAttention → c ≠ .releaseAttention → t.atn.stack = s.atn.stack) ∧
      (c ≠ .takeAttention → ∀ i, (s.atn.sources.get i).flag = true → (t.atn.sources.get i).flag = true))

/-- R200 and the supply-reset columns: the reset state meets every invariant stated above. -/
def Obligations.ResetMeetsTheInvariants : Prop :=
  let s := State.reset
  (s.rqp.bounded = true ∧ s.alc.curve.length ≤ 12 ∧ s.rqp.txn = none) ∧
  (s.inl.enableFollows = true ∧ s.inl.inRange = true) ∧
  (s.chargerSafe = true ∧ s.act.oneActive = true ∧ s.pwc.resuming = false ∧ s.alc.chargerCmd = 0) ∧
  (s.hzc.restful = true ∧ s.hzc.oneIsolated = true) ∧ s.imon.oneRecordEach = true ∧
  (s.act.bounded = true ∧ s.act.tokensDiffer = true ∧ (∀ i, (s.act.slots.get i).gen < 256) ∧
    ∀ i, (s.tck.tariffs.get i).grace ≤ 240) ∧
  s.sessionOk = true ∧
  (s.refsCount = true ∧ ∀ a ∈ s.act.standing, a.state = .closed → a.pending = none) ∧
  s.atn.ordered = true ∧ s.quiet = true ∧ s.pending = []
end

