-- ==== Sys2Proof/Laws/State.lean ====
section
/-! SUPPORT. One lemma for each field of State under each of its updates. -/

namespace Sys2Proof.Machine

variable (s : State)

/-! `modInl` -/

section

variable (f : Inlet → Inlet)

@[simp] theorem modInl_inl : (s.modInl f).inl = f s.inl := rfl
@[simp] theorem modInl_alc : (s.modInl f).alc = s.alc := rfl
@[simp] theorem modInl_hzc : (s.modInl f).hzc = s.hzc := rfl
@[simp] theorem modInl_imon : (s.modInl f).imon = s.imon := rfl
@[simp] theorem modInl_stu : (s.modInl f).stu = s.stu := rfl
@[simp] theorem modInl_mtr : (s.modInl f).mtr = s.mtr := rfl
@[simp] theorem modInl_tck : (s.modInl f).tck = s.tck := rfl
@[simp] theorem modInl_act : (s.modInl f).act = s.act := rfl
@[simp] theorem modInl_atn : (s.modInl f).atn = s.atn := rfl
@[simp] theorem modInl_rqp : (s.modInl f).rqp = s.rqp := rfl
@[simp] theorem modInl_pwc : (s.modInl f).pwc = s.pwc := rfl
@[simp] theorem modInl_work : (s.modInl f).work = s.work := rfl
@[simp] theorem modInl_choices : (s.modInl f).choices = s.choices := rfl
@[simp] theorem modInl_pending : (s.modInl f).pending = s.pending := rfl

end

/-! `modAlc` -/

section

variable (f : Alloc → Alloc)

@[simp] theorem modAlc_inl : (s.modAlc f).inl = s.inl := rfl
@[simp] theorem modAlc_alc : (s.modAlc f).alc = f s.alc := rfl
@[simp] theorem modAlc_hzc : (s.modAlc f).hzc = s.hzc := rfl
@[simp] theorem modAlc_imon : (s.modAlc f).imon = s.imon := rfl
@[simp] theorem modAlc_stu : (s.modAlc f).stu = s.stu := rfl
@[simp] theorem modAlc_mtr : (s.modAlc f).mtr = s.mtr := rfl
@[simp] theorem modAlc_tck : (s.modAlc f).tck = s.tck := rfl
@[simp] theorem modAlc_act : (s.modAlc f).act = s.act := rfl
@[simp] theorem modAlc_atn : (s.modAlc f).atn = s.atn := rfl
@[simp] theorem modAlc_rqp : (s.modAlc f).rqp = s.rqp := rfl
@[simp] theorem modAlc_pwc : (s.modAlc f).pwc = s.pwc := rfl
@[simp] theorem modAlc_work : (s.modAlc f).work = s.work := rfl
@[simp] theorem modAlc_choices : (s.modAlc f).choices = s.choices := rfl
@[simp] theorem modAlc_pending : (s.modAlc f).pending = s.pending := rfl

end

/-! `modHzc` -/

section

variable (f : Heater → Heater)

@[simp] theorem modHzc_inl : (s.modHzc f).inl = s.inl := rfl
@[simp] theorem modHzc_alc : (s.modHzc f).alc = s.alc := rfl
@[simp] theorem modHzc_hzc : (s.modHzc f).hzc = f s.hzc := rfl
@[simp] theorem modHzc_imon : (s.modHzc f).imon = s.imon := rfl
@[simp] theorem modHzc_stu : (s.modHzc f).stu = s.stu := rfl
@[simp] theorem modHzc_mtr : (s.modHzc f).mtr = s.mtr := rfl
@[simp] theorem modHzc_tck : (s.modHzc f).tck = s.tck := rfl
@[simp] theorem modHzc_act : (s.modHzc f).act = s.act := rfl
@[simp] theorem modHzc_atn : (s.modHzc f).atn = s.atn := rfl
@[simp] theorem modHzc_rqp : (s.modHzc f).rqp = s.rqp := rfl
@[simp] theorem modHzc_pwc : (s.modHzc f).pwc = s.pwc := rfl
@[simp] theorem modHzc_work : (s.modHzc f).work = s.work := rfl
@[simp] theorem modHzc_choices : (s.modHzc f).choices = s.choices := rfl
@[simp] theorem modHzc_pending : (s.modHzc f).pending = s.pending := rfl

end

/-! `modImon` -/

section

variable (f : Insulation → Insulation)

@[simp] theorem modImon_inl : (s.modImon f).inl = s.inl := rfl
@[simp] theorem modImon_alc : (s.modImon f).alc = s.alc := rfl
@[simp] theorem modImon_hzc : (s.modImon f).hzc = s.hzc := rfl
@[simp] theorem modImon_imon : (s.modImon f).imon = f s.imon := rfl
@[simp] theorem modImon_stu : (s.modImon f).stu = s.stu := rfl
@[simp] theorem modImon_mtr : (s.modImon f).mtr = s.mtr := rfl
@[simp] theorem modImon_tck : (s.modImon f).tck = s.tck := rfl
@[simp] theorem modImon_act : (s.modImon f).act = s.act := rfl
@[simp] theorem modImon_atn : (s.modImon f).atn = s.atn := rfl
@[simp] theorem modImon_rqp : (s.modImon f).rqp = s.rqp := rfl
@[simp] theorem modImon_pwc : (s.modImon f).pwc = s.pwc := rfl
@[simp] theorem modImon_work : (s.modImon f).work = s.work := rfl
@[simp] theorem modImon_choices : (s.modImon f).choices = s.choices := rfl
@[simp] theorem modImon_pending : (s.modImon f).pending = s.pending := rfl

end

/-! `modStu` -/

section

variable (f : Stops → Stops)

@[simp] theorem modStu_inl : (s.modStu f).inl = s.inl := rfl
@[simp] theorem modStu_alc : (s.modStu f).alc = s.alc := rfl
@[simp] theorem modStu_hzc : (s.modStu f).hzc = s.hzc := rfl
@[simp] theorem modStu_imon : (s.modStu f).imon = s.imon := rfl
@[simp] theorem modStu_stu : (s.modStu f).stu = f s.stu := rfl
@[simp] theorem modStu_mtr : (s.modStu f).mtr = s.mtr := rfl
@[simp] theorem modStu_tck : (s.modStu f).tck = s.tck := rfl
@[simp] theorem modStu_act : (s.modStu f).act = s.act := rfl
@[simp] theorem modStu_atn : (s.modStu f).atn = s.atn := rfl
@[simp] theorem modStu_rqp : (s.modStu f).rqp = s.rqp := rfl
@[simp] theorem modStu_pwc : (s.modStu f).pwc = s.pwc := rfl
@[simp] theorem modStu_work : (s.modStu f).work = s.work := rfl
@[simp] theorem modStu_choices : (s.modStu f).choices = s.choices := rfl
@[simp] theorem modStu_pending : (s.modStu f).pending = s.pending := rfl

end

/-! `modMtr` -/

section

variable (f : Meter → Meter)

@[simp] theorem modMtr_inl : (s.modMtr f).inl = s.inl := rfl
@[simp] theorem modMtr_alc : (s.modMtr f).alc = s.alc := rfl
@[simp] theorem modMtr_hzc : (s.modMtr f).hzc = s.hzc := rfl
@[simp] theorem modMtr_imon : (s.modMtr f).imon = s.imon := rfl
@[simp] theorem modMtr_stu : (s.modMtr f).stu = s.stu := rfl
@[simp] theorem modMtr_mtr : (s.modMtr f).mtr = f s.mtr := rfl
@[simp] theorem modMtr_tck : (s.modMtr f).tck = s.tck := rfl
@[simp] theorem modMtr_act : (s.modMtr f).act = s.act := rfl
@[simp] theorem modMtr_atn : (s.modMtr f).atn = s.atn := rfl
@[simp] theorem modMtr_rqp : (s.modMtr f).rqp = s.rqp := rfl
@[simp] theorem modMtr_pwc : (s.modMtr f).pwc = s.pwc := rfl
@[simp] theorem modMtr_work : (s.modMtr f).work = s.work := rfl
@[simp] theorem modMtr_choices : (s.modMtr f).choices = s.choices := rfl
@[simp] theorem modMtr_pending : (s.modMtr f).pending = s.pending := rfl

end

/-! `modTck` -/

section

variable (f : Clock → Clock)

@[simp] theorem modTck_inl : (s.modTck f).inl = s.inl := rfl
@[simp] theorem modTck_alc : (s.modTck f).alc = s.alc := rfl
@[simp] theorem modTck_hzc : (s.modTck f).hzc = s.hzc := rfl
@[simp] theorem modTck_imon : (s.modTck f).imon = s.imon := rfl
@[simp] theorem modTck_stu : (s.modTck f).stu = s.stu := rfl
@[simp] theorem modTck_mtr : (s.modTck f).mtr = s.mtr := rfl
@[simp] theorem modTck_tck : (s.modTck f).tck = f s.tck := rfl
@[simp] theorem modTck_act : (s.modTck f).act = s.act := rfl
@[simp] theorem modTck_atn : (s.modTck f).atn = s.atn := rfl
@[simp] theorem modTck_rqp : (s.modTck f).rqp = s.rqp := rfl
@[simp] theorem modTck_pwc : (s.modTck f).pwc = s.pwc := rfl
@[simp] theorem modTck_work : (s.modTck f).work = s.work := rfl
@[simp] theorem modTck_choices : (s.modTck f).choices = s.choices := rfl
@[simp] theorem modTck_pending : (s.modTck f).pending = s.pending := rfl

end

/-! `modAct` -/

section

variable (f : Accounts → Accounts)

@[simp] theorem modAct_inl : (s.modAct f).inl = s.inl := rfl
@[simp] theorem modAct_alc : (s.modAct f).alc = s.alc := rfl
@[simp] theorem modAct_hzc : (s.modAct f).hzc = s.hzc := rfl
@[simp] theorem modAct_imon : (s.modAct f).imon = s.imon := rfl
@[simp] theorem modAct_stu : (s.modAct f).stu = s.stu := rfl
@[simp] theorem modAct_mtr : (s.modAct f).mtr = s.mtr := rfl
@[simp] theorem modAct_tck : (s.modAct f).tck = s.tck := rfl
@[simp] theorem modAct_act : (s.modAct f).act = f s.act := rfl
@[simp] theorem modAct_atn : (s.modAct f).atn = s.atn := rfl
@[simp] theorem modAct_rqp : (s.modAct f).rqp = s.rqp := rfl
@[simp] theorem modAct_pwc : (s.modAct f).pwc = s.pwc := rfl
@[simp] theorem modAct_work : (s.modAct f).work = s.work := rfl
@[simp] theorem modAct_choices : (s.modAct f).choices = s.choices := rfl
@[simp] theorem modAct_pending : (s.modAct f).pending = s.pending := rfl

end

/-! `modAtn` -/

section

variable (f : Attention → Attention)

@[simp] theorem modAtn_inl : (s.modAtn f).inl = s.inl := rfl
@[simp] theorem modAtn_alc : (s.modAtn f).alc = s.alc := rfl
@[simp] theorem modAtn_hzc : (s.modAtn f).hzc = s.hzc := rfl
@[simp] theorem modAtn_imon : (s.modAtn f).imon = s.imon := rfl
@[simp] theorem modAtn_stu : (s.modAtn f).stu = s.stu := rfl
@[simp] theorem modAtn_mtr : (s.modAtn f).mtr = s.mtr := rfl
@[simp] theorem modAtn_tck : (s.modAtn f).tck = s.tck := rfl
@[simp] theorem modAtn_act : (s.modAtn f).act = s.act := rfl
@[simp] theorem modAtn_atn : (s.modAtn f).atn = f s.atn := rfl
@[simp] theorem modAtn_rqp : (s.modAtn f).rqp = s.rqp := rfl
@[simp] theorem modAtn_pwc : (s.modAtn f).pwc = s.pwc := rfl
@[simp] theorem modAtn_work : (s.modAtn f).work = s.work := rfl
@[simp] theorem modAtn_choices : (s.modAtn f).choices = s.choices := rfl
@[simp] theorem modAtn_pending : (s.modAtn f).pending = s.pending := rfl

end

/-! `modRqp` -/

section

variable (f : Port → Port)

@[simp] theorem modRqp_inl : (s.modRqp f).inl = s.inl := rfl
@[simp] theorem modRqp_alc : (s.modRqp f).alc = s.alc := rfl
@[simp] theorem modRqp_hzc : (s.modRqp f).hzc = s.hzc := rfl
@[simp] theorem modRqp_imon : (s.modRqp f).imon = s.imon := rfl
@[simp] theorem modRqp_stu : (s.modRqp f).stu = s.stu := rfl
@[simp] theorem modRqp_mtr : (s.modRqp f).mtr = s.mtr := rfl
@[simp] theorem modRqp_tck : (s.modRqp f).tck = s.tck := rfl
@[simp] theorem modRqp_act : (s.modRqp f).act = s.act := rfl
@[simp] theorem modRqp_atn : (s.modRqp f).atn = s.atn := rfl
@[simp] theorem modRqp_rqp : (s.modRqp f).rqp = f s.rqp := rfl
@[simp] theorem modRqp_pwc : (s.modRqp f).pwc = s.pwc := rfl
@[simp] theorem modRqp_work : (s.modRqp f).work = s.work := rfl
@[simp] theorem modRqp_choices : (s.modRqp f).choices = s.choices := rfl
@[simp] theorem modRqp_pending : (s.modRqp f).pending = s.pending := rfl

end

/-! `modPwc` -/

section

variable (f : Power → Power)

@[simp] theorem modPwc_inl : (s.modPwc f).inl = s.inl := rfl
@[simp] theorem modPwc_alc : (s.modPwc f).alc = s.alc := rfl
@[simp] theorem modPwc_hzc : (s.modPwc f).hzc = s.hzc := rfl
@[simp] theorem modPwc_imon : (s.modPwc f).imon = s.imon := rfl
@[simp] theorem modPwc_stu : (s.modPwc f).stu = s.stu := rfl
@[simp] theorem modPwc_mtr : (s.modPwc f).mtr = s.mtr := rfl
@[simp] theorem modPwc_tck : (s.modPwc f).tck = s.tck := rfl
@[simp] theorem modPwc_act : (s.modPwc f).act = s.act := rfl
@[simp] theorem modPwc_atn : (s.modPwc f).atn = s.atn := rfl
@[simp] theorem modPwc_rqp : (s.modPwc f).rqp = s.rqp := rfl
@[simp] theorem modPwc_pwc : (s.modPwc f).pwc = f s.pwc := rfl
@[simp] theorem modPwc_work : (s.modPwc f).work = s.work := rfl
@[simp] theorem modPwc_choices : (s.modPwc f).choices = s.choices := rfl
@[simp] theorem modPwc_pending : (s.modPwc f).pending = s.pending := rfl

end

/-! `modWork` -/

section

variable (f : Work → Work)

@[simp] theorem modWork_inl : (s.modWork f).inl = s.inl := rfl
@[simp] theorem modWork_alc : (s.modWork f).alc = s.alc := rfl
@[simp] theorem modWork_hzc : (s.modWork f).hzc = s.hzc := rfl
@[simp] theorem modWork_imon : (s.modWork f).imon = s.imon := rfl
@[simp] theorem modWork_stu : (s.modWork f).stu = s.stu := rfl
@[simp] theorem modWork_mtr : (s.modWork f).mtr = s.mtr := rfl
@[simp] theorem modWork_tck : (s.modWork f).tck = s.tck := rfl
@[simp] theorem modWork_act : (s.modWork f).act = s.act := rfl
@[simp] theorem modWork_atn : (s.modWork f).atn = s.atn := rfl
@[simp] theorem modWork_rqp : (s.modWork f).rqp = s.rqp := rfl
@[simp] theorem modWork_pwc : (s.modWork f).pwc = s.pwc := rfl
@[simp] theorem modWork_work : (s.modWork f).work = f s.work := rfl
@[simp] theorem modWork_choices : (s.modWork f).choices = s.choices := rfl
@[simp] theorem modWork_pending : (s.modWork f).pending = s.pending := rfl

end

/-! `nextChoice`, `withPending`, `clearWork` -/

@[simp] theorem nextChoice_inl : s.nextChoice.inl = s.inl := rfl
@[simp] theorem nextChoice_alc : s.nextChoice.alc = s.alc := rfl
@[simp] theorem nextChoice_hzc : s.nextChoice.hzc = s.hzc := rfl
@[simp] theorem nextChoice_imon : s.nextChoice.imon = s.imon := rfl
@[simp] theorem nextChoice_stu : s.nextChoice.stu = s.stu := rfl
@[simp] theorem nextChoice_mtr : s.nextChoice.mtr = s.mtr := rfl
@[simp] theorem nextChoice_tck : s.nextChoice.tck = s.tck := rfl
@[simp] theorem nextChoice_act : s.nextChoice.act = s.act := rfl
@[simp] theorem nextChoice_atn : s.nextChoice.atn = s.atn := rfl
@[simp] theorem nextChoice_rqp : s.nextChoice.rqp = s.rqp := rfl
@[simp] theorem nextChoice_pwc : s.nextChoice.pwc = s.pwc := rfl
@[simp] theorem nextChoice_work : s.nextChoice.work = s.work := rfl
@[simp] theorem nextChoice_choices : s.nextChoice.choices = s.choices + 1 := rfl
@[simp] theorem nextChoice_pending : s.nextChoice.pending = s.pending := rfl
@[simp] theorem withPending_inl (q : List Instr) : (s.withPending q).inl = s.inl := rfl
@[simp] theorem withPending_alc (q : List Instr) : (s.withPending q).alc = s.alc := rfl
@[simp] theorem withPending_hzc (q : List Instr) : (s.withPending q).hzc = s.hzc := rfl
@[simp] theorem withPending_imon (q : List Instr) : (s.withPending q).imon = s.imon := rfl
@[simp] theorem withPending_stu (q : List Instr) : (s.withPending q).stu = s.stu := rfl
@[simp] theorem withPending_mtr (q : List Instr) : (s.withPending q).mtr = s.mtr := rfl
@[simp] theorem withPending_tck (q : List Instr) : (s.withPending q).tck = s.tck := rfl
@[simp] theorem withPending_act (q : List Instr) : (s.withPending q).act = s.act := rfl
@[simp] theorem withPending_atn (q : List Instr) : (s.withPending q).atn = s.atn := rfl
@[simp] theorem withPending_rqp (q : List Instr) : (s.withPending q).rqp = s.rqp := rfl
@[simp] theorem withPending_pwc (q : List Instr) : (s.withPending q).pwc = s.pwc := rfl
@[simp] theorem withPending_work (q : List Instr) : (s.withPending q).work = s.work := rfl
@[simp] theorem withPending_choices (q : List Instr) : (s.withPending q).choices = s.choices := rfl
@[simp] theorem withPending_pending (q : List Instr) : (s.withPending q).pending = q := rfl
@[simp] theorem clearWork_inl : s.clearWork.inl = s.inl := rfl
@[simp] theorem clearWork_alc : s.clearWork.alc = s.alc := rfl
@[simp] theorem clearWork_hzc : s.clearWork.hzc = s.hzc := rfl
@[simp] theorem clearWork_imon : s.clearWork.imon = s.imon := rfl
@[simp] theorem clearWork_stu : s.clearWork.stu = s.stu := rfl
@[simp] theorem clearWork_mtr : s.clearWork.mtr = s.mtr := rfl
@[simp] theorem clearWork_tck : s.clearWork.tck = s.tck := rfl
@[simp] theorem clearWork_act : s.clearWork.act = s.act := rfl
@[simp] theorem clearWork_atn : s.clearWork.atn = s.atn := rfl
@[simp] theorem clearWork_rqp : s.clearWork.rqp = s.rqp := rfl
@[simp] theorem clearWork_pwc : s.clearWork.pwc = s.pwc := rfl
@[simp] theorem clearWork_work : s.clearWork.work = Work.clear := rfl
@[simp] theorem clearWork_choices : s.clearWork.choices = s.choices := rfl
@[simp] theorem clearWork_pending : s.clearWork.pending = s.pending := rfl

/-! Two updates of one block are one. -/

@[simp] theorem modInl_modInl (f g : Inlet → Inlet) : (s.modInl f).modInl g = s.modInl fun x => g (f x) := rfl
@[simp] theorem modAlc_modAlc (f g : Alloc → Alloc) : (s.modAlc f).modAlc g = s.modAlc fun x => g (f x) := rfl
@[simp] theorem modHzc_modHzc (f g : Heater → Heater) : (s.modHzc f).modHzc g = s.modHzc fun x => g (f x) := rfl
@[simp] theorem modImon_modImon (f g : Insulation → Insulation) : (s.modImon f).modImon g = s.modImon fun x => g (f x) := rfl
@[simp] theorem modStu_modStu (f g : Stops → Stops) : (s.modStu f).modStu g = s.modStu fun x => g (f x) := rfl
@[simp] theorem modMtr_modMtr (f g : Meter → Meter) : (s.modMtr f).modMtr g = s.modMtr fun x => g (f x) := rfl
@[simp] theorem modTck_modTck (f g : Clock → Clock) : (s.modTck f).modTck g = s.modTck fun x => g (f x) := rfl
@[simp] theorem modAct_modAct (f g : Accounts → Accounts) : (s.modAct f).modAct g = s.modAct fun x => g (f x) := rfl
@[simp] theorem modAtn_modAtn (f g : Attention → Attention) : (s.modAtn f).modAtn g = s.modAtn fun x => g (f x) := rfl
@[simp] theorem modRqp_modRqp (f g : Port → Port) : (s.modRqp f).modRqp g = s.modRqp fun x => g (f x) := rfl
@[simp] theorem modPwc_modPwc (f g : Power → Power) : (s.modPwc f).modPwc g = s.modPwc fun x => g (f x) := rfl
@[simp] theorem modWork_modWork (f g : Work → Work) : (s.modWork f).modWork g = s.modWork fun x => g (f x) := rfl

end Sys2Proof.Machine
end

