-- ==== Sys2Proof/Laws/Table.lean ====
section
/-! SUPPORT. The laws of tables: reading after writing, and the search for the lowest slot. -/

namespace Sys2Proof.Machine

variable {n : Nat} {α β : Type}

theorem mem_fins : {n : Nat} → (i : Fin n) → i ∈ fins n
  | n + 1, ⟨0, _⟩ => by simp [fins]
  | n + 1, ⟨k + 1, h⟩ => by
    simp only [fins, List.mem_cons, List.mem_map]
    exact .inr ⟨⟨k, by omega⟩, mem_fins _, rfl⟩

theorem fins_getElem : (n i : Nat) → (h : i < (fins n).length) → (fins n)[i].val = i
  | n + 1, 0, _ => rfl
  | n + 1, i + 1, h => by
    simp only [fins, List.getElem_cons_succ, List.getElem_map, Fin.val_succ]
    rw [fins_getElem n i]

/-- The fins stand in ascending order. -/
theorem fins_pairwise : (n : Nat) → (fins n).Pairwise (· < ·)
  | 0 => .nil
  | n + 1 => by
    refine .cons ?_ ?_
    · intro a ha
      obtain ⟨b, -, rfl⟩ := List.mem_map.1 ha
      exact Fin.succ_pos b
    · exact List.pairwise_map.2 ((fins_pairwise n).imp (by simp))

namespace Table

@[simp] theorem get_set_self (t : Table n α) (i : Fin n) (v : α) : (t.set i v).get i = v := by
  simp [get, set]

theorem get_set_ne (t : Table n α) {i j : Fin n} (v : α) (h : j ≠ i) : (t.set i v).get j = t.get j := by
  have : i.val ≠ j.val := fun e => h (Fin.ext e.symm)
  simp [get, set, this]

theorem get_set (t : Table n α) (i j : Fin n) (v : α) :
    (t.set i v).get j = if j = i then v else t.get j := by
  by_cases h : j = i
  · subst h; simp
  · simp [h, get_set_ne]

@[simp] theorem get_modify_self (t : Table n α) (i : Fin n) (f : α → α) :
    (t.modify i f).get i = f (t.get i) := by simp [modify]

theorem get_modify_ne (t : Table n α) {i j : Fin n} (f : α → α) (h : j ≠ i) :
    (t.modify i f).get j = t.get j := get_set_ne t _ h

theorem get_modify (t : Table n α) (i j : Fin n) (f : α → α) :
    (t.modify i f).get j = if j = i then f (t.get j) else t.get j := by
  by_cases h : j = i
  · subst h; simp
  · simp [h, get_modify_ne]

@[simp] theorem get_map (t : Table n α) (f : α → β) (i : Fin n) : (t.map f).get i = f (t.get i) := by
  simp [get, map]

@[simp] theorem get_ofFn (f : Fin n → α) (i : Fin n) : (ofFn f).get i = f i := by
  have h : (fins n)[i.val]'(by rw [fins_length]; exact i.isLt) = i :=
    Fin.ext (fins_getElem n i.val _)
  simp [get, ofFn, h]

@[simp] theorem get_replicate (v : α) (i : Fin n) : (replicate n v).get i = v := by
  simp [get, replicate]

/-- Two tables that agree in every slot are one. -/
theorem ext_get {t u : Table n α} (h : ∀ i, t.get i = u.get i) : t = u := by
  have : t.items = u.items := by
    refine List.ext_getElem (by rw [t.size, u.size]) fun i h1 h2 => ?_
    have := h ⟨i, by rw [← t.size]; exact h1⟩
    simpa [get] using this
  cases t; cases u; congr

/-- A record of the table is the record in some slot. -/
theorem mem_items {t : Table n α} {v : α} : v ∈ t.items ↔ ∃ i, t.get i = v := by
  constructor
  · intro h
    obtain ⟨i, hi, rfl⟩ := List.mem_iff_getElem.1 h
    exact ⟨⟨i, by rw [← t.size]; exact hi⟩, rfl⟩
  · rintro ⟨i, rfl⟩
    exact List.getElem_mem _

/-- The items are the records in slot order. -/
theorem items_eq (t : Table n α) : t.items = (fins n).map t.get := by
  refine List.ext_getElem (by rw [t.size, List.length_map, fins_length]) fun i h1 h2 => ?_
  rw [List.getElem_map]
  have h : (fins n)[i]'(by simpa using h2) = ⟨i, by rw [← t.size]; exact h1⟩ :=
    Fin.ext (fins_getElem n i _)
  rw [h]; rfl

/-- The search finds nothing exactly when no record satisfies the test. -/
theorem find_eq_none {t : Table n α} {p : α → Bool} : t.find p = none ↔ ∀ i, p (t.get i) = false := by
  simp [find, List.find?_eq_none, mem_fins]

/-- What the search finds satisfies the test. -/
theorem find_some {t : Table n α} {p : α → Bool} {i : Fin n} (h : t.find p = some i) :
    p (t.get i) = true := by
  have := List.find?_some (p := fun i => p (t.get i)) h
  simpa using this

/-- The slot found is the lowest that satisfies the test. -/
theorem find_lowest {t : Table n α} {p : α → Bool} {i : Fin n} (h : t.find p = some i) (j : Fin n)
    (hj : j < i) : p (t.get j) = false := by
  obtain ⟨-, pre, post, e, hpre⟩ := List.find?_eq_some_iff_append.1 h
  have ho := fins_pairwise n
  rw [e] at ho
  have hm := mem_fins j
  rw [e] at hm
  rcases List.mem_append.1 hm with hm | hm
  · simpa using hpre j hm
  · rcases List.mem_cons.1 hm with rfl | hm
    · exact absurd hj (lt_irrefl _)
    · have := (List.pairwise_append.1 ho).2.1
      exact absurd hj (not_lt.2 (le_of_lt ((List.pairwise_cons.1 this).1 j hm)))

end Table

end Sys2Proof.Machine
end

