-- ==== Sys2Proof/Laws/Frames.lean ====
section
/-! SUPPORT. The frame of every shared operation: one lemma each, which names the blocks it leaves alone. -/

namespace Sys2Proof.Machine

/-! ### Ops -/

@[simp] theorem raise_frame (src : Source) (d : Detail) (s : State) :
    (s.raise src d).inl = s.inl ∧
    (s.raise src d).alc = s.alc ∧
    (s.raise src d).hzc = s.hzc ∧
    (s.raise src d).imon = s.imon ∧
    (s.raise src d).stu = s.stu ∧
    (s.raise src d).mtr = s.mtr ∧
    (s.raise src d).tck = s.tck ∧
    (s.raise src d).act = s.act ∧
    (s.raise src d).rqp = s.rqp ∧
    (s.raise src d).pwc = s.pwc ∧
    (s.raise src d).work = s.work ∧
    (s.raise src d).choices = s.choices ∧
    (s.raise src d).pending = s.pending := by
  exact ⟨rfl, rfl, rfl, rfl, rfl, rfl, rfl, rfl, rfl, rfl, rfl, rfl, rfl⟩

@[simp] theorem trigger_frame (s : State) :
    s.trigger.inl = s.inl ∧
    s.trigger.alc = s.alc ∧
    s.trigger.hzc = s.hzc ∧
    s.trigger.imon = s.imon ∧
    s.trigger.stu = s.stu ∧
    s.trigger.mtr = s.mtr ∧
    s.trigger.tck = s.tck ∧
    s.trigger.act = s.act ∧
    s.trigger.atn = s.atn ∧
    s.trigger.rqp = s.rqp ∧
    s.trigger.pwc = s.pwc ∧
    s.trigger.choices = s.choices ∧
    s.trigger.pending = s.pending := by
  exact ⟨rfl, rfl, rfl, rfl, rfl, rfl, rfl, rfl, rfl, rfl, rfl, rfl, rfl⟩

@[simp] theorem triggerSafety_frame (s : State) :
    s.triggerSafety.inl = s.inl ∧
    s.triggerSafety.alc = s.alc ∧
    s.triggerSafety.hzc = s.hzc ∧
    s.triggerSafety.imon = s.imon ∧
    s.triggerSafety.stu = s.stu ∧
    s.triggerSafety.mtr = s.mtr ∧
    s.triggerSafety.tck = s.tck ∧
    s.triggerSafety.act = s.act ∧
    s.triggerSafety.atn = s.atn ∧
    s.triggerSafety.rqp = s.rqp ∧
    s.triggerSafety.pwc = s.pwc ∧
    s.triggerSafety.choices = s.choices ∧
    s.triggerSafety.pending = s.pending := by
  exact ⟨rfl, rfl, rfl, rfl, rfl, rfl, rfl, rfl, rfl, rfl, rfl, rfl, rfl⟩

@[simp] theorem armSupervision_frame (s : State) :
    s.armSupervision.inl = s.inl ∧
    s.armSupervision.alc = s.alc ∧
    s.armSupervision.hzc = s.hzc ∧
    s.armSupervision.imon = s.imon ∧
    s.armSupervision.stu = s.stu ∧
    s.armSupervision.mtr = s.mtr ∧
    s.armSupervision.tck = s.tck ∧
    s.armSupervision.act = s.act ∧
    s.armSupervision.atn = s.atn ∧
    s.armSupervision.pwc = s.pwc ∧
    s.armSupervision.choices = s.choices ∧
    s.armSupervision.pending = s.pending := by
  unfold State.armSupervision
  (repeat' split) <;> simp

@[simp] theorem disarmSupervision_frame (s : State) :
    s.disarmSupervision.inl = s.inl ∧
    s.disarmSupervision.alc = s.alc ∧
    s.disarmSupervision.hzc = s.hzc ∧
    s.disarmSupervision.imon = s.imon ∧
    s.disarmSupervision.stu = s.stu ∧
    s.disarmSupervision.mtr = s.mtr ∧
    s.disarmSupervision.tck = s.tck ∧
    s.disarmSupervision.act = s.act ∧
    s.disarmSupervision.atn = s.atn ∧
    s.disarmSupervision.pwc = s.pwc ∧
    s.disarmSupervision.choices = s.choices ∧
    s.disarmSupervision.pending = s.pending := by
  unfold State.disarmSupervision
  (repeat' split) <;> simp

@[simp] theorem modAccount_frame (i : Fin 16) (f : Account → Account) (s : State) :
    (s.modAccount i f).inl = s.inl ∧
    (s.modAccount i f).alc = s.alc ∧
    (s.modAccount i f).hzc = s.hzc ∧
    (s.modAccount i f).imon = s.imon ∧
    (s.modAccount i f).stu = s.stu ∧
    (s.modAccount i f).mtr = s.mtr ∧
    (s.modAccount i f).tck = s.tck ∧
    (s.modAccount i f).atn = s.atn ∧
    (s.modAccount i f).rqp = s.rqp ∧
    (s.modAccount i f).pwc = s.pwc ∧
    (s.modAccount i f).work = s.work ∧
    (s.modAccount i f).choices = s.choices ∧
    (s.modAccount i f).pending = s.pending := by
  exact ⟨rfl, rfl, rfl, rfl, rfl, rfl, rfl, rfl, rfl, rfl, rfl, rfl, rfl⟩

@[simp] theorem activateSlot_frame (i : Fin 16) (s : State) :
    (s.activateSlot i).inl = s.inl ∧
    (s.activateSlot i).alc = s.alc ∧
    (s.activateSlot i).hzc = s.hzc ∧
    (s.activateSlot i).imon = s.imon ∧
    (s.activateSlot i).stu = s.stu ∧
    (s.activateSlot i).mtr = s.mtr ∧
    (s.activateSlot i).tck = s.tck ∧
    (s.activateSlot i).atn = s.atn ∧
    (s.activateSlot i).pwc = s.pwc ∧
    (s.activateSlot i).choices = s.choices ∧
    (s.activateSlot i).pending = s.pending := by
  simp [State.activateSlot]

@[simp] theorem leaveActive_frame (s : State) :
    s.leaveActive.inl = s.inl ∧
    s.leaveActive.alc = s.alc ∧
    s.leaveActive.hzc = s.hzc ∧
    s.leaveActive.imon = s.imon ∧
    s.leaveActive.stu = s.stu ∧
    s.leaveActive.mtr = s.mtr ∧
    s.leaveActive.tck = s.tck ∧
    s.leaveActive.act = s.act ∧
    s.leaveActive.atn = s.atn ∧
    s.leaveActive.pwc = s.pwc ∧
    s.leaveActive.choices = s.choices ∧
    s.leaveActive.pending = s.pending := by
  simp [State.leaveActive]

@[simp] theorem suspendSlot_frame (i : Fin 16) (r : SuspendReason) (s : State) :
    (s.suspendSlot i r).inl = s.inl ∧
    (s.suspendSlot i r).alc = s.alc ∧
    (s.suspendSlot i r).hzc = s.hzc ∧
    (s.suspendSlot i r).imon = s.imon ∧
    (s.suspendSlot i r).stu = s.stu ∧
    (s.suspendSlot i r).mtr = s.mtr ∧
    (s.suspendSlot i r).tck = s.tck ∧
    (s.suspendSlot i r).atn = s.atn ∧
    (s.suspendSlot i r).pwc = s.pwc ∧
    (s.suspendSlot i r).choices = s.choices ∧
    (s.suspendSlot i r).pending = s.pending := by
  simp [State.suspendSlot]

@[simp] theorem autoSuspend_frame (r : SuspendReason) (e : AcctEvent) (s : State) :
    (s.autoSuspend r e).inl = s.inl ∧
    (s.autoSuspend r e).alc = s.alc ∧
    (s.autoSuspend r e).hzc = s.hzc ∧
    (s.autoSuspend r e).imon = s.imon ∧
    (s.autoSuspend r e).stu = s.stu ∧
    (s.autoSuspend r e).mtr = s.mtr ∧
    (s.autoSuspend r e).tck = s.tck ∧
    (s.autoSuspend r e).pwc = s.pwc ∧
    (s.autoSuspend r e).choices = s.choices ∧
    (s.autoSuspend r e).pending = s.pending := by
  unfold State.autoSuspend
  (repeat' split) <;> simp

@[simp] theorem inletChanged_frame (s : State) :
    s.inletChanged.inl = s.inl ∧
    s.inletChanged.alc = s.alc ∧
    s.inletChanged.hzc = s.hzc ∧
    s.inletChanged.imon = s.imon ∧
    s.inletChanged.stu = s.stu ∧
    s.inletChanged.mtr = s.mtr ∧
    s.inletChanged.tck = s.tck ∧
    s.inletChanged.act = s.act ∧
    s.inletChanged.rqp = s.rqp ∧
    s.inletChanged.pwc = s.pwc ∧
    s.inletChanged.choices = s.choices ∧
    s.inletChanged.pending = s.pending := by
  exact ⟨rfl, rfl, rfl, rfl, rfl, rfl, rfl, rfl, rfl, rfl, rfl, rfl⟩

@[simp] theorem setInlet_frame (st : InletState) (s : State) :
    (s.setInlet st).alc = s.alc ∧
    (s.setInlet st).hzc = s.hzc ∧
    (s.setInlet st).imon = s.imon ∧
    (s.setInlet st).stu = s.stu ∧
    (s.setInlet st).mtr = s.mtr ∧
    (s.setInlet st).tck = s.tck ∧
    (s.setInlet st).act = s.act ∧
    (s.setInlet st).atn = s.atn ∧
    (s.setInlet st).rqp = s.rqp ∧
    (s.setInlet st).pwc = s.pwc ∧
    (s.setInlet st).work = s.work ∧
    (s.setInlet st).choices = s.choices ∧
    (s.setInlet st).pending = s.pending := by
  exact ⟨rfl, rfl, rfl, rfl, rfl, rfl, rfl, rfl, rfl, rfl, rfl, rfl, rfl⟩

@[simp] theorem enterInlet_frame (st : InletState) (s : State) :
    (s.enterInlet st).alc = s.alc ∧
    (s.enterInlet st).hzc = s.hzc ∧
    (s.enterInlet st).imon = s.imon ∧
    (s.enterInlet st).stu = s.stu ∧
    (s.enterInlet st).mtr = s.mtr ∧
    (s.enterInlet st).tck = s.tck ∧
    (s.enterInlet st).act = s.act ∧
    (s.enterInlet st).rqp = s.rqp ∧
    (s.enterInlet st).pwc = s.pwc ∧
    (s.enterInlet st).choices = s.choices ∧
    (s.enterInlet st).pending = s.pending := by
  exact ⟨rfl, rfl, rfl, rfl, rfl, rfl, rfl, rfl, rfl, rfl, rfl⟩

@[simp] theorem acAppears_frame (s : State) :
    s.acAppears.alc = s.alc ∧
    s.acAppears.hzc = s.hzc ∧
    s.acAppears.imon = s.imon ∧
    s.acAppears.stu = s.stu ∧
    s.acAppears.mtr = s.mtr ∧
    s.acAppears.tck = s.tck ∧
    s.acAppears.act = s.act ∧
    s.acAppears.rqp = s.rqp ∧
    s.acAppears.pwc = s.pwc ∧
    s.acAppears.choices = s.choices ∧
    s.acAppears.pending = s.pending := by
  unfold State.acAppears
  (repeat' split) <;> simp

@[simp] theorem acGone_frame (s : State) :
    s.acGone.alc = s.alc ∧
    s.acGone.hzc = s.hzc ∧
    s.acGone.imon = s.imon ∧
    s.acGone.stu = s.stu ∧
    s.acGone.mtr = s.mtr ∧
    s.acGone.tck = s.tck ∧
    s.acGone.act = s.act ∧
    s.acGone.rqp = s.rqp ∧
    s.acGone.pwc = s.pwc ∧
    s.acGone.choices = s.choices ∧
    s.acGone.pending = s.pending := by
  unfold State.acGone
  (repeat' split) <;> simp

@[simp] theorem enableDecision_frame (g : Nat) (s : State) :
    (s.enableDecision g).alc = s.alc ∧
    (s.enableDecision g).hzc = s.hzc ∧
    (s.enableDecision g).imon = s.imon ∧
    (s.enableDecision g).stu = s.stu ∧
    (s.enableDecision g).mtr = s.mtr ∧
    (s.enableDecision g).tck = s.tck ∧
    (s.enableDecision g).act = s.act ∧
    (s.enableDecision g).rqp = s.rqp ∧
    (s.enableDecision g).pwc = s.pwc ∧
    (s.enableDecision g).choices = s.choices ∧
    (s.enableDecision g).pending = s.pending := by
  unfold State.enableDecision
  (repeat' split) <;> simp

@[simp] theorem withdrawEnable_frame (s : State) :
    s.withdrawEnable.alc = s.alc ∧
    s.withdrawEnable.hzc = s.hzc ∧
    s.withdrawEnable.imon = s.imon ∧
    s.withdrawEnable.stu = s.stu ∧
    s.withdrawEnable.mtr = s.mtr ∧
    s.withdrawEnable.tck = s.tck ∧
    s.withdrawEnable.act = s.act ∧
    s.withdrawEnable.rqp = s.rqp ∧
    s.withdrawEnable.pwc = s.pwc ∧
    s.withdrawEnable.choices = s.choices ∧
    s.withdrawEnable.pending = s.pending := by
  unfold State.withdrawEnable
  (repeat' split) <;> simp

@[simp] theorem modZone_frame (i : Fin 6) (f : Zone → Zone) (s : State) :
    (s.modZone i f).inl = s.inl ∧
    (s.modZone i f).alc = s.alc ∧
    (s.modZone i f).imon = s.imon ∧
    (s.modZone i f).stu = s.stu ∧
    (s.modZone i f).mtr = s.mtr ∧
    (s.modZone i f).tck = s.tck ∧
    (s.modZone i f).act = s.act ∧
    (s.modZone i f).atn = s.atn ∧
    (s.modZone i f).rqp = s.rqp ∧
    (s.modZone i f).pwc = s.pwc ∧
    (s.modZone i f).work = s.work ∧
    (s.modZone i f).choices = s.choices ∧
    (s.modZone i f).pending = s.pending := by
  exact ⟨rfl, rfl, rfl, rfl, rfl, rfl, rfl, rfl, rfl, rfl, rfl, rfl, rfl⟩

@[simp] theorem tellImon_frame (s : State) :
    s.tellImon.inl = s.inl ∧
    s.tellImon.alc = s.alc ∧
    s.tellImon.hzc = s.hzc ∧
    s.tellImon.imon = s.imon ∧
    s.tellImon.stu = s.stu ∧
    s.tellImon.mtr = s.mtr ∧
    s.tellImon.tck = s.tck ∧
    s.tellImon.act = s.act ∧
    s.tellImon.atn = s.atn ∧
    s.tellImon.rqp = s.rqp ∧
    s.tellImon.pwc = s.pwc ∧
    s.tellImon.choices = s.choices ∧
    s.tellImon.pending = s.pending := by
  exact ⟨rfl, rfl, rfl, rfl, rfl, rfl, rfl, rfl, rfl, rfl, rfl, rfl, rfl⟩

@[simp] theorem noteOpening_frame (z : Zone) (s : State) :
    (s.noteOpening z).inl = s.inl ∧
    (s.noteOpening z).alc = s.alc ∧
    (s.noteOpening z).hzc = s.hzc ∧
    (s.noteOpening z).imon = s.imon ∧
    (s.noteOpening z).stu = s.stu ∧
    (s.noteOpening z).mtr = s.mtr ∧
    (s.noteOpening z).tck = s.tck ∧
    (s.noteOpening z).act = s.act ∧
    (s.noteOpening z).atn = s.atn ∧
    (s.noteOpening z).rqp = s.rqp ∧
    (s.noteOpening z).pwc = s.pwc ∧
    (s.noteOpening z).choices = s.choices ∧
    (s.noteOpening z).pending = s.pending := by
  unfold State.noteOpening
  (repeat' split) <;> simp

@[simp] theorem abandonRecord_frame (s : State) :
    s.abandonRecord.inl = s.inl ∧
    s.abandonRecord.alc = s.alc ∧
    s.abandonRecord.hzc = s.hzc ∧
    s.abandonRecord.stu = s.stu ∧
    s.abandonRecord.mtr = s.mtr ∧
    s.abandonRecord.tck = s.tck ∧
    s.abandonRecord.act = s.act ∧
    s.abandonRecord.atn = s.atn ∧
    s.abandonRecord.rqp = s.rqp ∧
    s.abandonRecord.pwc = s.pwc ∧
    s.abandonRecord.work = s.work ∧
    s.abandonRecord.choices = s.choices ∧
    s.abandonRecord.pending = s.pending := by
  unfold State.abandonRecord
  (repeat' split) <;> simp

@[simp] theorem zoneFault_frame (i : Fin 6) (r : ZoneFault) (e : ZoneEvent) (s : State) :
    (s.zoneFault i r e).inl = s.inl ∧
    (s.zoneFault i r e).alc = s.alc ∧
    (s.zoneFault i r e).stu = s.stu ∧
    (s.zoneFault i r e).mtr = s.mtr ∧
    (s.zoneFault i r e).tck = s.tck ∧
    (s.zoneFault i r e).act = s.act ∧
    (s.zoneFault i r e).rqp = s.rqp ∧
    (s.zoneFault i r e).pwc = s.pwc ∧
    (s.zoneFault i r e).choices = s.choices ∧
    (s.zoneFault i r e).pending = s.pending := by
  unfold State.zoneFault; dsimp only
  (repeat' split) <;> simp

@[simp] theorem zoneTransition_frame (i : Fin 6) (s : State) :
    (s.zoneTransition i).inl = s.inl ∧
    (s.zoneTransition i).alc = s.alc ∧
    (s.zoneTransition i).imon = s.imon ∧
    (s.zoneTransition i).stu = s.stu ∧
    (s.zoneTransition i).mtr = s.mtr ∧
    (s.zoneTransition i).tck = s.tck ∧
    (s.zoneTransition i).act = s.act ∧
    (s.zoneTransition i).rqp = s.rqp ∧
    (s.zoneTransition i).pwc = s.pwc ∧
    (s.zoneTransition i).choices = s.choices ∧
    (s.zoneTransition i).pending = s.pending := by
  unfold State.zoneTransition; dsimp only
  (repeat' split) <;> simp

@[simp] theorem zoneReading_frame (i : Fin 6) (t : Int) (s : State) :
    (s.zoneReading i t).inl = s.inl ∧
    (s.zoneReading i t).alc = s.alc ∧
    (s.zoneReading i t).stu = s.stu ∧
    (s.zoneReading i t).mtr = s.mtr ∧
    (s.zoneReading i t).tck = s.tck ∧
    (s.zoneReading i t).act = s.act ∧
    (s.zoneReading i t).rqp = s.rqp ∧
    (s.zoneReading i t).pwc = s.pwc ∧
    (s.zoneReading i t).choices = s.choices ∧
    (s.zoneReading i t).pending = s.pending := by
  unfold State.zoneReading; dsimp only
  (repeat' split) <;> simp

@[simp] theorem readZones_frame (t : ZoneTemps) (s : State) :
    (s.readZones t).inl = s.inl ∧
    (s.readZones t).alc = s.alc ∧
    (s.readZones t).stu = s.stu ∧
    (s.readZones t).mtr = s.mtr ∧
    (s.readZones t).tck = s.tck ∧
    (s.readZones t).act = s.act ∧
    (s.readZones t).rqp = s.rqp ∧
    (s.readZones t).pwc = s.pwc ∧
    (s.readZones t).choices = s.choices ∧
    (s.readZones t).pending = s.pending := by
  simp [State.readZones]

@[simp] theorem zonesInLine_frame (s : State) :
    s.zonesInLine.inl = s.inl ∧
    s.zonesInLine.alc = s.alc ∧
    s.zonesInLine.imon = s.imon ∧
    s.zonesInLine.stu = s.stu ∧
    s.zonesInLine.mtr = s.mtr ∧
    s.zonesInLine.tck = s.tck ∧
    s.zonesInLine.act = s.act ∧
    s.zonesInLine.atn = s.atn ∧
    s.zonesInLine.rqp = s.rqp ∧
    s.zonesInLine.pwc = s.pwc ∧
    s.zonesInLine.choices = s.choices ∧
    s.zonesInLine.pending = s.pending := by
  unfold State.zonesInLine
  (repeat' split) <;> simp

@[simp] theorem writeZone_frame (i : Fin 6) (en : Bool) (tg : Int) (k pm pr : Nat) (s : State) :
    (s.writeZone i en tg k pm pr).inl = s.inl ∧
    (s.writeZone i en tg k pm pr).alc = s.alc ∧
    (s.writeZone i en tg k pm pr).imon = s.imon ∧
    (s.writeZone i en tg k pm pr).stu = s.stu ∧
    (s.writeZone i en tg k pm pr).mtr = s.mtr ∧
    (s.writeZone i en tg k pm pr).tck = s.tck ∧
    (s.writeZone i en tg k pm pr).act = s.act ∧
    (s.writeZone i en tg k pm pr).atn = s.atn ∧
    (s.writeZone i en tg k pm pr).rqp = s.rqp ∧
    (s.writeZone i en tg k pm pr).pwc = s.pwc ∧
    (s.writeZone i en tg k pm pr).choices = s.choices ∧
    (s.writeZone i en tg k pm pr).pending = s.pending := by
  simp [State.writeZone]

@[simp] theorem applyGrants_frame (g : Table 6 Nat) (s : State) :
    (s.applyGrants g).inl = s.inl ∧
    (s.applyGrants g).alc = s.alc ∧
    (s.applyGrants g).imon = s.imon ∧
    (s.applyGrants g).stu = s.stu ∧
    (s.applyGrants g).mtr = s.mtr ∧
    (s.applyGrants g).tck = s.tck ∧
    (s.applyGrants g).act = s.act ∧
    (s.applyGrants g).atn = s.atn ∧
    (s.applyGrants g).rqp = s.rqp ∧
    (s.applyGrants g).pwc = s.pwc ∧
    (s.applyGrants g).choices = s.choices ∧
    (s.applyGrants g).pending = s.pending := by
  unfold State.applyGrants
  (repeat' split) <;> simp

@[simp] theorem releaseZone_frame (i : Fin 6) (s : State) :
    (s.releaseZone i).inl = s.inl ∧
    (s.releaseZone i).alc = s.alc ∧
    (s.releaseZone i).imon = s.imon ∧
    (s.releaseZone i).stu = s.stu ∧
    (s.releaseZone i).mtr = s.mtr ∧
    (s.releaseZone i).tck = s.tck ∧
    (s.releaseZone i).act = s.act ∧
    (s.releaseZone i).atn = s.atn ∧
    (s.releaseZone i).rqp = s.rqp ∧
    (s.releaseZone i).pwc = s.pwc ∧
    (s.releaseZone i).choices = s.choices ∧
    (s.releaseZone i).pending = s.pending := by
  unfold State.releaseZone
  (repeat' split) <;> simp

@[simp] theorem isolateZone_frame (i : Fin 6) (s : State) :
    (s.isolateZone i).inl = s.inl ∧
    (s.isolateZone i).alc = s.alc ∧
    (s.isolateZone i).imon = s.imon ∧
    (s.isolateZone i).stu = s.stu ∧
    (s.isolateZone i).mtr = s.mtr ∧
    (s.isolateZone i).tck = s.tck ∧
    (s.isolateZone i).act = s.act ∧
    (s.isolateZone i).atn = s.atn ∧
    (s.isolateZone i).rqp = s.rqp ∧
    (s.isolateZone i).pwc = s.pwc ∧
    (s.isolateZone i).choices = s.choices ∧
    (s.isolateZone i).pending = s.pending := by
  unfold State.isolateZone; dsimp only
  (repeat' split) <;> simp

@[simp] theorem insulationFault_frame (i : Fin 6) (s : State) :
    (s.insulationFault i).inl = s.inl ∧
    (s.insulationFault i).alc = s.alc ∧
    (s.insulationFault i).imon = s.imon ∧
    (s.insulationFault i).stu = s.stu ∧
    (s.insulationFault i).mtr = s.mtr ∧
    (s.insulationFault i).tck = s.tck ∧
    (s.insulationFault i).act = s.act ∧
    (s.insulationFault i).rqp = s.rqp ∧
    (s.insulationFault i).pwc = s.pwc ∧
    (s.insulationFault i).choices = s.choices ∧
    (s.insulationFault i).pending = s.pending := by
  simp [State.insulationFault]

@[simp] theorem zonesStop_frame (s : State) :
    s.zonesStop.inl = s.inl ∧
    s.zonesStop.alc = s.alc ∧
    s.zonesStop.stu = s.stu ∧
    s.zonesStop.mtr = s.mtr ∧
    s.zonesStop.tck = s.tck ∧
    s.zonesStop.act = s.act ∧
    s.zonesStop.atn = s.atn ∧
    s.zonesStop.rqp = s.rqp ∧
    s.zonesStop.pwc = s.pwc ∧
    s.zonesStop.choices = s.choices ∧
    s.zonesStop.pending = s.pending := by
  unfold State.zonesStop; dsimp only
  (repeat' split) <;> simp

@[simp] theorem allowanceExhausted_frame (s : State) :
    s.allowanceExhausted.inl = s.inl ∧
    s.allowanceExhausted.alc = s.alc ∧
    s.allowanceExhausted.hzc = s.hzc ∧
    s.allowanceExhausted.imon = s.imon ∧
    s.allowanceExhausted.stu = s.stu ∧
    s.allowanceExhausted.mtr = s.mtr ∧
    s.allowanceExhausted.tck = s.tck ∧
    s.allowanceExhausted.act = s.act ∧
    s.allowanceExhausted.rqp = s.rqp ∧
    s.allowanceExhausted.pwc = s.pwc ∧
    s.allowanceExhausted.choices = s.choices ∧
    s.allowanceExhausted.pending = s.pending := by
  simp [State.allowanceExhausted]

@[simp] theorem debitAllowance_frame (s : State) :
    s.debitAllowance.inl = s.inl ∧
    s.debitAllowance.alc = s.alc ∧
    s.debitAllowance.imon = s.imon ∧
    s.debitAllowance.stu = s.stu ∧
    s.debitAllowance.mtr = s.mtr ∧
    s.debitAllowance.tck = s.tck ∧
    s.debitAllowance.act = s.act ∧
    s.debitAllowance.rqp = s.rqp ∧
    s.debitAllowance.pwc = s.pwc ∧
    s.debitAllowance.choices = s.choices ∧
    s.debitAllowance.pending = s.pending := by
  unfold State.debitAllowance; dsimp only
  (repeat' split) <;> simp

/-! ### Passes -/

@[simp] theorem recordPass_frame (s : State) :
    s.recordPass.inl = s.inl ∧
    s.recordPass.hzc = s.hzc ∧
    s.recordPass.imon = s.imon ∧
    s.recordPass.stu = s.stu ∧
    s.recordPass.mtr = s.mtr ∧
    s.recordPass.tck = s.tck ∧
    s.recordPass.act = s.act ∧
    s.recordPass.atn = s.atn ∧
    s.recordPass.rqp = s.rqp ∧
    s.recordPass.pwc = s.pwc ∧
    s.recordPass.work = s.work ∧
    s.recordPass.choices = s.choices ∧
    s.recordPass.pending = s.pending := by
  exact ⟨rfl, rfl, rfl, rfl, rfl, rfl, rfl, rfl, rfl, rfl, rfl, rfl, rfl⟩

@[simp] theorem applyFigures_frame (f : Figures) (s : State) :
    (s.applyFigures f).imon = s.imon ∧
    (s.applyFigures f).stu = s.stu ∧
    (s.applyFigures f).mtr = s.mtr ∧
    (s.applyFigures f).tck = s.tck ∧
    (s.applyFigures f).act = s.act ∧
    (s.applyFigures f).atn = s.atn ∧
    (s.applyFigures f).rqp = s.rqp ∧
    (s.applyFigures f).pwc = s.pwc ∧
    (s.applyFigures f).choices = s.choices ∧
    (s.applyFigures f).pending = s.pending := by
  simp [State.applyFigures]

@[simp] theorem takeFigures_frame (f : Figures) (held safety : Bool) (s : State) :
    (s.takeFigures f held safety).imon = s.imon ∧
    (s.takeFigures f held safety).stu = s.stu ∧
    (s.takeFigures f held safety).mtr = s.mtr ∧
    (s.takeFigures f held safety).tck = s.tck ∧
    (s.takeFigures f held safety).act = s.act ∧
    (s.takeFigures f held safety).atn = s.atn ∧
    (s.takeFigures f held safety).rqp = s.rqp ∧
    (s.takeFigures f held safety).pwc = s.pwc ∧
    (s.takeFigures f held safety).choices = s.choices ∧
    (s.takeFigures f held safety).pending = s.pending := by
  unfold State.takeFigures
  (repeat' split) <;> simp

@[simp] theorem stickCauses_frame (c : CauseSet) (s : State) :
    (s.stickCauses c).inl = s.inl ∧
    (s.stickCauses c).alc = s.alc ∧
    (s.stickCauses c).hzc = s.hzc ∧
    (s.stickCauses c).imon = s.imon ∧
    (s.stickCauses c).stu = s.stu ∧
    (s.stickCauses c).mtr = s.mtr ∧
    (s.stickCauses c).tck = s.tck ∧
    (s.stickCauses c).atn = s.atn ∧
    (s.stickCauses c).rqp = s.rqp ∧
    (s.stickCauses c).pwc = s.pwc ∧
    (s.stickCauses c).work = s.work ∧
    (s.stickCauses c).choices = s.choices ∧
    (s.stickCauses c).pending = s.pending := by
  unfold State.stickCauses
  (repeat' split) <;> simp

@[simp] theorem raiseCauses_frame (s : State) :
    s.raiseCauses.inl = s.inl ∧
    s.raiseCauses.alc = s.alc ∧
    s.raiseCauses.hzc = s.hzc ∧
    s.raiseCauses.imon = s.imon ∧
    s.raiseCauses.stu = s.stu ∧
    s.raiseCauses.mtr = s.mtr ∧
    s.raiseCauses.tck = s.tck ∧
    s.raiseCauses.act = s.act ∧
    s.raiseCauses.rqp = s.rqp ∧
    s.raiseCauses.pwc = s.pwc ∧
    s.raiseCauses.work = s.work ∧
    s.raiseCauses.choices = s.choices ∧
    s.raiseCauses.pending = s.pending := by
  unfold State.raiseCauses; dsimp only
  (repeat' split) <;> simp

@[simp] theorem pass_frame (s : State) :
    s.pass.imon = s.imon ∧
    s.pass.stu = s.stu ∧
    s.pass.mtr = s.mtr ∧
    s.pass.tck = s.tck ∧
    s.pass.rqp = s.rqp ∧
    s.pass.pwc = s.pwc ∧
    s.pass.choices = s.choices ∧
    s.pass.pending = s.pending := by
  simp [State.pass]

@[simp] theorem windowEnd_frame (s : State) :
    s.windowEnd.imon = s.imon ∧
    s.windowEnd.stu = s.stu ∧
    s.windowEnd.mtr = s.mtr ∧
    s.windowEnd.tck = s.tck ∧
    s.windowEnd.rqp = s.rqp ∧
    s.windowEnd.pwc = s.pwc ∧
    s.windowEnd.pending = s.pending := by
  unfold State.windowEnd; dsimp only
  (repeat' split) <;> simp

@[simp] theorem discardSample_frame (s : State) :
    s.discardSample.stu = s.stu ∧
    s.discardSample.mtr = s.mtr ∧
    s.discardSample.tck = s.tck ∧
    s.discardSample.rqp = s.rqp ∧
    s.discardSample.pwc = s.pwc ∧
    s.discardSample.pending = s.pending := by
  unfold State.discardSample
  (repeat' split) <;> simp

@[simp] theorem takeReports_frame (s : State) :
    s.takeReports.stu = s.stu ∧
    s.takeReports.mtr = s.mtr ∧
    s.takeReports.tck = s.tck ∧
    s.takeReports.rqp = s.rqp ∧
    s.takeReports.pwc = s.pwc ∧
    s.takeReports.pending = s.pending := by
  unfold State.takeReports
  (repeat' split) <;> simp

@[simp] theorem passes_frame (n : Nat) (s : State) :
    (State.passes n s).stu = s.stu ∧
    (State.passes n s).mtr = s.mtr ∧
    (State.passes n s).tck = s.tck ∧
    (State.passes n s).rqp = s.rqp ∧
    (State.passes n s).pwc = s.pwc ∧
    (State.passes n s).pending = s.pending := by
  induction n generalizing s with
  | zero => simp [State.passes]
  | succ n ih =>
    simp only [State.passes]
    split
    · simp [ih]
    · simp

@[simp] theorem settle_frame (s : State) :
    s.settle.stu = s.stu ∧
    s.settle.mtr = s.mtr ∧
    s.settle.tck = s.tck ∧
    s.settle.rqp = s.rqp ∧
    s.settle.pwc = s.pwc ∧
    s.settle.pending = s.pending := by
  simp [State.settle]

/-! ### Insulation -/

@[simp] theorem startCycle_frame (s : State) :
    s.startCycle.inl = s.inl ∧
    s.startCycle.alc = s.alc ∧
    s.startCycle.hzc = s.hzc ∧
    s.startCycle.stu = s.stu ∧
    s.startCycle.mtr = s.mtr ∧
    s.startCycle.tck = s.tck ∧
    s.startCycle.act = s.act ∧
    s.startCycle.atn = s.atn ∧
    s.startCycle.rqp = s.rqp ∧
    s.startCycle.pwc = s.pwc ∧
    s.startCycle.work = s.work ∧
    s.startCycle.choices = s.choices ∧
    s.startCycle.pending = s.pending := by
  exact ⟨rfl, rfl, rfl, rfl, rfl, rfl, rfl, rfl, rfl, rfl, rfl, rfl, rfl⟩

@[simp] theorem startCycleIfDue_frame (s : State) :
    s.startCycleIfDue.inl = s.inl ∧
    s.startCycleIfDue.alc = s.alc ∧
    s.startCycleIfDue.hzc = s.hzc ∧
    s.startCycleIfDue.stu = s.stu ∧
    s.startCycleIfDue.mtr = s.mtr ∧
    s.startCycleIfDue.tck = s.tck ∧
    s.startCycleIfDue.act = s.act ∧
    s.startCycleIfDue.atn = s.atn ∧
    s.startCycleIfDue.rqp = s.rqp ∧
    s.startCycleIfDue.pwc = s.pwc ∧
    s.startCycleIfDue.work = s.work ∧
    s.startCycleIfDue.choices = s.choices ∧
    s.startCycleIfDue.pending = s.pending := by
  unfold State.startCycleIfDue
  (repeat' split) <;> simp

@[simp] theorem enterPhase_frame (c : Cycle) (s : State) :
    (s.enterPhase c).inl = s.inl ∧
    (s.enterPhase c).alc = s.alc ∧
    (s.enterPhase c).hzc = s.hzc ∧
    (s.enterPhase c).stu = s.stu ∧
    (s.enterPhase c).mtr = s.mtr ∧
    (s.enterPhase c).tck = s.tck ∧
    (s.enterPhase c).act = s.act ∧
    (s.enterPhase c).atn = s.atn ∧
    (s.enterPhase c).rqp = s.rqp ∧
    (s.enterPhase c).pwc = s.pwc ∧
    (s.enterPhase c).work = s.work ∧
    (s.enterPhase c).choices = s.choices ∧
    (s.enterPhase c).pending = s.pending := by
  exact ⟨rfl, rfl, rfl, rfl, rfl, rfl, rfl, rfl, rfl, rfl, rfl, rfl, rfl⟩

@[simp] theorem endCycle_frame (s : State) :
    s.endCycle.inl = s.inl ∧
    s.endCycle.alc = s.alc ∧
    s.endCycle.hzc = s.hzc ∧
    s.endCycle.stu = s.stu ∧
    s.endCycle.mtr = s.mtr ∧
    s.endCycle.tck = s.tck ∧
    s.endCycle.act = s.act ∧
    s.endCycle.atn = s.atn ∧
    s.endCycle.rqp = s.rqp ∧
    s.endCycle.pwc = s.pwc ∧
    s.endCycle.work = s.work ∧
    s.endCycle.choices = s.choices ∧
    s.endCycle.pending = s.pending := by
  exact ⟨rfl, rfl, rfl, rfl, rfl, rfl, rfl, rfl, rfl, rfl, rfl, rfl, rfl⟩

@[simp] theorem modFault_frame (i : Fin 8) (f : FaultRec → FaultRec) (s : State) :
    (s.modFault i f).inl = s.inl ∧
    (s.modFault i f).alc = s.alc ∧
    (s.modFault i f).hzc = s.hzc ∧
    (s.modFault i f).stu = s.stu ∧
    (s.modFault i f).mtr = s.mtr ∧
    (s.modFault i f).tck = s.tck ∧
    (s.modFault i f).act = s.act ∧
    (s.modFault i f).atn = s.atn ∧
    (s.modFault i f).rqp = s.rqp ∧
    (s.modFault i f).pwc = s.pwc ∧
    (s.modFault i f).work = s.work ∧
    (s.modFault i f).choices = s.choices ∧
    (s.modFault i f).pending = s.pending := by
  exact ⟨rfl, rfl, rfl, rfl, rfl, rfl, rfl, rfl, rfl, rfl, rfl, rfl, rfl⟩

@[simp] theorem newRecord_frame (o : Origin) (sev : Severity) (r : Nat) (s : State) :
    (s.newRecord o sev r).inl = s.inl ∧
    (s.newRecord o sev r).alc = s.alc ∧
    (s.newRecord o sev r).hzc = s.hzc ∧
    (s.newRecord o sev r).stu = s.stu ∧
    (s.newRecord o sev r).mtr = s.mtr ∧
    (s.newRecord o sev r).tck = s.tck ∧
    (s.newRecord o sev r).act = s.act ∧
    (s.newRecord o sev r).atn = s.atn ∧
    (s.newRecord o sev r).rqp = s.rqp ∧
    (s.newRecord o sev r).pwc = s.pwc ∧
    (s.newRecord o sev r).work = s.work ∧
    (s.newRecord o sev r).choices = s.choices ∧
    (s.newRecord o sev r).pending = s.pending := by
  unfold State.newRecord
  (repeat' split) <;> simp

@[simp] theorem conditionArises_frame (o : Origin) (sev : Severity) (r : Nat) (s : State) :
    (s.conditionArises o sev r).inl = s.inl ∧
    (s.conditionArises o sev r).alc = s.alc ∧
    (s.conditionArises o sev r).hzc = s.hzc ∧
    (s.conditionArises o sev r).stu = s.stu ∧
    (s.conditionArises o sev r).mtr = s.mtr ∧
    (s.conditionArises o sev r).tck = s.tck ∧
    (s.conditionArises o sev r).act = s.act ∧
    (s.conditionArises o sev r).atn = s.atn ∧
    (s.conditionArises o sev r).rqp = s.rqp ∧
    (s.conditionArises o sev r).pwc = s.pwc ∧
    (s.conditionArises o sev r).work = s.work ∧
    (s.conditionArises o sev r).choices = s.choices ∧
    (s.conditionArises o sev r).pending = s.pending := by
  unfold State.conditionArises
  (repeat' split) <;> simp

@[simp] theorem conditionWorsens_frame (o : Origin) (r : Nat) (s : State) :
    (s.conditionWorsens o r).inl = s.inl ∧
    (s.conditionWorsens o r).alc = s.alc ∧
    (s.conditionWorsens o r).hzc = s.hzc ∧
    (s.conditionWorsens o r).stu = s.stu ∧
    (s.conditionWorsens o r).mtr = s.mtr ∧
    (s.conditionWorsens o r).tck = s.tck ∧
    (s.conditionWorsens o r).act = s.act ∧
    (s.conditionWorsens o r).atn = s.atn ∧
    (s.conditionWorsens o r).rqp = s.rqp ∧
    (s.conditionWorsens o r).pwc = s.pwc ∧
    (s.conditionWorsens o r).work = s.work ∧
    (s.conditionWorsens o r).choices = s.choices ∧
    (s.conditionWorsens o r).pending = s.pending := by
  unfold State.conditionWorsens
  (repeat' split) <;> simp

@[simp] theorem conditionEnds_frame (o : Origin) (s : State) :
    (s.conditionEnds o).inl = s.inl ∧
    (s.conditionEnds o).alc = s.alc ∧
    (s.conditionEnds o).hzc = s.hzc ∧
    (s.conditionEnds o).stu = s.stu ∧
    (s.conditionEnds o).mtr = s.mtr ∧
    (s.conditionEnds o).tck = s.tck ∧
    (s.conditionEnds o).act = s.act ∧
    (s.conditionEnds o).atn = s.atn ∧
    (s.conditionEnds o).rqp = s.rqp ∧
    (s.conditionEnds o).pwc = s.pwc ∧
    (s.conditionEnds o).work = s.work ∧
    (s.conditionEnds o).choices = s.choices ∧
    (s.conditionEnds o).pending = s.pending := by
  unfold State.conditionEnds
  (repeat' split) <;> simp

@[simp] theorem conditionSeen_frame (o : Origin) (r : Nat) (s : State) :
    (s.conditionSeen o r).inl = s.inl ∧
    (s.conditionSeen o r).alc = s.alc ∧
    (s.conditionSeen o r).hzc = s.hzc ∧
    (s.conditionSeen o r).stu = s.stu ∧
    (s.conditionSeen o r).mtr = s.mtr ∧
    (s.conditionSeen o r).tck = s.tck ∧
    (s.conditionSeen o r).act = s.act ∧
    (s.conditionSeen o r).atn = s.atn ∧
    (s.conditionSeen o r).rqp = s.rqp ∧
    (s.conditionSeen o r).pwc = s.pwc ∧
    (s.conditionSeen o r).work = s.work ∧
    (s.conditionSeen o r).choices = s.choices ∧
    (s.conditionSeen o r).pending = s.pending := by
  unfold State.conditionSeen
  (repeat' split) <;> simp

@[simp] theorem raiseSlot_frame (src : Source) (o : Origin) (s : State) :
    (s.raiseSlot src o).inl = s.inl ∧
    (s.raiseSlot src o).alc = s.alc ∧
    (s.raiseSlot src o).hzc = s.hzc ∧
    (s.raiseSlot src o).imon = s.imon ∧
    (s.raiseSlot src o).stu = s.stu ∧
    (s.raiseSlot src o).mtr = s.mtr ∧
    (s.raiseSlot src o).tck = s.tck ∧
    (s.raiseSlot src o).act = s.act ∧
    (s.raiseSlot src o).rqp = s.rqp ∧
    (s.raiseSlot src o).pwc = s.pwc ∧
    (s.raiseSlot src o).work = s.work ∧
    (s.raiseSlot src o).choices = s.choices ∧
    (s.raiseSlot src o).pending = s.pending := by
  simp [State.raiseSlot]

@[simp] theorem modLoc_frame (f : Locating → Locating) (s : State) :
    (s.modLoc f).inl = s.inl ∧
    (s.modLoc f).alc = s.alc ∧
    (s.modLoc f).hzc = s.hzc ∧
    (s.modLoc f).stu = s.stu ∧
    (s.modLoc f).mtr = s.mtr ∧
    (s.modLoc f).tck = s.tck ∧
    (s.modLoc f).act = s.act ∧
    (s.modLoc f).atn = s.atn ∧
    (s.modLoc f).rqp = s.rqp ∧
    (s.modLoc f).pwc = s.pwc ∧
    (s.modLoc f).work = s.work ∧
    (s.modLoc f).choices = s.choices ∧
    (s.modLoc f).pending = s.pending := by
  exact ⟨rfl, rfl, rfl, rfl, rfl, rfl, rfl, rfl, rfl, rfl, rfl, rfl, rfl⟩

@[simp] theorem beginSequence_frame (p : Pole) (s : State) :
    (s.beginSequence p).inl = s.inl ∧
    (s.beginSequence p).alc = s.alc ∧
    (s.beginSequence p).hzc = s.hzc ∧
    (s.beginSequence p).stu = s.stu ∧
    (s.beginSequence p).mtr = s.mtr ∧
    (s.beginSequence p).tck = s.tck ∧
    (s.beginSequence p).act = s.act ∧
    (s.beginSequence p).atn = s.atn ∧
    (s.beginSequence p).rqp = s.rqp ∧
    (s.beginSequence p).pwc = s.pwc ∧
    (s.beginSequence p).work = s.work ∧
    (s.beginSequence p).choices = s.choices ∧
    (s.beginSequence p).pending = s.pending := by
  exact ⟨rfl, rfl, rfl, rfl, rfl, rfl, rfl, rfl, rfl, rfl, rfl, rfl, rfl⟩

theorem isolateNext_frame (l : List (Fin 6)) (s t : State) (h : s.isolateNext l = some t) :
    t.inl = s.inl ∧
    t.alc = s.alc ∧
    t.stu = s.stu ∧
    t.mtr = s.mtr ∧
    t.tck = s.tck ∧
    t.act = s.act ∧
    t.rqp = s.rqp ∧
    t.pwc = s.pwc ∧
    t.choices = s.choices ∧
    t.pending = s.pending := by
  induction l with
  | nil => simp [State.isolateNext] at h
  | cons z rest ih =>
    simp only [State.isolateNext] at h
    split at h
    · cases h; simp
    · exact ih h

@[simp] theorem completeRecord_frame (o : LocateOutcome) (g : Origin) (s : State) :
    (s.completeRecord o g).inl = s.inl ∧
    (s.completeRecord o g).alc = s.alc ∧
    (s.completeRecord o g).hzc = s.hzc ∧
    (s.completeRecord o g).stu = s.stu ∧
    (s.completeRecord o g).mtr = s.mtr ∧
    (s.completeRecord o g).tck = s.tck ∧
    (s.completeRecord o g).act = s.act ∧
    (s.completeRecord o g).rqp = s.rqp ∧
    (s.completeRecord o g).pwc = s.pwc ∧
    (s.completeRecord o g).work = s.work ∧
    (s.completeRecord o g).choices = s.choices ∧
    (s.completeRecord o g).pending = s.pending := by
  simp [State.completeRecord]

@[simp] theorem takeDeferred_frame (s : State) :
    s.takeDeferred.inl = s.inl ∧
    s.takeDeferred.alc = s.alc ∧
    s.takeDeferred.stu = s.stu ∧
    s.takeDeferred.mtr = s.mtr ∧
    s.takeDeferred.tck = s.tck ∧
    s.takeDeferred.act = s.act ∧
    s.takeDeferred.rqp = s.rqp ∧
    s.takeDeferred.pwc = s.pwc ∧
    s.takeDeferred.choices = s.choices ∧
    s.takeDeferred.pending = s.pending := by
  simp only [State.takeDeferred]
  split
  · simp
  · split
    · split
      · rename_i t h; simpa using isolateNext_frame _ _ _ h
      · simp
    · simp

@[simp] theorem completeSequence_frame (o : LocateOutcome) (g : Origin) (s : State) :
    (s.completeSequence o g).inl = s.inl ∧
    (s.completeSequence o g).alc = s.alc ∧
    (s.completeSequence o g).stu = s.stu ∧
    (s.completeSequence o g).mtr = s.mtr ∧
    (s.completeSequence o g).tck = s.tck ∧
    (s.completeSequence o g).act = s.act ∧
    (s.completeSequence o g).rqp = s.rqp ∧
    (s.completeSequence o g).pwc = s.pwc ∧
    (s.completeSequence o g).choices = s.choices ∧
    (s.completeSequence o g).pending = s.pending := by
  simp [State.completeSequence]

@[simp] theorem continueSequence_frame (p : Pole) (l : List (Fin 6)) (s : State) :
    (s.continueSequence p l).inl = s.inl ∧
    (s.continueSequence p l).alc = s.alc ∧
    (s.continueSequence p l).stu = s.stu ∧
    (s.continueSequence p l).mtr = s.mtr ∧
    (s.continueSequence p l).tck = s.tck ∧
    (s.continueSequence p l).act = s.act ∧
    (s.continueSequence p l).rqp = s.rqp ∧
    (s.continueSequence p l).pwc = s.pwc ∧
    (s.continueSequence p l).choices = s.choices ∧
    (s.continueSequence p l).pending = s.pending := by
  unfold State.continueSequence
  split
  · rename_i t h; simpa using isolateNext_frame _ _ _ h
  · simp

@[simp] theorem requestLocating_frame (p : Pole) (s : State) :
    (s.requestLocating p).inl = s.inl ∧
    (s.requestLocating p).alc = s.alc ∧
    (s.requestLocating p).stu = s.stu ∧
    (s.requestLocating p).mtr = s.mtr ∧
    (s.requestLocating p).tck = s.tck ∧
    (s.requestLocating p).act = s.act ∧
    (s.requestLocating p).rqp = s.rqp ∧
    (s.requestLocating p).pwc = s.pwc ∧
    (s.requestLocating p).choices = s.choices ∧
    (s.requestLocating p).pending = s.pending := by
  unfold State.requestLocating
  (repeat' split) <;> simp

@[simp] theorem moveRecord_frame (p : Pole) (z : Fin 6) (s : State) :
    (s.moveRecord p z).inl = s.inl ∧
    (s.moveRecord p z).alc = s.alc ∧
    (s.moveRecord p z).hzc = s.hzc ∧
    (s.moveRecord p z).stu = s.stu ∧
    (s.moveRecord p z).mtr = s.mtr ∧
    (s.moveRecord p z).tck = s.tck ∧
    (s.moveRecord p z).act = s.act ∧
    (s.moveRecord p z).atn = s.atn ∧
    (s.moveRecord p z).rqp = s.rqp ∧
    (s.moveRecord p z).pwc = s.pwc ∧
    (s.moveRecord p z).work = s.work ∧
    (s.moveRecord p z).choices = s.choices ∧
    (s.moveRecord p z).pending = s.pending := by
  unfold State.moveRecord
  (repeat' split) <;> simp

@[simp] theorem judge_frame (p : Pole) (z : Fin 6) (r : Nat) (s : State) :
    (s.judge p z r).inl = s.inl ∧
    (s.judge p z r).alc = s.alc ∧
    (s.judge p z r).stu = s.stu ∧
    (s.judge p z r).mtr = s.mtr ∧
    (s.judge p z r).tck = s.tck ∧
    (s.judge p z r).act = s.act ∧
    (s.judge p z r).rqp = s.rqp ∧
    (s.judge p z r).pwc = s.pwc ∧
    (s.judge p z r).choices = s.choices ∧
    (s.judge p z r).pending = s.pending := by
  unfold State.judge
  (repeat' split) <;> simp

@[simp] theorem abandonLocating_frame (s : State) :
    s.abandonLocating.inl = s.inl ∧
    s.abandonLocating.alc = s.alc ∧
    s.abandonLocating.stu = s.stu ∧
    s.abandonLocating.mtr = s.mtr ∧
    s.abandonLocating.tck = s.tck ∧
    s.abandonLocating.act = s.act ∧
    s.abandonLocating.rqp = s.rqp ∧
    s.abandonLocating.pwc = s.pwc ∧
    s.abandonLocating.choices = s.choices ∧
    s.abandonLocating.pending = s.pending := by
  unfold State.abandonLocating
  (repeat' split) <;> simp

@[simp] theorem poleConditionsEnd_frame (s : State) :
    s.poleConditionsEnd.inl = s.inl ∧
    s.poleConditionsEnd.alc = s.alc ∧
    s.poleConditionsEnd.hzc = s.hzc ∧
    s.poleConditionsEnd.stu = s.stu ∧
    s.poleConditionsEnd.mtr = s.mtr ∧
    s.poleConditionsEnd.tck = s.tck ∧
    s.poleConditionsEnd.act = s.act ∧
    s.poleConditionsEnd.atn = s.atn ∧
    s.poleConditionsEnd.rqp = s.rqp ∧
    s.poleConditionsEnd.pwc = s.pwc ∧
    s.poleConditionsEnd.work = s.work ∧
    s.poleConditionsEnd.choices = s.choices ∧
    s.poleConditionsEnd.pending = s.pending := by
  simp [State.poleConditionsEnd]

@[simp] theorem bankStop_frame (c : StopCause) (s : State) :
    (s.bankStop c).inl = s.inl ∧
    (s.bankStop c).alc = s.alc ∧
    (s.bankStop c).hzc = s.hzc ∧
    (s.bankStop c).imon = s.imon ∧
    (s.bankStop c).mtr = s.mtr ∧
    (s.bankStop c).tck = s.tck ∧
    (s.bankStop c).act = s.act ∧
    (s.bankStop c).atn = s.atn ∧
    (s.bankStop c).rqp = s.rqp ∧
    (s.bankStop c).pwc = s.pwc ∧
    (s.bankStop c).work = s.work ∧
    (s.bankStop c).choices = s.choices ∧
    (s.bankStop c).pending = s.pending := by
  unfold State.bankStop
  (repeat' split) <;> simp

@[simp] theorem takeStop_frame (c : StopCause) (s : State) :
    (s.takeStop c).alc = s.alc ∧
    (s.takeStop c).mtr = s.mtr ∧
    (s.takeStop c).tck = s.tck ∧
    (s.takeStop c).pwc = s.pwc ∧
    (s.takeStop c).choices = s.choices ∧
    (s.takeStop c).pending = s.pending := by
  simp [State.takeStop]

@[simp] theorem tableTakes_frame (p : Pole) (b a : Severity) (r : Nat) (s : State) :
    (s.tableTakes p b a r).inl = s.inl ∧
    (s.tableTakes p b a r).alc = s.alc ∧
    (s.tableTakes p b a r).hzc = s.hzc ∧
    (s.tableTakes p b a r).stu = s.stu ∧
    (s.tableTakes p b a r).mtr = s.mtr ∧
    (s.tableTakes p b a r).tck = s.tck ∧
    (s.tableTakes p b a r).act = s.act ∧
    (s.tableTakes p b a r).atn = s.atn ∧
    (s.tableTakes p b a r).rqp = s.rqp ∧
    (s.tableTakes p b a r).pwc = s.pwc ∧
    (s.tableTakes p b a r).work = s.work ∧
    (s.tableTakes p b a r).choices = s.choices ∧
    (s.tableTakes p b a r).pending = s.pending := by
  unfold State.tableTakes
  (repeat' split) <;> simp

@[simp] theorem tableSees_frame (p : Pole) (a : Severity) (r : Nat) (s : State) :
    (s.tableSees p a r).inl = s.inl ∧
    (s.tableSees p a r).alc = s.alc ∧
    (s.tableSees p a r).hzc = s.hzc ∧
    (s.tableSees p a r).stu = s.stu ∧
    (s.tableSees p a r).mtr = s.mtr ∧
    (s.tableSees p a r).tck = s.tck ∧
    (s.tableSees p a r).act = s.act ∧
    (s.tableSees p a r).atn = s.atn ∧
    (s.tableSees p a r).rqp = s.rqp ∧
    (s.tableSees p a r).pwc = s.pwc ∧
    (s.tableSees p a r).work = s.work ∧
    (s.tableSees p a r).choices = s.choices ∧
    (s.tableSees p a r).pending = s.pending := by
  unfold State.tableSees
  (repeat' split) <;> simp

@[simp] theorem raiseSeverity_frame (p : Pole) (b a : Severity) (s : State) :
    (s.raiseSeverity p b a).inl = s.inl ∧
    (s.raiseSeverity p b a).alc = s.alc ∧
    (s.raiseSeverity p b a).hzc = s.hzc ∧
    (s.raiseSeverity p b a).imon = s.imon ∧
    (s.raiseSeverity p b a).stu = s.stu ∧
    (s.raiseSeverity p b a).mtr = s.mtr ∧
    (s.raiseSeverity p b a).tck = s.tck ∧
    (s.raiseSeverity p b a).act = s.act ∧
    (s.raiseSeverity p b a).rqp = s.rqp ∧
    (s.raiseSeverity p b a).pwc = s.pwc ∧
    (s.raiseSeverity p b a).work = s.work ∧
    (s.raiseSeverity p b a).choices = s.choices ∧
    (s.raiseSeverity p b a).pending = s.pending := by
  unfold State.raiseSeverity
  (repeat' split) <;> simp

@[simp] theorem locateSeverity_frame (p : Pole) (b a : Severity) (s : State) :
    (s.locateSeverity p b a).inl = s.inl ∧
    (s.locateSeverity p b a).alc = s.alc ∧
    (s.locateSeverity p b a).stu = s.stu ∧
    (s.locateSeverity p b a).mtr = s.mtr ∧
    (s.locateSeverity p b a).tck = s.tck ∧
    (s.locateSeverity p b a).act = s.act ∧
    (s.locateSeverity p b a).rqp = s.rqp ∧
    (s.locateSeverity p b a).pwc = s.pwc ∧
    (s.locateSeverity p b a).choices = s.choices ∧
    (s.locateSeverity p b a).pending = s.pending := by
  unfold State.locateSeverity
  (repeat' split) <;> simp

@[simp] theorem stepLocating_frame (f : Bool) (ran : Option (Pole × Fin 6)) (s : State) :
    (s.stepLocating f ran).inl = s.inl ∧
    (s.stepLocating f ran).alc = s.alc ∧
    (s.stepLocating f ran).stu = s.stu ∧
    (s.stepLocating f ran).mtr = s.mtr ∧
    (s.stepLocating f ran).tck = s.tck ∧
    (s.stepLocating f ran).act = s.act ∧
    (s.stepLocating f ran).rqp = s.rqp ∧
    (s.stepLocating f ran).pwc = s.pwc ∧
    (s.stepLocating f ran).choices = s.choices ∧
    (s.stepLocating f ran).pending = s.pending := by
  unfold State.stepLocating
  (repeat' split) <;> simp

@[simp] theorem handOn_frame (bp bn : Severity) (s : State) :
    (s.handOn bp bn).inl = s.inl ∧
    (s.handOn bp bn).alc = s.alc ∧
    (s.handOn bp bn).stu = s.stu ∧
    (s.handOn bp bn).mtr = s.mtr ∧
    (s.handOn bp bn).tck = s.tck ∧
    (s.handOn bp bn).act = s.act ∧
    (s.handOn bp bn).rqp = s.rqp ∧
    (s.handOn bp bn).pwc = s.pwc ∧
    (s.handOn bp bn).choices = s.choices ∧
    (s.handOn bp bn).pending = s.pending := by
  unfold State.handOn; dsimp only
  (repeat' split) <;> simp

@[simp] theorem nextCycle_frame (s : State) :
    s.nextCycle.inl = s.inl ∧
    s.nextCycle.alc = s.alc ∧
    s.nextCycle.hzc = s.hzc ∧
    s.nextCycle.stu = s.stu ∧
    s.nextCycle.mtr = s.mtr ∧
    s.nextCycle.tck = s.tck ∧
    s.nextCycle.act = s.act ∧
    s.nextCycle.atn = s.atn ∧
    s.nextCycle.rqp = s.rqp ∧
    s.nextCycle.pwc = s.pwc ∧
    s.nextCycle.work = s.work ∧
    s.nextCycle.choices = s.choices ∧
    s.nextCycle.pending = s.pending := by
  unfold State.nextCycle
  (repeat' split) <;> simp

@[simp] theorem passAndStop_frame (f : Bool) (s : State) :
    (s.passAndStop f).mtr = s.mtr ∧
    (s.passAndStop f).tck = s.tck ∧
    (s.passAndStop f).pwc = s.pwc ∧
    (s.passAndStop f).pending = s.pending := by
  unfold State.passAndStop
  (repeat' split) <;> simp

@[simp] theorem completeBase_frame (s : State) :
    s.completeBase.stu = s.stu ∧
    s.completeBase.mtr = s.mtr ∧
    s.completeBase.tck = s.tck ∧
    s.completeBase.rqp = s.rqp ∧
    s.completeBase.pwc = s.pwc ∧
    s.completeBase.pending = s.pending := by
  simp [State.completeBase]

@[simp] theorem completeShift_frame (s : State) :
    s.completeShift.mtr = s.mtr ∧
    s.completeShift.tck = s.tck ∧
    s.completeShift.pwc = s.pwc ∧
    s.completeShift.pending = s.pending := by
  simp [State.completeShift]

@[simp] theorem polesUnknown_frame (s : State) :
    s.polesUnknown.inl = s.inl ∧
    s.polesUnknown.alc = s.alc ∧
    s.polesUnknown.hzc = s.hzc ∧
    s.polesUnknown.stu = s.stu ∧
    s.polesUnknown.mtr = s.mtr ∧
    s.polesUnknown.tck = s.tck ∧
    s.polesUnknown.act = s.act ∧
    s.polesUnknown.atn = s.atn ∧
    s.polesUnknown.rqp = s.rqp ∧
    s.polesUnknown.pwc = s.pwc ∧
    s.polesUnknown.work = s.work ∧
    s.polesUnknown.choices = s.choices ∧
    s.polesUnknown.pending = s.pending := by
  exact ⟨rfl, rfl, rfl, rfl, rfl, rfl, rfl, rfl, rfl, rfl, rfl, rfl, rfl⟩

@[simp] theorem noBus_frame (up un : Nat) (s : State) :
    (s.noBus up un).stu = s.stu ∧
    (s.noBus up un).mtr = s.mtr ∧
    (s.noBus up un).tck = s.tck ∧
    (s.noBus up un).rqp = s.rqp ∧
    (s.noBus up un).pwc = s.pwc ∧
    (s.noBus up un).pending = s.pending := by
  unfold State.noBus; dsimp only
  (repeat' split) <;> simp

@[simp] theorem poleReading_frame (up un : Nat) (s : State) :
    (s.poleReading up un).stu = s.stu ∧
    (s.poleReading up un).mtr = s.mtr ∧
    (s.poleReading up un).tck = s.tck ∧
    (s.poleReading up un).rqp = s.rqp ∧
    (s.poleReading up un).pwc = s.pwc ∧
    (s.poleReading up un).pending = s.pending := by
  unfold State.poleReading
  (repeat' split) <;> simp

/-! ### Metering -/

@[simp] theorem countChanged_frame (n : Nat) (s : State) :
    (s.countChanged n).alc = s.alc ∧
    (s.countChanged n).hzc = s.hzc ∧
    (s.countChanged n).imon = s.imon ∧
    (s.countChanged n).stu = s.stu ∧
    (s.countChanged n).mtr = s.mtr ∧
    (s.countChanged n).tck = s.tck ∧
    (s.countChanged n).act = s.act ∧
    (s.countChanged n).rqp = s.rqp ∧
    (s.countChanged n).pwc = s.pwc ∧
    (s.countChanged n).choices = s.choices ∧
    (s.countChanged n).pending = s.pending := by
  unfold State.countChanged
  (repeat' split) <;> simp

@[simp] theorem readPhases_frame (f : FrontEnd) (s : State) :
    (s.readPhases f).alc = s.alc ∧
    (s.readPhases f).hzc = s.hzc ∧
    (s.readPhases f).imon = s.imon ∧
    (s.readPhases f).stu = s.stu ∧
    (s.readPhases f).tck = s.tck ∧
    (s.readPhases f).act = s.act ∧
    (s.readPhases f).rqp = s.rqp ∧
    (s.readPhases f).pwc = s.pwc ∧
    (s.readPhases f).choices = s.choices ∧
    (s.readPhases f).pending = s.pending := by
  simp [State.readPhases]

@[simp] theorem stopMeter_frame (s : State) :
    s.stopMeter.alc = s.alc ∧
    s.stopMeter.hzc = s.hzc ∧
    s.stopMeter.imon = s.imon ∧
    s.stopMeter.stu = s.stu ∧
    s.stopMeter.tck = s.tck ∧
    s.stopMeter.act = s.act ∧
    s.stopMeter.rqp = s.rqp ∧
    s.stopMeter.pwc = s.pwc ∧
    s.stopMeter.choices = s.choices ∧
    s.stopMeter.pending = s.pending := by
  simp [State.stopMeter]

@[simp] theorem modTariff_frame (i : Fin 8) (f : Tariff → Tariff) (s : State) :
    (s.modTariff i f).inl = s.inl ∧
    (s.modTariff i f).alc = s.alc ∧
    (s.modTariff i f).hzc = s.hzc ∧
    (s.modTariff i f).imon = s.imon ∧
    (s.modTariff i f).stu = s.stu ∧
    (s.modTariff i f).mtr = s.mtr ∧
    (s.modTariff i f).act = s.act ∧
    (s.modTariff i f).atn = s.atn ∧
    (s.modTariff i f).rqp = s.rqp ∧
    (s.modTariff i f).pwc = s.pwc ∧
    (s.modTariff i f).work = s.work ∧
    (s.modTariff i f).choices = s.choices ∧
    (s.modTariff i f).pending = s.pending := by
  exact ⟨rfl, rfl, rfl, rfl, rfl, rfl, rfl, rfl, rfl, rfl, rfl, rfl, rfl⟩

@[simp] theorem takeRef_frame (i : Fin 8) (s : State) :
    (s.takeRef i).inl = s.inl ∧
    (s.takeRef i).alc = s.alc ∧
    (s.takeRef i).hzc = s.hzc ∧
    (s.takeRef i).imon = s.imon ∧
    (s.takeRef i).stu = s.stu ∧
    (s.takeRef i).mtr = s.mtr ∧
    (s.takeRef i).act = s.act ∧
    (s.takeRef i).atn = s.atn ∧
    (s.takeRef i).rqp = s.rqp ∧
    (s.takeRef i).pwc = s.pwc ∧
    (s.takeRef i).work = s.work ∧
    (s.takeRef i).choices = s.choices ∧
    (s.takeRef i).pending = s.pending := by
  exact ⟨rfl, rfl, rfl, rfl, rfl, rfl, rfl, rfl, rfl, rfl, rfl, rfl, rfl⟩

@[simp] theorem releaseRef_frame (i : Fin 8) (s : State) :
    (s.releaseRef i).inl = s.inl ∧
    (s.releaseRef i).alc = s.alc ∧
    (s.releaseRef i).hzc = s.hzc ∧
    (s.releaseRef i).imon = s.imon ∧
    (s.releaseRef i).stu = s.stu ∧
    (s.releaseRef i).mtr = s.mtr ∧
    (s.releaseRef i).act = s.act ∧
    (s.releaseRef i).atn = s.atn ∧
    (s.releaseRef i).rqp = s.rqp ∧
    (s.releaseRef i).pwc = s.pwc ∧
    (s.releaseRef i).work = s.work ∧
    (s.releaseRef i).choices = s.choices ∧
    (s.releaseRef i).pending = s.pending := by
  exact ⟨rfl, rfl, rfl, rfl, rfl, rfl, rfl, rfl, rfl, rfl, rfl, rfl, rfl⟩

@[simp] theorem releasePending_frame (p : Option (Fin 8)) (s : State) :
    (s.releasePending p).inl = s.inl ∧
    (s.releasePending p).alc = s.alc ∧
    (s.releasePending p).hzc = s.hzc ∧
    (s.releasePending p).imon = s.imon ∧
    (s.releasePending p).stu = s.stu ∧
    (s.releasePending p).mtr = s.mtr ∧
    (s.releasePending p).act = s.act ∧
    (s.releasePending p).atn = s.atn ∧
    (s.releasePending p).rqp = s.rqp ∧
    (s.releasePending p).pwc = s.pwc ∧
    (s.releasePending p).work = s.work ∧
    (s.releasePending p).choices = s.choices ∧
    (s.releasePending p).pending = s.pending := by
  unfold State.releasePending
  (repeat' split) <;> simp

@[simp] theorem switchSlot_frame (i : Fin 16) (s : State) :
    (s.switchSlot i).inl = s.inl ∧
    (s.switchSlot i).alc = s.alc ∧
    (s.switchSlot i).hzc = s.hzc ∧
    (s.switchSlot i).imon = s.imon ∧
    (s.switchSlot i).stu = s.stu ∧
    (s.switchSlot i).mtr = s.mtr ∧
    (s.switchSlot i).rqp = s.rqp ∧
    (s.switchSlot i).pwc = s.pwc ∧
    (s.switchSlot i).work = s.work ∧
    (s.switchSlot i).choices = s.choices ∧
    (s.switchSlot i).pending = s.pending := by
  unfold State.switchSlot
  (repeat' split) <;> simp

@[simp] theorem switchTariffs_frame (s : State) :
    s.switchTariffs.inl = s.inl ∧
    s.switchTariffs.alc = s.alc ∧
    s.switchTariffs.hzc = s.hzc ∧
    s.switchTariffs.imon = s.imon ∧
    s.switchTariffs.stu = s.stu ∧
    s.switchTariffs.mtr = s.mtr ∧
    s.switchTariffs.rqp = s.rqp ∧
    s.switchTariffs.pwc = s.pwc ∧
    s.switchTariffs.work = s.work ∧
    s.switchTariffs.choices = s.choices ∧
    s.switchTariffs.pending = s.pending := by
  unfold State.switchTariffs
  induction fins 16 generalizing s with
  | nil => simp
  | cons i rest ih => simpa using ih (s.switchSlot i)

@[simp] theorem newlySet_frame (b a : Bool) (h : Handle) (e : AcctEvent) (s : State) :
    (s.newlySet b a h e).inl = s.inl ∧
    (s.newlySet b a h e).alc = s.alc ∧
    (s.newlySet b a h e).hzc = s.hzc ∧
    (s.newlySet b a h e).imon = s.imon ∧
    (s.newlySet b a h e).stu = s.stu ∧
    (s.newlySet b a h e).mtr = s.mtr ∧
    (s.newlySet b a h e).tck = s.tck ∧
    (s.newlySet b a h e).act = s.act ∧
    (s.newlySet b a h e).rqp = s.rqp ∧
    (s.newlySet b a h e).pwc = s.pwc ∧
    (s.newlySet b a h e).choices = s.choices ∧
    (s.newlySet b a h e).pending = s.pending := by
  unfold State.newlySet
  (repeat' split) <;> simp

@[simp] theorem capChange_frame (b a : Bool) (s : State) :
    (s.capChange b a).inl = s.inl ∧
    (s.capChange b a).alc = s.alc ∧
    (s.capChange b a).hzc = s.hzc ∧
    (s.capChange b a).imon = s.imon ∧
    (s.capChange b a).stu = s.stu ∧
    (s.capChange b a).mtr = s.mtr ∧
    (s.capChange b a).tck = s.tck ∧
    (s.capChange b a).act = s.act ∧
    (s.capChange b a).atn = s.atn ∧
    (s.capChange b a).rqp = s.rqp ∧
    (s.capChange b a).pwc = s.pwc ∧
    (s.capChange b a).choices = s.choices ∧
    (s.capChange b a).pending = s.pending := by
  unfold State.capChange
  (repeat' split) <;> simp

@[simp] theorem deliverTo_frame (i : Fin 16) (total heat t : Nat) (s : State) :
    (s.deliverTo i total heat t).inl = s.inl ∧
    (s.deliverTo i total heat t).alc = s.alc ∧
    (s.deliverTo i total heat t).hzc = s.hzc ∧
    (s.deliverTo i total heat t).imon = s.imon ∧
    (s.deliverTo i total heat t).stu = s.stu ∧
    (s.deliverTo i total heat t).mtr = s.mtr ∧
    (s.deliverTo i total heat t).tck = s.tck ∧
    (s.deliverTo i total heat t).rqp = s.rqp ∧
    (s.deliverTo i total heat t).pwc = s.pwc ∧
    (s.deliverTo i total heat t).choices = s.choices ∧
    (s.deliverTo i total heat t).pending = s.pending := by
  unfold State.deliverTo
  (repeat' split) <;> simp

@[simp] theorem deliver_frame (total heat t : Nat) (s : State) :
    (s.deliver total heat t).inl = s.inl ∧
    (s.deliver total heat t).alc = s.alc ∧
    (s.deliver total heat t).hzc = s.hzc ∧
    (s.deliver total heat t).imon = s.imon ∧
    (s.deliver total heat t).stu = s.stu ∧
    (s.deliver total heat t).tck = s.tck ∧
    (s.deliver total heat t).rqp = s.rqp ∧
    (s.deliver total heat t).pwc = s.pwc ∧
    (s.deliver total heat t).choices = s.choices ∧
    (s.deliver total heat t).pending = s.pending := by
  unfold State.deliver
  (repeat' split) <;> simp

@[simp] theorem meterTick_frame (t : Nat) (s : State) :
    (s.meterTick t).inl = s.inl ∧
    (s.meterTick t).alc = s.alc ∧
    (s.meterTick t).hzc = s.hzc ∧
    (s.meterTick t).imon = s.imon ∧
    (s.meterTick t).stu = s.stu ∧
    (s.meterTick t).rqp = s.rqp ∧
    (s.meterTick t).pwc = s.pwc ∧
    (s.meterTick t).choices = s.choices ∧
    (s.meterTick t).pending = s.pending := by
  unfold State.meterTick; dsimp only
  (repeat' split) <;> simp

@[simp] theorem advanceClock_frame (s : State) :
    s.advanceClock.inl = s.inl ∧
    s.advanceClock.alc = s.alc ∧
    s.advanceClock.imon = s.imon ∧
    s.advanceClock.stu = s.stu ∧
    s.advanceClock.rqp = s.rqp ∧
    s.advanceClock.pwc = s.pwc ∧
    s.advanceClock.choices = s.choices ∧
    s.advanceClock.pending = s.pending := by
  unfold State.advanceClock; dsimp only
  (repeat' split) <;> simp

@[simp] theorem secondExpires_frame (e : PhaseEnergy) (s : State) :
    (s.secondExpires e).inl = s.inl ∧
    (s.secondExpires e).alc = s.alc ∧
    (s.secondExpires e).imon = s.imon ∧
    (s.secondExpires e).stu = s.stu ∧
    (s.secondExpires e).rqp = s.rqp ∧
    (s.secondExpires e).pwc = s.pwc ∧
    (s.secondExpires e).choices = s.choices ∧
    (s.secondExpires e).pending = s.pending := by
  unfold State.secondExpires; dsimp only
  (repeat' split) <;> simp

/-! ### Resets -/

@[simp] theorem suspendAtReset_frame (s : State) :
    s.suspendAtReset.inl = s.inl ∧
    s.suspendAtReset.alc = s.alc ∧
    s.suspendAtReset.hzc = s.hzc ∧
    s.suspendAtReset.imon = s.imon ∧
    s.suspendAtReset.stu = s.stu ∧
    s.suspendAtReset.mtr = s.mtr ∧
    s.suspendAtReset.tck = s.tck ∧
    s.suspendAtReset.pwc = s.pwc ∧
    s.suspendAtReset.choices = s.choices ∧
    s.suspendAtReset.pending = s.pending := by
  unfold State.suspendAtReset
  (repeat' split) <;> simp

@[simp] theorem raiseOwed_frame (s : State) :
    s.raiseOwed.inl = s.inl ∧
    s.raiseOwed.alc = s.alc ∧
    s.raiseOwed.hzc = s.hzc ∧
    s.raiseOwed.imon = s.imon ∧
    s.raiseOwed.stu = s.stu ∧
    s.raiseOwed.mtr = s.mtr ∧
    s.raiseOwed.tck = s.tck ∧
    s.raiseOwed.act = s.act ∧
    s.raiseOwed.rqp = s.rqp ∧
    s.raiseOwed.pwc = s.pwc ∧
    s.raiseOwed.work = s.work ∧
    s.raiseOwed.choices = s.choices ∧
    s.raiseOwed.pending = s.pending := by
  unfold State.raiseOwed
  (repeat' split) <;> simp

@[simp] theorem portReset_frame (c : ResetCauses) (s : State) :
    (s.portReset c).tck = s.tck ∧
    (s.portReset c).choices = s.choices ∧
    (s.portReset c).pending = s.pending := by
  simp [State.portReset]

@[simp] theorem setPower_frame (st : PowerState) (s : State) :
    (s.setPower st).inl = s.inl ∧
    (s.setPower st).alc = s.alc ∧
    (s.setPower st).hzc = s.hzc ∧
    (s.setPower st).imon = s.imon ∧
    (s.setPower st).stu = s.stu ∧
    (s.setPower st).mtr = s.mtr ∧
    (s.setPower st).tck = s.tck ∧
    (s.setPower st).act = s.act ∧
    (s.setPower st).atn = s.atn ∧
    (s.setPower st).rqp = s.rqp ∧
    (s.setPower st).work = s.work ∧
    (s.setPower st).choices = s.choices ∧
    (s.setPower st).pending = s.pending := by
  exact ⟨rfl, rfl, rfl, rfl, rfl, rfl, rfl, rfl, rfl, rfl, rfl, rfl, rfl⟩

@[simp] theorem startPasses_frame (s : State) :
    s.startPasses.inl = s.inl ∧
    s.startPasses.hzc = s.hzc ∧
    s.startPasses.imon = s.imon ∧
    s.startPasses.stu = s.stu ∧
    s.startPasses.mtr = s.mtr ∧
    s.startPasses.tck = s.tck ∧
    s.startPasses.act = s.act ∧
    s.startPasses.atn = s.atn ∧
    s.startPasses.rqp = s.rqp ∧
    s.startPasses.pwc = s.pwc ∧
    s.startPasses.choices = s.choices ∧
    s.startPasses.pending = s.pending := by
  exact ⟨rfl, rfl, rfl, rfl, rfl, rfl, rfl, rfl, rfl, rfl, rfl, rfl⟩

@[simp] theorem enterKeepWarm_frame (s : State) :
    s.enterKeepWarm.hzc = s.hzc ∧
    s.enterKeepWarm.stu = s.stu ∧
    s.enterKeepWarm.tck = s.tck ∧
    s.enterKeepWarm.act = s.act ∧
    s.enterKeepWarm.rqp = s.rqp ∧
    s.enterKeepWarm.choices = s.choices ∧
    s.enterKeepWarm.pending = s.pending := by
  simp [State.enterKeepWarm]

@[simp] theorem enterDormant_frame (s : State) :
    s.enterDormant.stu = s.stu ∧
    s.enterDormant.tck = s.tck ∧
    s.enterDormant.act = s.act ∧
    s.enterDormant.choices = s.choices ∧
    s.enterDormant.pending = s.pending := by
  unfold State.enterDormant; dsimp only
  (repeat' split) <;> simp

@[simp] theorem startMeter_frame (f : FrontEnd) (s : State) :
    (s.startMeter f).alc = s.alc ∧
    (s.startMeter f).hzc = s.hzc ∧
    (s.startMeter f).imon = s.imon ∧
    (s.startMeter f).stu = s.stu ∧
    (s.startMeter f).tck = s.tck ∧
    (s.startMeter f).act = s.act ∧
    (s.startMeter f).rqp = s.rqp ∧
    (s.startMeter f).pwc = s.pwc ∧
    (s.startMeter f).choices = s.choices ∧
    (s.startMeter f).pending = s.pending := by
  simp [State.startMeter]

@[simp] theorem wake_frame (c : WakeCause) (f : FrontEnd) (s : State) :
    (s.wake c f).hzc = s.hzc ∧
    (s.wake c f).stu = s.stu ∧
    (s.wake c f).tck = s.tck ∧
    (s.wake c f).act = s.act ∧
    (s.wake c f).rqp = s.rqp ∧
    (s.wake c f).choices = s.choices ∧
    (s.wake c f).pending = s.pending := by
  unfold State.wake; dsimp only
  (repeat' split) <;> simp

@[simp] theorem endResumption_frame (f : FrontEnd) (t : ZoneTemps) (s : State) :
    (s.endResumption f t).stu = s.stu ∧
    (s.endResumption f t).tck = s.tck ∧
    (s.endResumption f t).act = s.act ∧
    (s.endResumption f t).rqp = s.rqp ∧
    (s.endResumption f t).choices = s.choices ∧
    (s.endResumption f t).pending = s.pending := by
  simp [State.endResumption]

@[simp] theorem deriveInlet_frame (b : Option CableClass) (s : State) :
    (s.deriveInlet b).alc = s.alc ∧
    (s.deriveInlet b).hzc = s.hzc ∧
    (s.deriveInlet b).imon = s.imon ∧
    (s.deriveInlet b).stu = s.stu ∧
    (s.deriveInlet b).mtr = s.mtr ∧
    (s.deriveInlet b).tck = s.tck ∧
    (s.deriveInlet b).act = s.act ∧
    (s.deriveInlet b).rqp = s.rqp ∧
    (s.deriveInlet b).pwc = s.pwc ∧
    (s.deriveInlet b).choices = s.choices ∧
    (s.deriveInlet b).pending = s.pending := by
  unfold State.deriveInlet
  (repeat' split) <;> simp

@[simp] theorem endStarting_frame (ohms : Nat) (f : FrontEnd) (t : ZoneTemps) (s : State) :
    (s.endStarting ohms f t).stu = s.stu ∧
    (s.endStarting ohms f t).tck = s.tck ∧
    (s.endStarting ohms f t).act = s.act ∧
    (s.endStarting ohms f t).rqp = s.rqp ∧
    (s.endStarting ohms f t).choices = s.choices ∧
    (s.endStarting ohms f t).pending = s.pending := by
  simp [State.endStarting]

@[simp] theorem answer_frame (r : Reply) (s : State) :
    (s.answer r).inl = s.inl ∧
    (s.answer r).alc = s.alc ∧
    (s.answer r).hzc = s.hzc ∧
    (s.answer r).imon = s.imon ∧
    (s.answer r).stu = s.stu ∧
    (s.answer r).mtr = s.mtr ∧
    (s.answer r).tck = s.tck ∧
    (s.answer r).act = s.act ∧
    (s.answer r).atn = s.atn ∧
    (s.answer r).pwc = s.pwc ∧
    (s.answer r).work = s.work ∧
    (s.answer r).choices = s.choices ∧
    (s.answer r).pending = s.pending := by
  exact ⟨rfl, rfl, rfl, rfl, rfl, rfl, rfl, rfl, rfl, rfl, rfl, rfl, rfl⟩

end Sys2Proof.Machine
end

