-- ==== Sys2Proof/Laws/Passes.lean ====
section
/-! SUPPORT. What carries over the passes of one event (`State.settle`): a property that one pass, the zones'
coming in line and the ends of windows keep, the whole of an event's passes keeps. -/

namespace Sys2Proof.Machine

/-- What a property must survive to survive the passes of an event. -/
structure Survives (P : State → Prop) : Prop where
  pass    : ∀ s, P s → P s.pass
  inLine  : ∀ s, P s → P s.zonesInLine
  work    : ∀ s f, P s → P (s.modWork f)
  choice  : ∀ s, P s → P s.nextChoice
  unheld  : ∀ s, P s → P (s.modAlc fun a => { a with held := false })
  restart : ∀ s n, P s → P (s.modImon fun m =>
    { m with cycle := m.cycle.restart, phaseMs := 0, discards := n, sumP := 0, sumN := 0, samples := 0 })

variable {P : State → Prop}

theorem windowEnd_survives (h : Survives P) {s : State} (hs : P s) : P s.windowEnd := by
  have h1 := h.unheld s hs
  simp only [State.windowEnd]
  split
  · split
    · split
      · exact h.inLine _ (h.pass _ (h.choice _ h1))
      · exact h.inLine _ (h.work _ _ (h.choice _ h1))
    · exact h.inLine _ (h.work _ _ h1)
  · exact h.inLine _ hs

theorem discardSample_survives (h : Survives P) {s : State} (hs : P s) : P s.discardSample := by
  unfold State.discardSample
  split
  · exact windowEnd_survives h (h.restart s _ hs)
  · exact hs

theorem takeReports_survives (h : Survives P) {s : State} (hs : P s) : P s.takeReports := by
  unfold State.takeReports
  split
  · exact discardSample_survives h (h.work _ _ hs)
  · exact hs

theorem clearWork_survives (h : Survives P) {s : State} (hs : P s) : P s.clearWork :=
  h.work s (fun _ => Work.clear) hs

theorem passes_survives (h : Survives P) : (n : Nat) → {s : State} → P s → P (State.passes n s)
  | 0, _, hs => clearWork_survives h hs
  | n + 1, s, hs => by
    have h1 := takeReports_survives h hs
    simp only [State.passes]
    split
    · exact passes_survives h n (h.pass _ h1)
    · exact clearWork_survives h h1

/-- The passes of an event keep what survives one pass and one window's end. -/
theorem settle_survives (h : Survives P) {s : State} (hs : P s) : P s.settle := passes_survives h _ hs

/-- An event that reports and triggers nothing is settled as it stands. -/
theorem settle_idle {s : State} (h : s.work = Work.clear) : s.settle = s := by
  have hc : s.clearWork = s := by cases s; simp_all [State.clearWork]
  show State.passes (31 + 1) s = s
  simp [State.passes, State.takeReports, h, Work.clear]
  exact hc

/-! ### The flags between commands -/

theorem passes_work : (n : Nat) → (s : State) → (State.passes n s).work = Work.clear
  | 0, _ => rfl
  | n + 1, s => by
    simp only [State.passes]
    split
    · exact passes_work n _
    · rfl

@[simp] theorem settle_work (s : State) : s.settle.work = Work.clear := passes_work _ s

/-! ### Fields that no pass touches inside the blocks it works on -/

/-- ALC's settings, curve and report, and its timers (R18, R30, R31). -/
def Alloc.settings (a : Alloc) :=
  (a.ceiling, a.share, a.heatLimit, a.mask, a.curve, a.repTemp, a.repBms, a.repTime, a.repStale, a.staleMs,
    a.periodMs)

/-- INL's record but for state, enable, entry time and timers (R1, R2). -/
def Inlet.sensed (i : Inlet) :=
  (i.cls, i.pilot, i.duty, i.offered, i.accepted, i.runBand, i.runCount)

/-- A zone's settings and temperature (R44). -/
def Zone.settings (z : Zone) := (z.enabled, z.target, z.gain, z.pMax, z.priority, z.temp)

/-- IMON's record but for the phase in progress (R67, R86, R92). -/
def Insulation.results (m : Insulation) :=
  (m.shifted, m.uP0, m.uN0, m.uP1, m.uN1, m.vbus, m.rPos, m.rNeg, m.outcome, m.endTime, m.warnTh, m.faultTh,
    m.warnK, m.faultK, m.returnK, m.pos, m.neg, m.periodMs, m.faults, m.loc)

/-- An account but for its sticky flags (R145). -/
def Account.unstuck (a : Account) : Account := { a with sticky := 0 }

/-- ATN's floor stack, levels and IDs (R170, R171). -/
def Attention.settings (a : Attention) := (a.stack, a.sources.map fun r => (r.level, r.id))

@[simp] theorem raise_settings (src : Source) (d : Detail) (s : State) :
    (s.raise src d).atn.settings = s.atn.settings := by
  simp only [State.raise, modAtn_atn, Attention.settings, Prod.mk.injEq, true_and]
  refine Table.ext_get fun i => ?_
  simp only [Table.get_map, Table.get_modify]
  split <;> rfl

/-- A raise touches one source. -/
theorem raise_other (src : Source) (d : Detail) (s : State) {i : Fin 11} (h : i ≠ src.index) :
    (s.raise src d).atn.sources.get i = s.atn.sources.get i := by
  simp [State.raise, Table.get_modify_ne _ _ h]

/-- A raise sets the source's flag and its detail (R170). -/
@[simp] theorem raise_self (src : Source) (d : Detail) (s : State) :
    (s.raise src d).atn.sources.get src.index =
      { s.atn.sources.get src.index with flag := true, detail := some d } := by
  simp [State.raise]

end Sys2Proof.Machine
end

