-- ==== Sys2Proof/Laws/Queue.lean ====
section
/-! SUPPORT. What executing a request can do, and the lengths of what the frames carry. -/

namespace Sys2Proof.Machine

/-! ### Execution (R184, R185) -/

/-- Everything a request command can do: nothing when the oldest request is not its own, NOT_READY in
Starting, or the owner's work with its reply in the request's place. -/
theorem runRequest_cases (codes : Byte → Bool) (owner : List Byte → State → State × Reply) (s : State) :
    (s.queued codes = none ∧ s.runRequest codes owner = s) ∨
    (∃ p, s.queued codes = some p ∧ s.pwc.state = .starting ∧
      s.runRequest codes owner = s.answer (Reply.bare .notReady)) ∨
    (∃ p, s.queued codes = some p ∧ s.pwc.state ≠ .starting ∧
      s.runRequest codes owner = (owner p s).1.answer (owner p s).2) := by
  unfold State.runRequest
  cases h : s.queued codes with
  | none => simp
  | some p => by_cases hs : s.pwc.state = .starting <;> simp [hs]

theorem runRequest_serves {s : State} {c : Byte} {p : List Byte} (h : s.serves c p)
    (owner : List Byte → State → State × Reply) :
    s.runRequest (isCode c) owner = (owner p s).1.answer (owner p s).2 := by
  simp [State.runRequest, h.1, h.2]

theorem runRequest_of_none {s : State} {codes : Byte → Bool} (h : s.queued codes = none)
    (owner : List Byte → State → State × Reply) : s.runRequest codes owner = s := by
  simp [State.runRequest, h]

theorem runRequest_starting {s : State} {codes : Byte → Bool} {p : List Byte}
    (h : s.queued codes = some p) (hs : s.pwc.state = .starting)
    (owner : List Byte → State → State × Reply) :
    s.runRequest codes owner = s.answer (Reply.bare .notReady) := by
  simp [State.runRequest, h, hs]

/-- A property of the state that no answer touches holds after a request command when the owner keeps it. -/
theorem runRequest_keeps (P : State → Prop) (codes : Byte → Bool)
    (owner : List Byte → State → State × Reply) (s : State) (hs : P s)
    (hanswer : ∀ t r, P t → P (State.answer r t)) (howner : ∀ p, P (owner p s).1) :
    P (s.runRequest codes owner) := by
  rcases runRequest_cases codes owner s with ⟨-, h⟩ | ⟨p, -, -, h⟩ | ⟨p, -, -, h⟩ <;> rw [h]
  · exact hs
  · exact hanswer _ _ hs
  · exact hanswer _ _ (howner p)

/-- A request's wait: it has a place in the queue exactly when it is served or refused. -/
theorem queued_some {s : State} {codes : Byte → Bool} {p : List Byte} :
    s.queued codes = some p ↔
      s.portRuns = true ∧ ∃ tag code, nextRequest s.rqp.queue = some (tag, code, p) ∧ codes code = true := by
  unfold State.queued
  cases h : nextRequest s.rqp.queue with
  | none => simp
  | some x =>
    obtain ⟨tag, code, q⟩ := x
    by_cases hc : s.portRuns && codes code
    · simp only [hc, if_true]
      simp only [Bool.and_eq_true] at hc
      constructor
      · rintro ⟨rfl⟩; exact ⟨hc.1, tag, code, rfl, hc.2⟩
      · rintro ⟨-, t, c, e, -⟩; cases e; rfl
    · simp only [hc]
      simp only [Bool.and_eq_true] at hc
      constructor
      · intro h; cases h
      · rintro ⟨h1, t, c, e, h2⟩; cases e; exact absurd ⟨h1, h2⟩ hc

@[simp] theorem answerOldest_length (r : Reply) : (q : List Item) → (answerOldest r q).length = q.length
  | [] => rfl
  | .request _ _ _ :: rest => rfl
  | .response _ _ _ :: rest => by simp [answerOldest, answerOldest_length r rest]

/-- An answered queue holds the old items and the response. -/
theorem mem_answerOldest {r : Reply} {x : Item} : {q : List Item} → x ∈ answerOldest r q →
    x ∈ q ∨ ∃ tag, x = .response tag r.status r.payload
  | [], h => by simp [answerOldest] at h
  | .request tag _ _ :: rest, h => by
    simp only [answerOldest, List.mem_cons] at h
    rcases h with h | h
    · exact .inr ⟨tag, h⟩
    · exact .inl (List.mem_cons_of_mem _ h)
  | .response _ _ _ :: rest, h => by
    simp only [answerOldest, List.mem_cons] at h
    rcases h with h | h
    · exact .inl (h ▸ List.mem_cons_self)
    · rcases mem_answerOldest h with h | h
      · exact .inl (List.mem_cons_of_mem _ h)
      · exact .inr h

@[simp] theorem answer_rqp (s : State) (r : Reply) :
    (s.answer r).rqp = { s.rqp with queue := answerOldest r s.rqp.queue } := rfl

/-! ### Lengths of fields -/

@[simp] theorem be_length : (w n : Nat) → (be w n).length = w
  | 0, _ => rfl
  | w + 1, n => by simp [be, be_length w n]

@[simp] theorem beInt_length (w : Nat) (i : Int) : (beInt w i).length = w := by simp [beInt]

@[simp] theorem flagByte_length (b : Bool) : (flagByte b).length = 1 := by simp [flagByte]

@[simp] theorem causeBytes_length (c : CauseSet) : (causeBytes c).length = 3 := by simp [causeBytes]

@[simp] theorem optBytes_length (w : Nat) (x : Option Nat) : (optBytes w x).length = w := by
  simp [optBytes]

@[simp] theorem handle_bytes_length (h : Handle) : h.bytes.length = 2 := by simp [Handle.bytes]

@[simp] theorem handleBytes_length (h : Option Handle) : (handleBytes h).length = 3 := by
  cases h <;> simp [handleBytes]

@[simp] theorem config_bytes_length (c : HwConfig) : c.bytes.length = 10 := by simp [HwConfig.bytes]

theorem detail_fields_length (d : Detail) : d.fields.length ≤ 8 := by
  cases d <;> simp [Detail.fields]

@[simp] theorem detailBytes_length (d : Option Detail) : (detailBytes d).length = 8 := by
  cases d with
  | none => simp [detailBytes]
  | some d => have := detail_fields_length d; simp [detailBytes]; omega

@[simp] theorem sealFrame_length (body : List Byte) : (sealFrame body).length = body.length + 1 := by
  simp [sealFrame]

@[simp] theorem emptyFrame_length (st : Byte) : (emptyFrame st).length = 64 := by simp [emptyFrame]

theorem responseFrame_length {st : Byte} {tag : Nat} {code : Status} {p : List Byte}
    (h : p.length ≤ 59) : (responseFrame st tag code p).length = 64 := by
  simp [responseFrame]; omega

/-- R202: the last byte of a sealed frame is the check value of those before it. -/
theorem sealFrame_check (body : List Byte) :
    (sealFrame body).drop body.length = [crc ((sealFrame body).take body.length)] := by
  simp [sealFrame]

end Sys2Proof.Machine
end

