-- ==== Sys2Proof/Laws/Settled.lean ====
section
/-! SUPPORT. What the passes of an event leave alone inside the blocks they work on. -/

namespace Sys2Proof.Machine

/-! ### One pass -/

theorem takeFigures_alc (f : Figures) (held safety : Bool) (s : State) :
    (s.takeFigures f held safety).alc.settings = s.alc.settings := by
  simp only [State.takeFigures]
  (repeat' split) <;> simp [State.applyFigures, Alloc.settings]

theorem takeFigures_inl (f : Figures) (held safety : Bool) (s : State) :
    (s.takeFigures f held safety).inl.sensed = s.inl.sensed := by
  simp only [State.takeFigures]
  (repeat' split) <;> simp only [State.applyFigures, applyGrants_frame, modInl_inl, modAlc_inl,
    modWork_inl, Inlet.idleFollows] <;> (try split) <;> rfl

theorem setInlet_sensed (st : InletState) (s : State) : (s.setInlet st).inl.sensed = s.inl.sensed := rfl

@[simp] theorem enterInlet_inl (st : InletState) (s : State) : (s.enterInlet st).inl = (s.setInlet st).inl :=
  rfl

theorem enableDecision_sensed (g : Nat) (s : State) : (s.enableDecision g).inl.sensed = s.inl.sensed := by
  unfold State.enableDecision
  (repeat' split) <;> rfl

/-- A pass leaves ALC's settings, curve, report and timers (R32, R33). -/
theorem pass_alc (s : State) : s.pass.alc.settings = s.alc.settings := by
  simp only [State.pass, enableDecision_frame, raiseCauses_frame, stickCauses_frame, takeFigures_alc,
    modWork_alc]
  rfl

/-- A pass leaves what INL has sensed. -/
theorem pass_inl (s : State) : s.pass.inl.sensed = s.inl.sensed := by
  simp only [State.pass, enableDecision_sensed, raiseCauses_frame, stickCauses_frame, takeFigures_inl,
    modWork_inl]
  rfl

theorem inletChanged_atn (s : State) : s.inletChanged.atn.settings = s.atn.settings := by
  simp [State.inletChanged]

theorem enterInlet_atn (st : InletState) (s : State) :
    (s.enterInlet st).atn.settings = s.atn.settings := by
  simp [State.enterInlet, inletChanged_atn]

theorem enableDecision_atn (g : Nat) (s : State) :
    (s.enableDecision g).atn.settings = s.atn.settings := by
  unfold State.enableDecision
  (repeat' split) <;> simp [enterInlet_atn]

theorem raiseCauses_atn (s : State) : s.raiseCauses.atn.settings = s.atn.settings := by
  simp only [State.raiseCauses]
  split <;> simp

/-- A pass leaves ATN's floor stack, levels and IDs (R170, R171). -/
theorem pass_atn (s : State) : s.pass.atn.settings = s.atn.settings := by
  simp [State.pass, enableDecision_atn, raiseCauses_atn]

/-- A pass raises INLET and ALLOCATION alone (R13, R36). -/
theorem pass_other_source (s : State) {i : Fin 11} (h1 : i ≠ 5) (h2 : i ≠ 7) :
    s.pass.atn.sources.get i = s.atn.sources.get i := by
  have e : ∀ st (t : State), (t.enterInlet st).atn.sources.get i = t.atn.sources.get i := by
    intro st t
    simp only [State.enterInlet, State.inletChanged, trigger_frame]
    rw [raise_other _ _ _ (by exact h1)]
    rfl
  have d : ∀ g (t : State), (t.enableDecision g).atn.sources.get i = t.atn.sources.get i := by
    intro g t
    unfold State.enableDecision
    (repeat' split) <;> simp [e]
  have c : ∀ t : State, t.raiseCauses.atn.sources.get i = t.atn.sources.get i := by
    intro t
    simp only [State.raiseCauses]
    split
    · rfl
    · rw [raise_other _ _ _ (by exact h2)]
  simp [State.pass, d, c]

/-- A pass changes no account but for the Active account's sticky flags (R35, R165). -/
theorem pass_act (s : State) (i : Fin 16) :
    (s.pass.act.slots.get i).gen = (s.act.slots.get i).gen ∧
    (s.pass.act.slots.get i).acct.map Account.unstuck = (s.act.slots.get i).acct.map Account.unstuck := by
  have key : ∀ (c : CauseSet) (t : State), ((t.stickCauses c).act.slots.get i).gen = (t.act.slots.get i).gen ∧
      ((t.stickCauses c).act.slots.get i).acct.map Account.unstuck =
        (t.act.slots.get i).acct.map Account.unstuck := by
    intro c t
    unfold State.stickCauses
    split
    · exact ⟨rfl, rfl⟩
    · simp only [State.modAccount, modAct_act, Table.get_modify]
      split
      · refine ⟨rfl, ?_⟩
        cases (t.act.slots.get i).acct <;> rfl
      · exact ⟨rfl, rfl⟩
  have h := key s.passCauses ((s.recordPass.modWork fun w => { w with trigger := false, safety := false }).takeFigures
    s.passFigures s.passHeld s.passSafety)
  simpa [State.pass] using h

/-! ### Zones -/

@[simp] theorem zone_modZone (i j : Fin 6) (f : Zone → Zone) (s : State) :
    (s.modZone i f).zone j = if j = i then f (s.zone j) else s.zone j := by
  simp [State.zone, State.modZone, Table.get_modify]

theorem drive_settings (g : Nat) (z : Zone) : (z.drive g).settings = z.settings := by
  unfold Zone.drive; split <;> rfl

theorem inLine_settings (live : Bool) (z : Zone) : (z.inLine live).settings = z.settings := by
  unfold Zone.inLine
  (repeat' split) <;> rfl

@[simp] theorem applyGrants_hzc (g : Table 6 Nat) (s : State) :
    (s.applyGrants g).hzc = { s.hzc with zones := Table.ofFn fun i => (s.hzc.zones.get i).drive (g.get i) } := by
  simp only [State.applyGrants]
  split <;> rfl

theorem takeFigures_hzc (f : Figures) (held safety : Bool) (s : State) :
    (s.takeFigures f held safety).hzc = if held then s.hzc else
      { s.hzc with zones := Table.ofFn fun i => (s.hzc.zones.get i).drive (f.zones.get i) } := by
  simp only [State.takeFigures]
  (repeat' split) <;> simp [State.applyFigures]

/-- A held pass leaves every zone; an applied one drives its grant (R32, R33, R50). -/
theorem pass_zone (s : State) (i : Fin 6) :
    s.pass.zone i = if s.passHeld then s.zone i else (s.zone i).drive (s.passFigures.zones.get i) := by
  simp only [State.pass, State.zone, enableDecision_frame, raiseCauses_frame, stickCauses_frame,
    takeFigures_hzc]
  split <;> simp

theorem pass_zone_settings (s : State) (i : Fin 6) : (s.pass.zone i).settings = (s.zone i).settings := by
  rw [pass_zone]; split
  · rfl
  · exact drive_settings _ _

theorem pass_allowance (s : State) :
    s.pass.hzc.allowWh = s.hzc.allowWh ∧ s.pass.hzc.allowJ = s.hzc.allowJ := by
  simp only [State.pass, enableDecision_frame, raiseCauses_frame, stickCauses_frame, takeFigures_hzc]
  split <;> simp

/-- The zones' coming in line keeps every record or brings it in line (R52). -/
theorem zonesInLine_zone (s : State) (i : Fin 6) :
    s.zonesInLine.zone i = s.zone i ∨ s.zonesInLine.zone i = (s.zone i).inLine s.blocksRun := by
  unfold State.zonesInLine
  split
  · right; simp [State.zone, State.trigger]
  · left; rfl

theorem zonesInLine_zone_settings (s : State) (i : Fin 6) :
    (s.zonesInLine.zone i).settings = (s.zone i).settings := by
  rcases zonesInLine_zone s i with h | h <;> rw [h]
  exact inLine_settings _ _

theorem zonesInLine_allowance (s : State) :
    s.zonesInLine.hzc.allowWh = s.hzc.allowWh ∧ s.zonesInLine.hzc.allowJ = s.hzc.allowJ := by
  unfold State.zonesInLine
  split <;> exact ⟨rfl, rfl⟩

/-! ### The passes of an event -/

theorem settle_alc (s : State) : s.settle.alc.settings = s.alc.settings :=
  settle_survives (P := fun t => t.alc.settings = s.alc.settings)
    { pass := fun t h => (pass_alc t).trans h, inLine := fun t h => by simpa using h, work := fun _ _ h => h,
      choice := fun _ h => h, unheld := fun _ h => h, restart := fun _ _ h => h } rfl

theorem settle_inl (s : State) : s.settle.inl.sensed = s.inl.sensed :=
  settle_survives (P := fun t => t.inl.sensed = s.inl.sensed)
    { pass := fun t h => (pass_inl t).trans h, inLine := fun t h => by simpa using h, work := fun _ _ h => h,
      choice := fun _ h => h, unheld := fun _ h => h, restart := fun _ _ h => h } rfl

theorem settle_atn (s : State) : s.settle.atn.settings = s.atn.settings :=
  settle_survives (P := fun t => t.atn.settings = s.atn.settings)
    { pass := fun t h => (pass_atn t).trans h, inLine := fun t h => by simpa using h, work := fun _ _ h => h,
      choice := fun _ h => h, unheld := fun _ h => h, restart := fun _ _ h => h } rfl

theorem settle_other_source (s : State) {i : Fin 11} (h1 : i ≠ 5) (h2 : i ≠ 7) :
    s.settle.atn.sources.get i = s.atn.sources.get i :=
  settle_survives (P := fun t => t.atn.sources.get i = s.atn.sources.get i)
    { pass := fun t h => (pass_other_source t h1 h2).trans h, inLine := fun t h => by simpa using h,
      work := fun _ _ h => h, choice := fun _ h => h, unheld := fun _ h => h, restart := fun _ _ h => h } rfl

theorem settle_imon (s : State) : s.settle.imon.results = s.imon.results :=
  settle_survives (P := fun t => t.imon.results = s.imon.results)
    { pass := fun t h => by simpa using h, inLine := fun t h => by simpa using h, work := fun _ _ h => h,
      choice := fun _ h => h, unheld := fun _ h => h, restart := fun _ _ h => h } rfl

theorem settle_act (s : State) (i : Fin 16) :
    (s.settle.act.slots.get i).gen = (s.act.slots.get i).gen ∧
    (s.settle.act.slots.get i).acct.map Account.unstuck = (s.act.slots.get i).acct.map Account.unstuck :=
  settle_survives (P := fun t => (t.act.slots.get i).gen = (s.act.slots.get i).gen ∧
      (t.act.slots.get i).acct.map Account.unstuck = (s.act.slots.get i).acct.map Account.unstuck)
    { pass := fun t h => ⟨(pass_act t i).1.trans h.1, (pass_act t i).2.trans h.2⟩,
      inLine := fun t h => by simpa using h, work := fun _ _ h => h, choice := fun _ h => h,
      unheld := fun _ h => h, restart := fun _ _ h => h } ⟨rfl, rfl⟩

theorem settle_zone_settings (s : State) (i : Fin 6) : (s.settle.zone i).settings = (s.zone i).settings :=
  settle_survives (P := fun t => (t.zone i).settings = (s.zone i).settings)
    { pass := fun t h => (pass_zone_settings t i).trans h,
      inLine := fun t h => (zonesInLine_zone_settings t i).trans h, work := fun _ _ h => h,
      choice := fun _ h => h, unheld := fun _ h => h, restart := fun _ _ h => h } rfl

theorem settle_allowance (s : State) :
    s.settle.hzc.allowWh = s.hzc.allowWh ∧ s.settle.hzc.allowJ = s.hzc.allowJ :=
  settle_survives (P := fun t => t.hzc.allowWh = s.hzc.allowWh ∧ t.hzc.allowJ = s.hzc.allowJ)
    { pass := fun t h => ⟨(pass_allowance t).1.trans h.1, (pass_allowance t).2.trans h.2⟩,
      inLine := fun t h => ⟨(zonesInLine_allowance t).1.trans h.1, (zonesInLine_allowance t).2.trans h.2⟩,
      work := fun _ _ h => h, choice := fun _ h => h, unheld := fun _ h => h, restart := fun _ _ h => h }
    ⟨rfl, rfl⟩

end Sys2Proof.Machine
end

