-- ==== Sys2Proof/Laws/Tick.lean ====
section
/-! SUPPORT. What one ms does, block by block (DESIGN CHOICE, assumption 2). -/

namespace Sys2Proof.Machine

@[simp] theorem tick_frame (s : State) : s.tick.hzc = s.hzc ∧ s.tick.stu = s.stu ∧ s.tick.act = s.act ∧
    s.tick.atn = s.atn ∧ s.tick.work = s.work ∧ s.tick.choices = s.choices ∧ s.tick.pending = s.pending := by
  simp only [State.tick, State.tickBlocks, State.tickMeter, State.tickParked]
  (repeat' split) <;> simp

@[simp] theorem tick_tck (s : State) : s.tick.tck = s.tck.tick := by
  simp only [State.tick, State.tickBlocks, State.tickMeter, State.tickParked]
  (repeat' split) <;> simp

@[simp] theorem tick_inl (s : State) : s.tick.inl = s.inl.tick s.alc.force.gridGrant := by
  simp only [State.tick, State.tickBlocks, State.tickMeter, State.tickParked]
  (repeat' split) <;> simp

@[simp] theorem tick_rqp (s : State) : s.tick.rqp = { s.rqp with sup := s.rqp.sup.tick } := by
  simp only [State.tick, State.tickBlocks, State.tickMeter, State.tickParked]
  (repeat' split) <;> simp

/-- The power state decides what runs; the other timers do not move it. -/
theorem runs_congr {s t : State} (h : t.pwc = s.pwc) :
    t.blocksRun = s.blocksRun ∧ t.meterRuns = s.meterRuns ∧ t.parked = s.parked ∧
    t.passPeriod = s.passPeriod ∧ t.cyclePeriod = s.cyclePeriod := by
  simp [State.blocksRun, State.meterRuns, State.parked, State.passPeriod, State.cyclePeriod, h]

@[simp] theorem tick_pwc (s : State) : s.tick.pwc = if s.parked then s.pwc.tickWake else s.pwc := by
  simp only [State.tick, State.tickBlocks, State.tickMeter, State.tickParked]
  (repeat' split) <;> simp_all [State.parked]

@[simp] theorem tick_mtr (s : State) : s.tick.mtr = if s.meterRuns then s.mtr.tickSpan else s.mtr := by
  simp only [State.tick, State.tickBlocks, State.tickMeter, State.tickParked]
  (repeat' split) <;> simp_all [State.meterRuns]

@[simp] theorem tick_imon (s : State) :
    s.tick.imon = if s.blocksRun then s.imon.tickPeriod.tickPhase else s.imon := by
  simp only [State.tick, State.tickBlocks, State.tickMeter, State.tickParked]
  (repeat' split) <;> simp_all [State.blocksRun]

@[simp] theorem tick_alc (s : State) :
    s.tick.alc = if s.blocksRun then s.alc.tickStale.tickPeriod s.passPeriod else s.alc.tickStale := by
  simp only [State.tick, State.tickBlocks, State.tickMeter, State.tickParked]
  (repeat' split) <;> simp_all [State.blocksRun, State.passPeriod]

end Sys2Proof.Machine
end

