-- ==== Sys2Proof/Tests/Slice0.lean ====
section
/-! SUPPORT. Tests. The first part refuses an ill-formed command for each check of WellFormed; the second
takes expected results from the manual's worked cases, each named; the third shows, for each statement with
hypotheses, states that meet them (`witness_...`). -/

-- One proof after the other: each waits for the kernel, and in parallel each holds a thread's stack.
set_option Elab.async false

namespace Sys2Proof.Machine.Tests

/-! ### Ill-formed commands, one for each check of WellFormed -/

def dead : PhaseReading := ⟨0, 0, 0⟩
def dark : FrontEnd := ⟨dead, dead, dead⟩
def cold : ZoneTemps := ⟨0, 0, 0, 0, 0, 0⟩

theorem test_wf_accepts_bounds :
    Instr.wf (.quickReading ⟨⟨65535, 65535, -2147483648⟩, ⟨0, 0, 2147483647⟩, dead⟩) = true ∧
    Instr.wf (.zoneSensorReading ⟨-32768, 32767, 0, 0, 0, 0⟩) = true ∧
    Instr.wf (.pilotWindowEnd (.periods 1 1)) = true ∧ Instr.wf (.pilotWindowEnd .noFullPeriod) = true := by
  decide

theorem test_wf_refuses_phase_voltage : Instr.wf (.quickReading ⟨⟨65536, 0, 0⟩, dead, dead⟩) = false := by
  decide

theorem test_wf_refuses_phase_current : Instr.wf (.quickReading ⟨dead, ⟨0, 65536, 0⟩, dead⟩) = false := by
  decide

theorem test_wf_refuses_phase_power :
    Instr.wf (.quickReading ⟨dead, dead, ⟨0, 0, 2147483648⟩⟩) = false := by decide

theorem test_wf_refuses_front_end_of_other_commands :
    Instr.wf (.proximityReading 0 ⟨⟨65536, 0, 0⟩, dead, dead⟩) = false ∧
    Instr.wf (.wakeLineEdge .rising ⟨⟨65536, 0, 0⟩, dead, dead⟩) = false ∧
    Instr.wf (.wakeTimerExpiry ⟨⟨65536, 0, 0⟩, dead, dead⟩) = false ∧
    Instr.wf (.resumptionEnd ⟨⟨65536, 0, 0⟩, dead, dead⟩ cold) = false ∧
    Instr.wf (.startingEnd 0 ⟨⟨65536, 0, 0⟩, dead, dead⟩ cold) = false := by decide

theorem test_wf_refuses_phase_energy :
    Instr.wf (.clockAdvance ⟨2147483648, 0, 0⟩) = false ∧
    Instr.wf (.clockAdvance ⟨0, -2147483649, 0⟩) = false ∧
    Instr.wf (.clockAdvance ⟨0, 0, 2147483648⟩) = false := by decide

theorem test_wf_refuses_zone_temperature :
    Instr.wf (.zoneSensorReading ⟨32768, 0, 0, 0, 0, 0⟩) = false ∧
    Instr.wf (.zoneSensorReading ⟨0, 0, 0, 0, 0, -32769⟩) = false ∧
    Instr.wf (.resumptionEnd dark ⟨0, 0, 32768, 0, 0, 0⟩) = false ∧
    Instr.wf (.startingEnd 0 dark ⟨0, 0, 0, 32768, 0, 0⟩) = false := by decide

theorem test_wf_refuses_pole_voltage :
    Instr.wf (.poleVoltageReading 32768 0) = false ∧ Instr.wf (.poleVoltageReading 0 (-32769)) = false := by
  decide

theorem test_wf_refuses_pilot_window :
    Instr.wf (.pilotWindowEnd (.periods 0 0)) = false ∧
    Instr.wf (.pilotWindowEnd (.periods 2 1)) = false := by decide

/-! ### Small states -/

/-- The state a command leaves. -/
def after (c : Instr) (s : State) : State :=
  match exec c s with
  | .next t => t
  | .fault _ => s
  | .refused _ => s

/-- The port holds one request, with tag 1. -/
def asking (c : Byte) (p : List Byte) (s : State) : State :=
  { s with rqp := { s.rqp with queue := [.request 1 c p] } }

/-- The oldest item's status and payload, once it is a response. -/
def reply (s : State) : Option (Status × List Byte) :=
  match s.rqp.queue with
  | .response _ st p :: _ => some (st, p)
  | _ => none

/-- A command's effect where the port holds its request. -/
def asked (c : Instr) (code : Byte) (p : List Byte) (s : State) : State := after c (asking code p s)

/-- Section 9.13: the account in slot 5, generation 1. -/
def payer : Account :=
  { state := .active, token := 7, tariff := 2, pending := none, energyCap := none,
    costCap := some 30000000, totalWh := 41250, totalJ := 3000, heatWh := 12480, heatJ := 1000,
    costEnergy := 12375000, costIdle := 0, idleSec := 0, idleMin := 0, graceUsed := 0, hasDrawn := true,
    sticky := 0, capReached := false, satTotal := false, satEnergy := false, satIdle := false,
    reason := none, opened := 0, firstActive := some 0, closed := none, statement := none }

/-- The part in Active, configured, its clock set, with tariff 2 of section 9.13, named once. -/
def live : State :=
  { State.reset with
    pwc := { State.reset.pwc with state := .active }
    tck := { State.reset.tck with
      wall := 86699, isSet := true,
      tariffs := State.reset.tck.tariffs.set 2 ⟨[⟨0, 300⟩], 40000, 2, 1⟩ }
    rqp := { State.reset.rqp with configured := true } }

/-- A slot filled. -/
def holding (i : Fin 16) (g : Nat) (a : Account) (s : State) : State :=
  { s with act := ⟨s.act.slots.set i ⟨g, some a⟩⟩ }

/-- A zone replaced. -/
def zoned (i : Fin 6) (z : Zone) (s : State) : State := s.modZone i fun _ => z

/-- A zone that heats. -/
def heating (target temp : Int) (gain pMax priority : Nat) : Zone :=
  { Zone.reset with
    enabled := true, target := target, gain := gain, pMax := pMax, priority := priority, temp := temp,
    state := .heating, demand := min pMax (gain * (target - temp).toNat), contactor := true }

/-- R30: the example curve. -/
def exampleCurve : List CurvePoint := [⟨-200, 0⟩, ⟨0, 100⟩, ⟨100, 350⟩, ⟨400, 350⟩, ⟨550, 0⟩]

/-- A phase of the cycle after some ms. -/
def phase (c : Cycle) (ms : Nat) (s : State) : State :=
  { s with imon := { s.imon with cycle := c, phaseMs := ms } }

/-- The inlet in another state. -/
def inlet (st : InletState) (s : State) : State := { s with inl := { s.inl with state := st } }

/-- Section 2.10: the van at a public point, three phases. -/
def session : State :=
  zoned 0 (heating 120 20 20 3000 0) <| zoned 1 (heating 120 20 15 2000 0) <|
  holding 5 1 payer
  { live with
    inl := { live.inl with
      state := .drawing, cls := some .c, accepted := some .c, pilot := true, duty := 533, offered := 319,
      enable := true }
    alc := { live.alc with
      ceiling := 160, share := 300, curve := exampleCurve, repTemp := 20, repBms := 400,
      repStale := false, periodMs := 100 }
    imon := { live.imon with
      vbus := 3600, pos := ⟨.normal, some .clear, 0, 0, 0⟩, neg := ⟨.normal, some .clear, 0, 0, 0⟩ }
    mtr := { live.mtr with n := 3, vph := 2300, lastIndex := some 96 }
    rqp := { live.rqp with sup := .armed 1000 } }

/-- That van once a pass has put its figures in force. -/
def charging : State := after .periodicPass session

/-! ### Worked cases: allocation and zones -/

/-- Section 2.10, the record after the pass. -/
theorem test_worked_pass :
    charging.alc.grid = ⟨160, 11040, 10377, 5400, 3500⟩ ∧ charging.alc.force.source = .grid ∧
    charging.alc.force.zones.items = [2000, 1500, 0, 0, 0, 0] ∧ charging.alc.chargerCmd = 247 ∧
    charging.alc.causes = Cause.ceiling.only ||| Cause.chargerAc.only ||| Cause.accept.only ∧
    (charging.zone 0).duty = 666 ∧ (charging.zone 1).duty = 750 := by decide +kernel

/-- R30, the table of the example curve. -/
theorem test_curve :
    [-300, -100, 20, 250, 450, 600].map (curveAt exampleCurve) = [0, 50, 150, 350, 233, 0] := by
  decide +kernel

/-- Section 3.3: four zones on 2600 W. -/
theorem test_distribution :
    let z : List ZoneInput := [⟨.heating, 1000⟩, ⟨.off, 0⟩, ⟨.heating, 1500⟩, ⟨.off, 0⟩,
      ⟨.requested, 800⟩, ⟨.requested, 600⟩]
    let x := { PassInputs.zero with zones := ⟨z, rfl⟩ }
    (x.zoneGrants ⟨[2, 0, 5, 0, 5, 0], rfl⟩ 2600).items = [300, 0, 1500, 0, 800, 0] := by decide +kernel

/-- Section 3.12, the first two rows: Write Zone of zone 4, with an ample budget at the pass it triggers. -/
theorem test_write_zone_then_pass :
    let s := zoned 3 { Zone.reset with temp := -80 } (zoned 0 Zone.reset (zoned 1 Zone.reset session))
    let t := asked .writeZone 0x20 ([4, 1] ++ beInt 2 150 ++ be 2 20 ++ be 2 2500 ++ [3]) s
    (t.zone 3).state = .heating ∧ (t.zone 3).demand = 2500 ∧ (t.zone 3).grant = 2500 ∧
    (t.zone 3).duty = 1000 ∧ (t.zone 3).contactor = true := by decide +kernel

/-- Section 3.12: a reading of 139 in Holding, target 150, k 20, and one of 600. -/
theorem test_zone_readings :
    let z := { heating 150 150 20 2500 3 with state := .holding }
    let t := after (.zoneSensorReading ⟨0, 0, 0, 139, 0, 0⟩) (zoned 3 z session)
    let u := after (.zoneSensorReading ⟨0, 0, 0, 600, 0, 0⟩) t
    (t.zone 3).state = .heating ∧ (t.zone 3).demand = 220 ∧ (t.zone 3).duty = 88 ∧
    (u.zone 3).state = .faulted ∧ (u.zone 3).contactor = false ∧
    (asked .resetZone 0x22 [4] u).rqp.queue = [.response 1 .state []] := by decide +kernel

/-- Section 3.12, its close: once the readings are below 600, a Reset Zone is accepted. -/
theorem test_reset_zone :
    let z := { heating 150 590 20 2500 3 with state := .faulted, reason := some .overTemperature }
    (asked .resetZone 0x22 [4] (zoned 3 z live)).zone 3 =
      { z with state := .off, enabled := false, demand := 0, contactor := false, reason := none } := by
  decide +kernel

/-- Section 3.8: three seconds of 3000 W on 2 Wh. -/
def allowing (j : Nat) : State :=
  { live with
    pwc := { live.pwc with state := .keepWarm }
    tck := { live.tck with secondMs := 1000 }
    hzc := { (zoned 0 (heating 120 20 100 6000 0) live).hzc with allowWh := j / 3600, allowJ := j % 3600 }
    alc := { live.alc with heatLimit := 3000, force := { Figures.zero with hGrant := 3000 } } }

theorem test_allowance_runs_out :
    let s1 := after (.clockAdvance ⟨0, 0, 0⟩) (allowing 7200)
    let s3 := after (.clockAdvance ⟨0, 0, 0⟩) (allowing 1200)
    s1.hzc.allowWh = 1 ∧ s1.hzc.allowJ = 600 ∧ s3.hzc.allowWh = 0 ∧ s3.hzc.allowJ = 0 ∧
    (s3.atn.sources.get 8).detail = some (.zone none .allowanceExhausted) ∧ s3.alc.force.hGrant = 0 := by
  decide +kernel

/-! ### Worked cases: the inlet -/

/-- Section 1.12: the fifth reading of 1500 Ω plugs, class B; a duty of 267 permille then offers 16.0 A. -/
theorem test_plug_and_offer :
    let s := { live with inl := { live.inl with runBand := some .b, runCount := 4 } }
    let t := after (.proximityReading 1500 dark) s
    let u := after (.pilotWindowEnd (.periods 267 1000)) t
    t.inl.state = .plugged ∧ t.inl.cls = some .b ∧ u.inl.state = .offered ∧ u.inl.duty = 267 ∧
    u.inl.offered = 160 := by decide +kernel

/-- Section 1.12, a supply that does not let go. -/
theorem test_idle_release_then_fault :
    let s := { session with inl := { session.inl with idleMs := 30000 } }
    let t := after .idleTimerExpiry s
    let u := after .pausingTimerExpiry { t with inl := { t.inl with pausingMs := 3000 } }
    t.inl.state = .pausing ∧ t.inl.enable = false ∧ t.alc.chargerCmd = 0 ∧ u.inl.state = .faulted ∧
    u.act.activeSlot = some 5 := by decide +kernel

/-! ### Worked cases: insulation -/

/-- R75: the weak negative pole. The Shift means are brought by their sums over two readings. -/
def weak : State :=
  { session with imon := { session.imon with
      cycle := .shiftSample, phaseMs := 500, shifted := some .pos, uP0 := 3349, uN0 := 251, sumP := 4966,
      sumN := 2234, samples := 2 } }

theorem test_weak_pole :
    let t := after .shiftSampleEnd weak
    t.imon.rNeg = 149 ∧ t.imon.rPos = 1988 ∧ t.imon.warnK = 180 ∧ t.imon.faultK = 36 ∧
    t.imon.returnK = 198 ∧ t.imon.neg = ⟨.normal, some .warning, 1, 0, 0⟩ ∧ t.imon.cycle = .baseSettle := by
  decide +kernel

/-- Section 4.9, the sequence of the weak pole at 8 s: NEG reaches Warning, a record is raised, locating
isolates the first connected zone, and the pass halves the limit. -/
theorem test_warning_confirmed :
    let s := { weak with imon := { weak.imon with neg := ⟨.normal, some .warning, 1, 0, 0⟩ } }
    let t := after .shiftSampleEnd s
    t.imon.neg = ⟨.warning, some .warning, 2, 0, 0⟩ ∧ t.alc.grid.iLim = 80 ∧
    (t.zone 0).state = .isolated ∧ t.imon.loc.current = some 0 ∧ t.imon.loc.candidates = [1] ∧
    (t.imon.faults.get 0).map FaultRec.lowestR = some 149 ∧
    (t.atn.sources.get 1).detail = some (.faultSlot 0) := by decide +kernel

/-- R76, the table of derived thresholds. -/
theorem test_thresholds :
    ([2000, 3600, 4000, 5000, 500].map fun v =>
      let m := { Insulation.reset with vbus := v, samples := 1 }.evaluate 0 0
      [m.warnK, m.faultK, m.returnK]) =
    [[100, 20, 110], [180, 36, 198], [200, 40, 220], [250, 50, 275], [25, 5, 27]] := by decide +kernel

/-- Section 5.4 at 20 s: zone 4 explains NEG; the pole's record merges into the Resolved record of zone 4. -/
theorem test_locating_merge :
    let old : FaultRec := ⟨.zone 3, .resolved, .warning, 120, 5, 6, 1⟩
    let new : FaultRec := ⟨.pole .neg, .acknowledged, .warning, 149, 86600, 86690, 1⟩
    let s := zoned 3 { heating 120 20 20 3000 0 with
        state := .isolated, resume := some .heating, demand := 0, contactor := false }
      { weak with imon := { weak.imon with
          neg := ⟨.warning, some .warning, 2, 0, 0⟩
          faults := (weak.imon.faults.set 0 (some old)).set 1 (some new)
          loc := ⟨some .neg, [], some 3, 2, none, .none, none, 0⟩
          sumP := 4966, sumN := 30 } }
    let t := after .shiftSampleEnd s
    t.imon.faults.get 0 = some ⟨.zone 3, .acknowledged, .warning, 120, 5, 86699, 2⟩ ∧
    t.imon.faults.get 1 = none ∧ t.imon.loc.outcome = .found ∧ (t.zone 3).state = .faulted ∧
    (t.atn.sources.get 2).detail = some (.faultSlot 0) := by decide +kernel

/-! ### Worked cases: stops -/

/-- Section 6.8 before the stop. -/
def depot : State :=
  zoned 0 (heating 120 20 20 3000 0) <| zoned 3 (heating 150 20 20 3000 0) <|
  zoned 5 { Zone.reset with enabled := true, target := 100, state := .faulted, reason := some .overTemperature } <|
  zoned 1 Zone.reset
  { (holding 3 7 payer (holding 5 1 { payer with state := .opened, token := 8 } session)) with
    alc := { session.alc with ceiling := 200, share := 400 }
    stu := ⟨4, none, false⟩ }

def stopped : State := asked .stop 0x30 [] depot

/-- Section 6.8: the bank of the stop. -/
theorem test_stop_banks :
    stopped.stu.bank.map (fun c => (c.epoch, c.targets.items, c.enabled.items)) =
      some (5, [120, 0, 0, 150, 0, 100], [true, false, false, true, false, true]) ∧
    stopped.stu.bank.map (fun c => (c.ceiling, c.share, c.handle)) = some (200, 400, some ⟨3, 7⟩) := by
  decide +kernel

/-- Section 6.8: what the stop leaves. -/
theorem test_stop_acts :
    stopped.act.activeSlot = none ∧ stopped.inl.state = .pausing ∧ stopped.alc.chargerCmd = 0 ∧
    (stopped.zone 0).state = .off ∧ (stopped.zone 5).state = .faulted ∧
    (stopped.zone 5).enabled = false := by decide +kernel

/-- R106: a stop inside a quiet window discards the sample, though no contactor moves. -/
theorem test_stop_discards :
    let t := asked .stop 0x30 [] (phase .shiftSample 100 live)
    t.imon.cycle = .shiftSettle ∧ t.imon.discards = 1 ∧
    (asked .stop 0x30 [] (phase .shiftSettle 100 live)).imon.discards = 0 := by decide +kernel

/-- Section 6.8: the ceiling lowered after the stop, and the supply open, before the Resume. -/
def resumed : State :=
  asked .resume 0x31 [] { stopped with
    alc := { stopped.alc with ceiling := 100 }
    mtr := { stopped.mtr with n := 0, vph := 0 }
    inl := { stopped.inl with state := .offered } }

/-- Section 6.8: the accepted Resume. -/
theorem test_resume_restores :
    resumed.alc.ceiling = 200 ∧ resumed.act.activeSlot = some 3 ∧ resumed.stu.bank = none ∧
    (resumed.zone 3).state.connected = true ∧ (resumed.zone 5).state = .faulted ∧
    resumed.inl.state = .ready ∧ reply resumed = some (.ok, [0, 5, 2, 0, 1, 3, 7, 0]) := by decide +kernel

def earlier : Context :=
  ⟨9, .request, none, Table.replicate 6 false, Table.replicate 6 0, 320, 300, 0⟩

/-- Section 6.9: a stop that finds the bank full. -/
theorem test_stop_lost_to_overflow :
    (asked .stop 0x30 [] { depot with stu := ⟨9, some earlier, false⟩ }).stu = ⟨10, some earlier, true⟩ := by
  decide +kernel

/-- Section 6.9: the Resume that POS at Fault refuses. -/
theorem test_resume_refused :
    reply (asked .resume 0x31 [] { depot with
      stu := ⟨10, some earlier, true⟩
      imon := { depot.imon with pos := ⟨.fault, none, 2, 2, 0⟩ } }) = some (.state, [1, 3, 1]) := by
  decide +kernel

/-! ### Worked cases: metering, time, accounts -/

/-- The second has passed: the next CLOCK_ADVANCE takes a tick. -/
def due (s : State) : State := { s with tck := { s.tck with secondMs := 1000 } }

/-- Section 7.6: the tick of 3160, 3150 and 3158 J. -/
def ticked : State := after (.clockAdvance ⟨3160, 3150, 3158⟩) (due charging)

theorem test_worked_tick :
    ticked.mtr.last.map (fun r => (r.t, r.total, r.heat, r.target, r.crossing)) =
      some (86700, 9468, 3723, some ⟨5, 1⟩, false) := by decide +kernel

/-- Section 7.6, its close: phase 3 feeds back 35 J. -/
theorem test_tick_clamps :
    (after (.clockAdvance ⟨3160, 3150, -35⟩) (due charging)).mtr.last.map (fun r => (r.total, r.heat)) =
      some (6310, 2481) := by decide +kernel

/-- Section 9.13: the account after that tick. -/
theorem test_worked_delivery :
    (ticked.act.slots.get 5).acct.map (fun a => (a.totalWh, a.totalJ, a.heatWh, a.heatJ, a.costEnergy)) =
      some (41253, 1668, 12481, 1123, 12375900) := by decide +kernel

/-- Section 9.13: Close after the idle fee. -/
def closed : State :=
  asked .closeAccount 0x4F [5, 1] (holding 5 1 { payer with
    totalWh := 41253, totalJ := 1668, heatWh := 12481, heatJ := 1123, costEnergy := 12375900,
    costIdle := 40000, idleSec := 20, idleMin := 1, graceUsed := 2 } session)

theorem test_statement :
    ((closed.act.slots.get 5).acct.bind Account.statement).map
      (fun x => (x.rounded, x.totalWh, x.totalJ, x.idleMin)) = some (1242, 41253, 1668, 1) := by
  decide +kernel

/-- Section 9.13: Retire frees the slot with generation 2. -/
theorem test_retire :
    let s := asked .retireAccount 0x50 [5, 1] closed
    s.act.slots.get 5 = ⟨2, none⟩ ∧ (s.tck.tariffs.get 2).refs = 0 ∧
    reply (asked .readAccount 0x4B [5, 1, 0] s) = some (.stale, [2]) := by decide +kernel

/-- Section 9.13: the third idle minute, past a grace of 2. -/
theorem test_idle_minute :
    let s := holding 5 1 { payer with idleSec := 59, graceUsed := 2 }
      { session with inl := { session.inl with state := .offered } }
    ((after (.clockAdvance ⟨0, 0, 0⟩) (due s)).act.slots.get 5).acct.map
      (fun a => (a.idleSec, a.graceUsed, a.idleMin, a.costIdle)) = some (0, 2, 1, 40000) := by
  decide +kernel

/-- Section 9.14, tick 1. -/
theorem test_cap_reached :
    let s := holding 5 1 { payer with totalWh := 19, heatWh := 0, energyCap := some 20 } session
    let t := after (.clockAdvance ⟨2500, 0, 0⟩) (due s)
    (t.act.slots.get 5).acct.map (fun a => (a.totalWh, a.totalJ, a.capReached)) = some (20, 1900, true) ∧
    t.alc.chargerCmd = 0 ∧
    (t.atn.sources.get 6).detail = some (.account ⟨5, 1⟩ .capReached) := by decide +kernel

/-- An Offered van with battery heat to give, in a Sample phase with a held pass; its next idle minute takes
cost_idle past its maximum. -/
def saturating : State :=
  due (phase .baseSample 100 (holding 5 1
    { payer with idleSec := 59, graceUsed := 2, costIdle := 999999960000 }
    { inlet .offered session with
      alc := { session.alc with held := true, heatLimit := 1500 }
      hzc := { session.hzc with allowWh := 4000 } }))

/-- R164: the pass of a newly saturated cost_idle is a safety pass: the window does not hold it. -/
theorem test_saturation_passes_at_once :
    let t := after (.clockAdvance ⟨0, 0, 0⟩) saturating
    (t.act.slots.get 5).acct.map Account.satIdle = some true ∧ t.alc.held = false ∧
    t.alc.force.hGrant = 1500 ∧ t.imon.discards = 1 := by decide +kernel

/-- Section 9.15. -/
theorem test_total_saturates :
    let a := { payer with totalWh := 99999998, heatWh := 99999998, heatJ := 3000, costEnergy := 0 }
    let s := { holding 5 1 a session with
      alc := { session.alc with force := { Figures.zero with source := .grid, hGrant := 100 } } }
    let t := after (.clockAdvance ⟨5000, 0, 0⟩) (due s)
    (t.act.slots.get 5).acct.map (fun a => (a.totalWh, a.totalJ, a.heatWh, a.heatJ, a.satTotal)) =
      some (99999999, 0, 99999999, 0, true) := by decide +kernel

/-- Section 7.7, the tick at 5400: the carry of the Unbilled register. -/
theorem test_unbilled_carry :
    let t := after (.clockAdvance ⟨3188, 0, 0⟩) (due { live with
      mtr := { live.mtr with unbilledWh := 12, unbilledJ := 3400 } })
    t.mtr.unbilledWh = 13 ∧ t.mtr.unbilledJ = 2988 := by decide +kernel

/-- R133, the table of minutes. -/
theorem test_minute_of_day :
    [minuteOfDay 75599 0, minuteOfDay 75599 60, minuteOfDay 75600 60, minuteOfDay 10 (-720),
      minuteOfDay 86399 840] = [1259, 1319, 1320, 720, 839] := by decide +kernel

/-- R137, the table of the example tariff. -/
theorem test_band_price :
    [0, 419, 420, 1319, 1320, 1439].map (bandPrice [⟨0, 180⟩, ⟨420, 320⟩, ⟨1320, 150⟩]) =
      [180, 180, 320, 320, 150, 150] := by decide +kernel

/-- Section 8.10, the tick 777,675,601: the switch to tariff 1 comes before the pricing at 250. -/
theorem test_crossing_switches :
    let tar := (live.tck.tariffs.set 0 ⟨[⟨0, 180⟩, ⟨420, 320⟩, ⟨1320, 150⟩], 50000, 30, 2⟩).set 1
      ⟨[⟨0, 250⟩], 0, 0, 1⟩
    let s := holding 2 0 { payer with tariff := 0, pending := some 1, totalJ := 3600 - 1, costEnergy := 0 }
      { live with
        tck := { live.tck with wall := 777675600, offset := 60, tariffs := tar }
        mtr := { live.mtr with lastIndex := some 864083 } }
    let t := after (.clockAdvance ⟨1, 0, 0⟩) (due s)
    (t.act.slots.get 2).acct.map (fun a => (a.tariff, a.pending, a.costEnergy)) = some (1, none, 250) ∧
    (t.tck.tariffs.get 0).refs = 1 ∧ (t.tck.tariffs.get 1).refs = 1 ∧
    (t.atn.sources.get 9).detail = some (.tariff ⟨2, 0⟩ 1) := by decide +kernel

/-- Section 8.10, a clock set back. -/
theorem test_set_clock :
    let t := asked .setClock 0x40 (be 4 777675000 ++ be 2 60)
      { live with tck := { live.tck with wall := 777675610 }, mtr := { live.mtr with lastIndex := some 1 } }
    t.tck.wall = 777675000 ∧ t.mtr.lastIndex = none ∧
    reply t = some (.ok, be 4 777675000 ++ be 2 60 ++ be 4 777675610) := by decide +kernel

/-! ### Worked cases: attention, port, power -/

/-- A source flagged at its supply-reset level. -/
def flagged (l : List (Fin 11)) (stack : List Nat) : Attention :=
  ⟨l.foldl (fun t i => t.modify i fun r => { r with flag := true }) Attention.reset.sources, stack, none⟩

/-- Section 10.10: the winners with INS_FAULT, STOP, INLET, ACCOUNT and ALLOCATION flagged. -/
theorem test_attention_winners :
    (flagged [0, 3, 5, 6, 7] [3]).winner = some 0 ∧ (flagged [3, 5, 6, 7] [7, 3]).line = false ∧
    (flagged [3, 5, 6, 7] [3]).winner = some 3 ∧ (flagged [5, 6, 7] [3]).winner = some 6 ∧
    (flagged [5, 7] [3]).line = false ∧ (flagged [5, 7] []).winner = some 5 := by decide +kernel

/-- 13.1: two items, attention asserted, a BUSY drop of tag 3. -/
theorem test_status_byte :
    statusByte { Port.reset with
      queue := [.request 0 1 [], .request 1 1 []], dropReason := .busy, dropTag := 3 } true = 0xEA#8 := by
  decide

/-- R202 by hand: the register FF, taken through the byte 0, is F3; through FF it is 0. -/
theorem test_check_value : crc [0x00#8] = 0xF3#8 ∧ crc [0xFF#8] = 0x00#8 := by decide

/-- A request frame. -/
def frame (code : Byte) (tag : Nat) (p : List Byte) : List Byte :=
  sealFrame (code :: be 1 tag ++ be 1 p.length ++ p ++ List.replicate (60 - p.length) 0#8)

def oneTransaction (b : List Byte) (s : State) : State := after (.transactionEnd b) (after .transactionStart s)

/-- Section 11.10, transaction 5: a fifth request finds the queue full. -/
theorem test_port_busy :
    let q := [0, 1, 2, 3].map fun tag => Item.request tag 0x01 []
    let t := oneTransaction (frame 0x03 0 []) { live with rqp := { live.rqp with queue := q } }
    t.rqp.queue = q ∧ t.rqp.dropReason = .busy ∧ t.rqp.dropTag = 0 := by decide +kernel

/-- Section 11.10, transaction 6: the collection makes room for the request of the same transaction. -/
theorem test_port_collects_first :
    let q := [0, 1, 2, 3].map fun tag => Item.response tag .ok []
    let t := oneTransaction (frame 0x03 0 []) { live with rqp := { live.rqp with queue := q, dropReason := .busy } }
    t.rqp.queue = q.drop 1 ++ [.request 0 0x03 []] ∧ t.rqp.dropReason = .none := by decide +kernel

/-- Section 11.6: the deadline passes, and a Heartbeat with no Active account ends the expiry. -/
theorem test_supervision :
    let t := after .supervisionExpiry { charging with rqp := { charging.rqp with sup := .armed 0 } }
    let u := asked .heartbeat 0x03 [] { live with rqp := { live.rqp with sup := .expired } }
    t.rqp.sup = .expired ∧ t.alc.chargerCmd = 0 ∧ t.act.activeSlot = some 5 ∧ u.rqp.sup = .disarmed ∧
    reply u = some (.ok, [0, 0, 0, 1]) := by decide +kernel

/-- Section 12.5: Park into Keep-Warm with a wake timer of 600 min; two zones of 1000 W at a limit of 1500 W. -/
def night : State :=
  asked .park 0x08 [1, 2, 0x58] (zoned 1 (heating 50 (-50) 10 1000 0) (zoned 4 (heating 50 (-50) 10 1000 0)
    { live with
      hzc := { live.hzc with allowWh := 4000 }
      alc := { live.alc with heatLimit := 1500 }
      mtr := { live.mtr with n := 1, vph := 2300 } }))

theorem test_park_keep_warm :
    night.pwc.state = .keepWarm ∧ night.pwc.wakeMin = 600 ∧ night.mtr.n = 0 ∧
    night.alc.force.hGrant = 1500 ∧ reply night = some (.ok, [2, 1, 2, 0x58, 1]) := by decide +kernel

/-- Section 12.5: Park into Dormant, and the falling edge that wakes the part. -/
theorem test_park_dormant_then_wake :
    let t := asked .park 0x08 [2, 0, 0] night
    let u := after (.wakeLineEdge .falling dark) t
    t.pwc.state = .dormant ∧ (t.zone 1).contactor = false ∧ u.pwc.state = .active ∧
    u.pwc.resuming = true ∧ (u.atn.sources.get 10).detail = some (.wake .wakeLine .dormant) ∧
    ((after (.resumptionEnd dark cold) u).zone 1).contactor = true := by decide +kernel

/-- Section 12.5, its close: the wake timer of 600 min. -/
theorem test_wake_timer :
    (after (.wakeTimerExpiry dark) { night with pwc := { night.pwc with elapsedMin := 600 } }).pwc.state =
      .active := by decide +kernel

/-- R200: the reset cause record of a port reset adds PIN to SUPPLY; a supply reset leaves SUPPLY alone. -/
theorem test_reset_causes :
    (after .resetPin session).pwc.causes = ⟨true, true, false⟩ ∧
    (after .supplyReset (after .resetPin session)).pwc.causes = ⟨true, false, false⟩ := by decide +kernel

/-- R179: a port reset with an Active account releases the line; ACCOUNT is raised at the end of Starting. -/
theorem test_port_reset_raises_later :
    let t := after .resetPinRelease (after .resetPin charging)
    let u := after (.startingEnd 20000 dark cold) t
    t.atn.line = false ∧ t.act.activeSlot = none ∧ u.atn.line = true ∧
    (u.atn.sources.get 6).detail = some (.account ⟨5, 1⟩ .suspendedPortReset) := by decide +kernel

/-! ### Witnesses: each shows states and operands that meet the hypotheses of the statement it is named
after, clause by clause, at the bounds of its ranges -/

/-- A port that holds one request, where it runs: whatever the request, it is about to be served. -/
theorem asking_serves (c : Byte) (p : List Byte) {s : State} (h : s.portRuns = true)
    (h' : s.pwc.state ≠ .starting) : (asking c p s).serves c p := by
  have h1 : (asking c p s).portRuns = true := h
  refine ⟨?_, h'⟩
  show (if (asking c p s).portRuns && isCode c c then some p else none) = some p
  simp [h1, isCode]

/-- The step of the state with one command in its queue answers a next state. -/
def before (c : Instr) (s : State) : State := s.withPending [c]

theorem active_ne : PowerState.active ≠ .starting := by decide

/-- A parked part, its wake timer at some elapsed minutes. -/
def asleep (p : PowerState) (elapsed : Nat) : State :=
  { live with pwc := { live.pwc with state := p, wakeMin := 600, elapsedMin := elapsed } }

/-- At the bounds of the wake timer's count: its last millisecond of a minute, and its last minute. -/
theorem witness_IdleStepPassesOneMillisecond :
    State.reset.pending = [] ∧ (∀ p ∈ [PowerState.keepWarm, .dormant],
      let s := asleep p 10079
      let t := { s with pwc := { s.pwc with elapsedMs := 59999 } }
      s.pending = [] ∧ t.pending = [] ∧ (s.pwc.state = .keepWarm ∨ s.pwc.state = .dormant) ∧
      s.pwc.elapsedMin < 10080 ∧ s.pwc.elapsedMs + 1 < 60000 ∧ 60000 ≤ t.pwc.elapsedMs + 1 ∧
      ¬ (asleep p 10080).pwc.elapsedMin < 10080) := by decide +kernel

theorem witness_EveryCommandCompletes :
    (before .resetPin session).quiet = true ∧ ∃ t, step (before .resetPin session) = .next t :=
  ⟨by decide +kernel, _, rfl⟩

theorem witness_RequestsAreServedInTurn :
    codesOf .identify = some (isCode 0x01) ∧
    ((asking 0x01 [] State.reset).queued (isCode 0x01) = some [] ∧
      (asking 0x01 [] State.reset).pwc.state = .starting) ∧
    0x77#8 ∉ requestCodes ∧ (asking 0x77 [] live).serves 0x77 [] ∧
    (asking 0x01 [] live).queued (isCode 0x02) = none ∧
    [Item.response 0 .ok [], .request 1 0x01 []] = [.response 0 .ok []] ++ .request 1 0x01 [] :: [] :=
  ⟨rfl, by decide +kernel, by decide +kernel, asking_serves _ _ (by decide) (by decide),
    by decide +kernel, rfl⟩

/-- A Write Curve payload whose second point is no warmer than its first. -/
def flatCurve : List Byte := 2 :: (beInt 2 100 ++ be 2 350 ++ beInt 2 100 ++ be 2 0)

/-- Every payload is served in `live` and in `session`; the lists name, clause by clause, payloads at each bound. -/
theorem witness_ChecksComeFirst :
    (∀ c p, (asking c p live).serves c p ∧ (asking c p session).serves c p) ∧
    (lengthFirst .park = some 3 ∧ ∀ p ∈ [[1, 0], [1, 0, 0, 0]], (p : List Byte).length ≠ 3) ∧
    15 < field [16, 0, 0] 0 1 ∧
    (field [15, 1, 0] 0 1 = (15 : Fin 16).val ∧ field [15, 1, 0] 1 1 ≠ (live.act.slots.get 15).gen) ∧
    (field [15, 0] 1 1 = (live.act.slots.get 15).gen ∧ (live.act.slots.get 15).acct = none) ∧
    (1 < field [2] 0 1 ∧ 8 < field [9] 0 1 ∧ 7 < field [8] 0 1) ∧
    (field [1, 0] 0 1 ≤ 1 ∧ ([1, 0] : List Byte).length ≠ 1 ∧ field [8, 0] 0 1 ≤ 8 ∧ field [7] 0 1 ≤ 7) ∧
    (([0] : List Byte) ≠ [] ∧ field [0] 0 1 = 0 ∧ 6 < field [7] 0 1 ∧ field [6, 0] 0 1 ≤ 6 ∧
      ([6, 0] : List Byte).length ≠ 1 ∧ ([6, 0] : List Byte).length ≠ 9) ∧
    (([3, 0, 0] : List Byte).length = 3 ∧ field [3, 0, 0] 0 1 ≠ 1 ∧ field [3, 0, 0] 0 1 ≠ 2) ∧
    (12 < field [13] 0 1 ∧ field [12] 0 1 ≤ 12 ∧ ([12] : List Byte).length ≠ 1 + 4 * field [12] 0 1) ∧
    (field flatCurve 0 1 ≤ 12 ∧ flatCurve.length = 1 + 4 * field flatCurve 0 1 ∧
      ¬ ((readPoints (field flatCurve 0 1) (flatCurve.drop 1)).Pairwise fun a b => a.temp < b.temp)) ∧
    (([5, 1, 2] : List Byte).length = 3 ∧ field [5, 1, 2] 0 1 = (5 : Fin 16).val ∧
      field [5, 1, 2] 1 1 = (session.act.slots.get 5).gen ∧ (session.act.slots.get 5).acct ≠ none ∧
      1 < field [5, 1, 2] 2 1) :=
  ⟨fun _ _ => ⟨asking_serves _ _ (by decide) (by decide),
    asking_serves _ _ (by decide +kernel) (by decide +kernel)⟩, by decide +kernel⟩

theorem witness_ReadRequestsReport :
    (∀ c p, (asking c p session).serves c p) ∧ (asking 0x4B [5, 1, 0] session).account 5 = some payer ∧
    ((asking 0x4B [5, 1, 0] session).act.handle 5).bytes ++ [0#8] = [5, 1, 0] ∧
    ((asking 0x4B [5, 1, 0] session).act.slots.get 5).gen < 256 :=
  ⟨fun _ _ => asking_serves _ _ (by decide +kernel) (by decide +kernel), by decide +kernel⟩

theorem witness_TransactionCarriesTheOldestResponse :
    ({ Port.reset with queue := List.replicate 4 (.request 0 1 []), dropTag := 3 } : Port).queue.length ≤ 4 ∧
    live.portRuns = true ∧ live.rqp.txn = none ∧ live.rqp.queue = [] ∧
    (List.replicate 59 0#8).length ≤ 59 ∧
    (∃ rest, ({ Port.reset with queue := [.response 3 .ok (List.replicate 59 0#8)] } : Port).queue =
      .response 3 .ok (List.replicate 59 0#8) :: rest) ∧
    (asleep .dormant 0).pwc.state = .dormant ∧ (after .resetPin live).pwc.pinLow = true ∧
    (after .transactionStart live).rqp.txn ≠ none ∧
    ∃ tag code p rest, (asking 0x01 [] live).rqp.queue = .request tag code p :: rest :=
  ⟨by decide, by decide +kernel, rfl, rfl, by decide, ⟨_, rfl⟩, rfl, by decide +kernel, by decide +kernel,
    _, _, _, _, rfl⟩

/-- Frames at each bound: 63 bytes, a payload length of 61, a wrong check value, a poll, a request. -/
theorem witness_TransactionEndTakesTheFrame :
    (after .transactionStart live).rqp.txn ≠ none ∧
    ((frame 1 0 []).take 63).length = 63 ∧
    ((0x01#8 :: 0#8 :: 61#8 :: List.replicate 61 0#8).getD 2 0#8).toNat = 61 ∧
    (frame 1 0 []).drop 63 ≠ [crc ((frame 2 0 []).take 63)] ∧
    (∀ b ∈ [frame 0 0 [], frame 0x77 3 (List.replicate 60 1#8)],
      b.length = 64 ∧ b.drop 63 = [crc (b.take 63)] ∧ (b.getD 2 0#8).toNat ≤ 60) ∧
    (frame 0 0 []).getD 0 0#8 = 0#8 ∧ (frame 0x77 3 []).getD 0 0#8 ≠ 0#8 ∧
    (List.replicate 3 (Item.request 0 1 [])).length < 4 ∧
    ¬ (List.replicate 4 (Item.request 0 1 [])).length < 4 := by decide +kernel

theorem witness_PortStaysBounded :
    let s := after .transactionStart { live with rqp := { live.rqp with
      queue := List.replicate 4 (.response 0 .ok (List.replicate 59 0#8)) } }
    s.rqp.bounded = true ∧ s.alc.curve.length ≤ 12 ∧
    (∀ x ∈ s.rqp.txn, x.frame.length = 64 ∧ x.frame.drop 63 = [crc (x.frame.take 63)]) ∧
    ∃ t, step (before .identify s) = .next t := by
  refine ⟨by decide +kernel, by decide +kernel, ?_, ⟨_, rfl⟩⟩
  intro x hx
  cases hx
  decide +kernel

theorem witness_HeartbeatRenewsSupervision :
    (asking 0x03 [] live).serves 0x03 [] ∧ live.rqp.sup = .disarmed ∧
    (asking 0x03 [] session).serves 0x03 [] ∧ session.rqp.sup = .armed 1000 ∧
    session.act.activeSlot = some 5 :=
  ⟨asking_serves _ _ (by decide) (by decide), rfl,
    asking_serves _ _ (by decide +kernel) (by decide +kernel), by decide +kernel, by decide +kernel⟩

theorem witness_SupervisionExpiryTakesAllPower :
    let s := { charging with rqp := { charging.rqp with sup := .armed 0 } }
    s.rqp.sup = .armed 0 ∧ s.blocksRun = true ∧ s.act.activeSlot = some 5 ∧ 0 < s.alc.chargerCmd ∧
    charging.rqp.sup ≠ .armed 0 := by decide +kernel

theorem witness_ConfigureIsTakenOnce :
    let p : List Byte := [3, 0, 60, 1, 244, 3, 82, 0, 200, 2]
    let s := asking 0x02 p { live with rqp := { live.rqp with configured := false } }
    s.serves 0x02 p ∧ p.length = 10 ∧ s.rqp.configured = false ∧ s.blocksRun = true ∧
    (asking 0x02 p live).serves 0x02 p ∧ (asking 0x02 p live).rqp.configured = true :=
  ⟨asking_serves _ _ (by decide) (by decide), by decide, rfl, rfl, asking_serves _ _ (by decide) (by decide),
    rfl⟩

theorem witness_ParkEntersTheRequestedMode :
    (∀ p, (asking 0x08 p live).serves 0x08 p) ∧ live.inl.state = .unplugged ∧ live.act.activeSlot = none ∧
    live.pwc.resuming = false ∧ live.pwc.state = .active ∧
    (∀ p ∈ [[1, 0, 0], [2, 255, 255]], (p : List Byte).length = 3 ∧ (field p 0 1 = 1 ∨ field p 0 1 = 2)) ∧
    (∀ p, (asking 0x08 p session).serves 0x08 p) ∧ session.inl.state ≠ .unplugged :=
  ⟨fun _ => asking_serves _ _ (by decide) (by decide), rfl, by decide +kernel, rfl, rfl, by decide,
    fun _ => asking_serves _ _ (by decide +kernel) (by decide +kernel), by decide +kernel⟩

theorem witness_ResetCauseRequests :
    (asking 0x09 [] live).serves 0x09 [] ∧ (asking 0x09 [0] live).serves 0x09 [0] ∧
    (asking 0x0A [] live).serves 0x0A [] :=
  ⟨asking_serves _ _ (by decide) (by decide), asking_serves _ _ (by decide) (by decide),
    asking_serves _ _ (by decide) (by decide)⟩

theorem witness_ParkedPartWakes :
    (∀ p ∈ [PowerState.keepWarm, .dormant],
      (asleep p 600).pwc.sense.matches .falling = true ∧ (asleep p 0).pwc.sense.matches .rising = false ∧
      0 < (asleep p 600).pwc.wakeMin ∧ (asleep p 600).pwc.wakeMin ≤ (asleep p 600).pwc.elapsedMin ∧
      (asleep p 599).pwc.elapsedMin < (asleep p 599).pwc.wakeMin) ∧ live.parked = false := by decide

/-- The resumption of a wake from Dormant. -/
def resuming : State := { live with pwc := { live.pwc with resuming := true } }

theorem witness_ResumptionStartsTheBlocks :
    resuming.pwc.state = .active ∧ resuming.pwc.resuming = true ∧
    (let s := zoned 0 (heating 120 20 20 3000 0) resuming
     s.pwc.state = .active ∧ s.pwc.resuming = true ∧ (s.zone 0).state = .heating ∧ (s.zone 1).state = .off) ∧
    (let z : ZoneTemps := ⟨-450, 599, -451, 600, 0, 0⟩
     tempOf z 1 < 600 ∧ -450 ≤ tempOf z 0 ∧ tempOf z 2 < -450 ∧ 600 ≤ tempOf z 3) := by decide +kernel

theorem witness_StartingDerivesTheInlet :
    State.reset.pwc.state = .starting ∧ State.reset.pwc.pinLow = false ∧ State.reset.atn.owed = none ∧
    bandOf 9999 = some .invalid ∧ bandOf 10000 = none ∧
    (let s := after .resetPinRelease (after .resetPin session)
     s.pwc.state = .starting ∧ s.pwc.pinLow = false ∧ s.atn.owed = some ⟨5, 1⟩) := by decide +kernel

theorem witness_PortResetsKeepTheRecords :
    (∀ s ∈ [live, session], s.portRuns = true ∧ s.pwc.state ≠ .starting ∧ s.pwc.pinLow = false) ∧
    (asking 0x04 [] session).serves 0x04 [] ∧ session.act.activeSlot = some 5 ∧
    (session.act.slots.get 5).acct = some payer ∧ live.act.activeSlot = none ∧
    (after .resetPin live).pwc.pinLow = true ∧ (session.zone 0).state ≠ .faulted ∧
    (let s := { session with imon := { session.imon with
        faults := session.imon.faults.set 7 (some ⟨.pole .neg, .active, .warning, 1, 1, 1, 1⟩)
        loc := { Locating.reset with pole := some .neg, current := some 0 } } }
     s.portRuns = true ∧ s.pwc.state ≠ .starting ∧ s.pwc.pinLow = false ∧ s.imon.oneRecordEach = true) :=
  ⟨by decide +kernel, asking_serves _ _ (by decide +kernel) (by decide +kernel), by decide +kernel,
    by decide +kernel, by decide +kernel, by decide +kernel, by decide +kernel, by decide +kernel⟩

/-- A run of equal readings. -/
def run (band : Option CableClass) (count : Nat) (s : State) : State :=
  { s with inl := { s.inl with runBand := band, runCount := count } }

theorem witness_FifthReadingPlugs :
    (∀ p ∈ [PowerState.active, .keepWarm, .dormant],
      (run (some .b) 4 (asleep p 0)).pwc.state ≠ .starting ∧
      (run (some .b) 4 (asleep p 0)).inl.accepted = none) ∧
    bandOf 1500 = some .b ∧ (run (some .b) 3 live).inl.runCount < 4 ∧
    (run (some .b) 3 live).work = Work.clear ∧
    (∀ s ∈ [session, inlet .offered session], s.pwc.state ≠ .starting ∧ s.work = Work.clear ∧
      s.inl.accepted = some .c ∧ s.blocksRun = true) ∧
    bandOf 680 = some .c ∧
    (∀ n ∈ [0, 3, 5], let s := run none n session
      s.pwc.state ≠ .starting ∧ s.work = Work.clear ∧ bandOf 10000 = s.inl.runBand ∧
      bandOf 1500 ≠ s.inl.runBand ∧ bandOf 9999 ≠ s.inl.runBand ∧ (n = 3 → s.inl.runCount < 4)) ∧
    (let s := run none 4 live
     s.pwc.state ≠ .starting ∧ s.work = Work.clear ∧ s.inl.accepted = s.inl.runBand ∧
     bandOf 10000 = s.inl.runBand) := by decide +kernel

theorem witness_FifthOpenReadingUnplugs :
    let s := run none 4 session
    s.pwc.state ≠ .starting ∧ 10000 ≤ 10000 ∧ s.inl.runBand = none ∧ s.inl.runCount = 4 ∧
    s.inl.accepted = some .c ∧ s.act.activeSlot = some 5 ∧ (s.act.slots.get 5).acct = some payer ∧
    s.sampleOpen = false ∧ (phase .baseSample 100 s).sampleOpen = true ∧
    (run none 4 (after (.proximityReading 1500 dark) (run (some .b) 4 live))).inl.accepted = some .b ∧
    (run none 4 (after (.proximityReading 1500 dark) (run (some .b) 4 live))).act.activeSlot = none := by
  decide +kernel

theorem witness_PilotWindowSetsTheOffer :
    let s := after (.proximityReading 1500 dark) (run (some .b) 4 live)
    (∀ w ∈ [PilotWindow.noFullPeriod, .periods 99 1000, .periods 100 1000, .periods 900 1000,
      .periods 901 1000, .periods 1000 1000], w.wf = true) ∧
    s.inl.state = .plugged ∧ s.meterRuns = true ∧ s.inl.offerValid = false ∧ s.inl.offered = 0 ∧
    session.inl.state = .drawing ∧ session.inl.offerValid = true ∧ session.meterRuns = true ∧
    (∀ st ∈ [InletState.offered, .ready, .pausing, .faulted],
      (inlet st session).inl.state = st ∧ (inlet st session).inl.offerValid = true ∧
      (inlet st session).meterRuns = true) := by decide +kernel

theorem witness_InletTimersExpire :
    let s := { session with inl := { session.inl with idleMs := 30000 } }
    let p := { session with inl := { session.inl with state := .pausing, pausingMs := 3000 } }
    s.inl.state = .drawing ∧ s.alc.force.gridGrant = 0 ∧ 30000 ≤ s.inl.idleMs ∧
    p.inl.state = .pausing ∧ 0 < p.mtr.n ∧ 3000 ≤ p.inl.pausingMs ∧
    ({ s.inl with idleMs := 29999 } : Inlet).idleMs < 30000 ∧
    ({ p.inl with pausingMs := 2999 } : Inlet).pausingMs < 3000 ∧ live.inl.state ≠ .drawing := by
  decide +kernel

theorem witness_InletRecordStaysInOrder :
    session.inl.enableFollows = true ∧ session.inl.inRange = true ∧
    ∃ t, step (before (.pilotWindowEnd .noFullPeriod) session) = .next t :=
  ⟨by decide +kernel, by decide +kernel, _, rfl⟩

/-- Twelve points, 1.0 °C apart. -/
def twelve (lowest : Int) : List Byte :=
  (fins 12).flatMap fun i => beInt 2 (lowest + 10 * i.val) ++ be 2 (600 * i.val)

theorem witness_ChargeSettingsAreStored :
    (∀ c p, (asking c p live).serves c p) ∧ (List.replicate 9 255#8).length = 9 ∧
    (List.replicate 4 255#8).length = 4 ∧ (twelve (-450)).length = 4 * 12 ∧
    ascending (readPoints 12 (twelve (-450))) = true ∧ ascending (readPoints 12 (twelve (-460))) = false ∧
    ascending (readPoints 0 []) = true ∧ live.blocksRun = true :=
  ⟨fun _ _ => asking_serves _ _ (by decide) (by decide), by decide +kernel⟩

/-- The power R32 sets against the figures in force, and the figures a pass would give. -/
def budgetOf (s : State) : Nat :=
  if s.inl.state = .drawing then (s.passInputs.grid s.rqp.config.wired s.alc.curve).pDc
  else if s.hzc.allowWh * 3600 + s.hzc.allowJ = 0 ∨ s.rqp.sup = .expired then 0 else s.alc.heatLimit

def figuresOf (s : State) : Figures :=
  s.passInputs.figures s.rqp.config.wired s.alc.curve (s.hzc.zones.map Zone.priority)

/-- The van in force in a Sample phase, at a pass that is due, under a ceiling. -/
def quietPass (ceiling : Nat) : State :=
  phase .baseSample 100 { charging with alc := { charging.alc with ceiling := ceiling, periodMs := 100 } }

/-- Inside a window: an ordinary pass with other figures, one with the figures in force, a safety pass. -/
theorem witness_PassesRecordTheirInputs_quiet :
    (∀ s ∈ [phase .baseSample 100 session, quietPass 160, quietPass 60, quietPass 0],
      s.blocksRun = true ∧ s.passPeriod ≤ s.alc.periodMs ∧ s.work = Work.clear ∧ s.sampleOpen = true ∧
      s.inl.state = .drawing ∧ s.act.activeSlot = some 5) ∧
    (let s := phase .baseSample 100 session
     ¬ budgetOf s < s.alc.force.bGrant + s.alc.force.hGrant ∧ figuresOf s ≠ s.alc.force) ∧
    (let s := quietPass 160
     ¬ budgetOf s < s.alc.force.bGrant + s.alc.force.hGrant ∧ figuresOf s = s.alc.force) ∧
    (∀ s ∈ [quietPass 60, quietPass 0],
      budgetOf s < s.alc.force.bGrant + s.alc.force.hGrant ∧ figuresOf s ≠ s.alc.force) := by
  decide +kernel

/-- Section 12.5's night in a Sample phase, its zones now asking for less than the grant in force. -/
def warmer : State :=
  phase .baseSample 100 { night with
    alc := { night.alc with periodMs := 1000 }
    hzc := { night.hzc with zones := night.hzc.zones.map fun z => { z with demand := min z.demand 600 } } }

/-- R43: the demand falls, the battery budget stays, and the pass is a safety pass: it lowers the heat and
discards the sample. -/
theorem test_keep_warm_fall :
    warmer.alc.force.hGrant = 1500 ∧ (after .periodicPass warmer).alc.force.hGrant = 1200 ∧
    (after .periodicPass warmer).imon.discards = 1 := by decide +kernel

theorem witness_PassesRecordTheirInputs_warm :
    warmer.blocksRun = true ∧ warmer.passPeriod ≤ warmer.alc.periodMs ∧ warmer.work = Work.clear ∧
    warmer.sampleOpen = true ∧ warmer.pwc.state = .keepWarm ∧ warmer.inl.state ≠ .drawing ∧
    (figuresOf warmer).hGrant < warmer.alc.force.hGrant ∧
    ¬ budgetOf warmer < warmer.alc.force.bGrant + warmer.alc.force.hGrant ∧
    figuresOf warmer ≠ warmer.alc.force := by decide +kernel

/-- Outside: the enable decision with a prospective grant and without, and causes new and known. -/
theorem witness_PassesRecordTheirInputs_decides :
    let grant (s : State) : Nat :=
      let g := s.passInputs.grid s.rqp.config.wired s.alc.curve
      g.bGrant + g.hGrant
    let none (s : State) : State := { s with alc := { s.alc with ceiling := 0 } }
    let masked (s : State) : State := { s with alc := { s.alc with mask := 0x3FFFF } }
    let dead (s : State) : State := { s with mtr := { s.mtr with n := 0, vph := 0 } }
    let new (s : State) : CauseSet :=
      s.passInputs.causes s.rqp.config.wired s.alc.curve &&& ~~~s.alc.causes &&& s.alc.mask
    (∀ st ∈ [InletState.offered, .ready],
      0 < grant (inlet st session) ∧ 0 < grant (inlet st (dead session)) ∧ grant (inlet st (none session)) = 0 ∧
      (inlet st session).sampleOpen = false) ∧
    new (masked session) ≠ 0 ∧ new (masked charging) = 0 ∧ (session.act.slots.get 5).acct = some payer ∧
    (∀ i, (charging.zone i).state ≠ .requested) := by decide +kernel

theorem witness_PassesRecordTheirInputs :
    session.blocksRun = true ∧ session.passPeriod ≤ session.alc.periodMs ∧ session.alc.repStale = false ∧
    2000 ≤ ({ session.alc with staleMs := 2000 } : Alloc).staleMs ∧
    ({ session.alc with periodMs := 99 } : Alloc).periodMs < session.passPeriod ∧
    ({ session.alc with staleMs := 1999 } : Alloc).staleMs < 2000 ∧ State.reset.blocksRun = false ∧
    live.alc.repStale = true := by decide +kernel

theorem witness_GridGrantsStayWithinTheLimits :
    let x := session.passInputs
    (∀ y ∈ [x, { x with share := 1000, sevNeg := .warning }, { x with sevPos := .fault },
      { x with acctExists := false }, { x with sup := .expired }],
      y.share ≤ 1000 ∧ y.inlet = .drawing ∧ y.nominal = false) ∧ x.iLim = 160 ∧
    ({ x with inlet := .ready, nominal := true } : PassInputs).inlet ≠ .drawing := by decide +kernel

theorem witness_ZoneGrantsFollowPriority :
    ∀ i, (⟨[7, 0, 5, 0, 5, 7], rfl⟩ : Table 6 Nat).get i ≤ 7 := by decide

theorem witness_CurveIsReadBetweenItsPoints :
    exampleCurve = [] ++ ⟨-200, 0⟩ :: exampleCurve.drop 1 ∧
    exampleCurve = exampleCurve.take 3 ++ ⟨400, 350⟩ :: ⟨550, 0⟩ :: [] ∧
    exampleCurve = exampleCurve.take 4 ++ ⟨550, 0⟩ :: [] ∧ ascending exampleCurve = true := by decide +kernel

theorem witness_ChargerRunsOnlyWhenAllowed :
    charging.chargerSafe = true ∧ charging.act.oneActive = true ∧ charging.pwc.state = .active ∧
    (0 < charging.alc.chargerCmd ∧ charging.blocksRun = true ∧ charging.alc.force.source = .grid ∧
      0 < charging.alc.force.bGrant + charging.alc.force.hGrant) ∧
    ∃ t, step (before .stop charging) = .next t :=
  ⟨by decide +kernel, by decide +kernel, by decide +kernel, by decide +kernel, _, rfl⟩

/-- A Write Zone of zone 6 with the least and the greatest settings. -/
def write6 (enabled : Byte) : List Byte := [6, enabled, 255, 255, 0, 0, 255, 255, 9]

/-- Zone 6 in a state, in a cycle phase. -/
def zone6 (st : ZoneState) (c : Cycle) : State :=
  zoned 5 { Zone.reset with state := st } { live with imon := { live.imon with cycle := c } }

theorem witness_WriteZoneStoresTheSettings :
    (∀ st c p, (asking 0x20 p (zone6 st c)).serves 0x20 p) ∧
    (∀ b, (write6 b).length = 9 ∧ field (write6 b) 0 1 = (5 : Fin 6).val + 1) ∧
    field (write6 0) 1 1 = 0 ∧ field (write6 1) 1 1 ≠ 0 ∧
    (zone6 .off .idle).sampleOpen = false ∧ (zone6 .heating .shiftSettle).sampleOpen = false ∧
    (zone6 .heating .idle).zone 5 ≠ (zone6 .off .idle).zone 5 ∧
    (zone6 .off .baseSample).sampleOpen = true ∧
    (asked .writeZone 0x20 (write6 1) (zone6 .off .baseSample)).sampleOpen = true ∧
    ((zone6 .isolated .idle).zone 5).state = .isolated ∧
    ((zone6 .faulted .idle).zone 5).state = .faulted :=
  ⟨fun _ _ _ => asking_serves _ _ rfl active_ne, by decide +kernel⟩

/-- Zone 6 Faulted, for a reason at a temperature, with its record. -/
def faulted6 (r : ZoneFault) (temp : Int) (neg : Severity) : State :=
  zoned 5 { Zone.reset with state := .faulted, reason := some r, temp := temp }
    { live with imon := { live.imon with
        neg := { live.imon.neg with severity := neg }
        faults := live.imon.faults.set 0 (some ⟨.zone 5, .active, .warning, 1, 1, 1, 1⟩) } }

theorem witness_ResetZoneClearsAGoneFault :
    (∀ r t v p, (asking 0x22 p (faulted6 r t v)).serves 0x22 p) ∧ field [6] 0 1 = (5 : Fin 6).val + 1 ∧
    (live.zone 5).state ≠ .faulted ∧
    (∀ t ∈ [-451, 600, 901], let z := (faulted6 .sensor t .normal).zone 5
      z.temp < -450 ∨ 900 < z.temp ∨ 600 ≤ z.temp) ∧
    ((faulted6 .insulation 0 .warning).zone 5).reason = some .insulation ∧
    (faulted6 .insulation 0 .warning).imon.neg.severity = .warning ∧
    (∀ t ∈ [-450, 599], let z := (faulted6 .insulation t .normal).zone 5
      ¬ (z.temp < -450 ∨ 900 < z.temp ∨ 600 ≤ z.temp)) ∧
    (faulted6 .insulation 0 .normal).imon.neg.severity = .normal ∧
    (faulted6 .insulation 0 .normal).imon.oneRecordEach = true :=
  ⟨fun _ _ _ _ => asking_serves _ _ rfl active_ne, by decide +kernel⟩

theorem witness_SetAllowanceWritesTheAllowance :
    (∀ p s, s ∈ [live, allowing 1] → (asking 0x23 p s).serves 0x23 p) ∧ ([0, 0] : List Byte).length = 2 ∧
    field [0, 0] 0 2 = 0 ∧ 20000 < field [255, 255] 0 2 ∧
    0 < (allowing 1).hzc.allowWh * 3600 + (allowing 1).hzc.allowJ ∧ (allowing 1).blocksRun = true ∧
    live.work = Work.clear ∧ (live.hzc.allowWh * 3600 + live.hzc.allowJ = 0 ↔ field [0, 0] 0 2 = 0) ∧
    (allowing 1).work = Work.clear ∧
    ((allowing 1).hzc.allowWh * 3600 + (allowing 1).hzc.allowJ = 0 ↔ field [0, 1] 0 2 = 0) ∧
    live.hzc.allowWh * 3600 + live.hzc.allowJ = 0 ∧ 0 < field [0, 1] 0 2 ∧ live.blocksRun = true := by
  refine ⟨?_, by decide +kernel⟩
  intro p s hs
  simp only [List.mem_cons, List.not_mem_nil, or_false] at hs
  rcases hs with rfl | rfl <;> exact asking_serves _ _ rfl (by decide)

/-- Zones in Requested, Heating, Holding, Off, Isolated and Faulted, each enabled, with target 150. -/
def six : State :=
  { session with hzc := { session.hzc with zones :=
      ⟨[.requested, .heating, .holding, .off, .isolated, .faulted].map fun st =>
        { Zone.reset with state := st, enabled := true, target := 150 }, rfl⟩ } }

theorem witness_ZoneReadingsActOnTheZones :
    State.reset.blocksRun = false ∧ six.blocksRun = true ∧
    (six.zone 5).state = .faulted ∧ (six.zone 4).state = .isolated ∧ (six.zone 2).state = .holding ∧
    (six.zone 0).enabled = true ∧ (six.zone 1).state = .heating ∧
    (let z : ZoneTemps := ⟨-451, 901, 600, 900, 599, 0⟩;
      tempOf z 0 < -450 ∧ 900 < tempOf z 1 ∧ 600 ≤ tempOf z 2 ∧ tempOf z 3 ≤ 900 ∧ tempOf z 4 < 600) ∧
    (let z : ZoneTemps := ⟨150, 149, 139, -450, -450, 0⟩;
      (six.zone 0).target ≤ tempOf z 0 ∧ tempOf z 1 < (six.zone 1).target ∧
      tempOf z 2 < (six.zone 2).target - 10 ∧ -450 ≤ tempOf z 4) ∧
    (six.zone 2).target - 10 ≤ tempOf ⟨0, 0, 140, 0, 0, 0⟩ 2 ∧ tempOf ⟨0, 0, 0, 0, 600, 0⟩ 4 = 600 ∧
    tempOf ⟨0, 0, 0, 0, 901, 0⟩ 4 = 901 ∧
    (let s := { six with imon := { six.imon with
        loc := { Locating.reset with pole := some .pos, current := some 4 } } }
     s.blocksRun = true ∧ (s.zone 4).state = .isolated ∧ s.imon.loc.pole = some .pos) ∧
    (let s := phase .baseSample 100 charging
     s.blocksRun = true ∧ s.sampleOpen = true ∧ (s.zone 0).state ≠ .faulted ∧
     (s.zone 0).contactor = true) := by decide +kernel

theorem witness_ZonesStayInOrder :
    charging.hzc.restful = true ∧ charging.hzc.oneIsolated = true ∧
    ∃ t, step (before (.zoneSensorReading cold) charging) = .next t :=
  ⟨by decide +kernel, by decide +kernel, _, rfl⟩

theorem witness_CyclePhasesFollowTheirTimers :
    (phase .idle 0 live).imon.cycle = .idle ∧ live.blocksRun = true ∧ live.work = Work.clear ∧
    500 ≤ (250 : Int).toNat + (250 : Int).toNat ∧ (phase .baseSettle 1500 live).imon.cycle = .baseSettle ∧
    (phase .shiftSample 499 live).sampleOpen = true ∧ (phase .shiftSample 499 live).imon.phaseMs < 500 ∧
    (phase .baseSample 499 live).imon.phaseMs < 500 ∧
    (phase .shiftSettle 1499 live).imon.cycle ≠ .baseSample := by decide +kernel

theorem witness_NoBusEndsTheCycle :
    let s := phase .baseSettle 3 { session with
      imon := { session.imon with loc := { Locating.reset with pole := some .neg } } }
    let h (disable : Bool) (r : ZoneState) : State :=
      zoned 3 { heating 120 20 20 3000 0 with
          state := .isolated, resume := some r, enabled := !disable, demand := 0, contactor := false,
          disableAfter := disable }
        { s with imon := { s.imon with loc := { s.imon.loc with current := some 3 } } }
    s.imon.cycle ≠ .idle ∧ (250 : Int).toNat + (249 : Int).toNat < 500 ∧ s.imon.loc.pole ≠ none ∧
    s.imon.oneRecordEach = true ∧ s.blocksRun = true ∧
    (∀ d ∈ [true, false], ∀ r ∈ [ZoneState.requested, .heating, .holding],
      (h d r).imon.cycle ≠ .idle ∧ (h d r).imon.loc.current = some 3 ∧
      ((h d r).zone 3).state = .isolated ∧ ((h d r).zone 3).disableAfter = d ∧
      ((h d r).zone 3).enabled = !d ∧ ((h d r).zone 3).resume = some r) := by decide +kernel

theorem witness_BaseSampleGivesTheVoltages :
    (phase .baseSample 500 session).imon.cycle = .baseSample ∧
    500 ≤ (phase .baseSample 500 session).imon.phaseMs ∧
    (phase .baseSample 500 session).blocksRun = true := by decide +kernel

/-- The weak pole's Compute with NEG as it stood. -/
def weakened (neg : PoleRec) (sumN : Nat) : State :=
  { weak with imon := { weak.imon with neg := neg, sumN := sumN } }

/-- A Compute with no change, one that newly confirms a Warning, and one that newly confirms a Fault. -/
theorem witness_ShiftSampleComputes :
    (∀ s ∈ [weak, weakened ⟨.normal, some .warning, 1, 0, 0⟩ 2234, weakened ⟨.normal, some .fault, 1, 1, 0⟩ 800],
      s.imon.cycle = .shiftSample ∧ 500 ≤ s.imon.phaseMs ∧ s.act.oneActive = true) ∧
    (weak.imon.evaluate 2483 1117).neg.severity = .normal ∧
    ((weakened ⟨.normal, some .warning, 1, 0, 0⟩ 2234).imon.evaluate 2483 1117).neg.severity = .warning ∧
    ((weakened ⟨.normal, some .fault, 1, 1, 0⟩ 800).imon.evaluate 2483 400).neg.severity = .fault := by
  decide +kernel

/-- The records: none stands, so that a pole newly at Warning or Fault has a fresh one; one of that pole stands,
in the first slot or the last; one stands while a Compute judges a zone. -/
theorem witness_ShiftSampleComputes_records :
    let with7 (k : Fin 8) (s : State) : State := { s with imon := { s.imon with
      faults := s.imon.faults.set k (some ⟨.pole .neg, .resolved, .warning, 160, 1, 1, 65535⟩) } }
    let warn := weakened ⟨.normal, some .warning, 1, 0, 0⟩ 2234
    let fault := weakened ⟨.normal, some .fault, 1, 1, 0⟩ 800
    (∀ s ∈ [warn, fault, with7 0 warn, with7 7 fault],
      s.imon.cycle = .shiftSample ∧ 500 ≤ s.imon.phaseMs ∧ s.act.oneActive = true ∧
      s.imon.oneRecordEach = true ∧ s.imon.loc.pole = none ∧ s.imon.neg.severity = .normal) ∧
    (∀ k, warn.imon.faults.get k = none ∧ fault.imon.faults.get k = none) ∧
    (with7 7 fault).imon.faults.get 7 = some ⟨.pole .neg, .resolved, .warning, 160, 1, 1, 65535⟩ ∧
    (warn.imon.evaluate 2483 1117).pos.severity = .normal ∧
    (fault.imon.evaluate 2483 400).pos.severity = .normal := by decide +kernel

/-- A sequence that starts at a Compute: over two zones, over none, and for both poles at once. -/
theorem witness_ShiftSampleComputes_starts :
    let warn := weakened ⟨.normal, some .warning, 1, 0, 0⟩ 2234
    let both := { warn with imon := { warn.imon with
      pos := ⟨.normal, some .warning, 1, 0, 0⟩, warnTh := 10000 } }
    let alone := zoned 0 Zone.reset (zoned 1 Zone.reset warn)
    (∀ s ∈ [warn, both, alone], s.imon.cycle = .shiftSample ∧ 500 ≤ s.imon.phaseMs ∧
      s.act.oneActive = true ∧ s.imon.loc.pole = none ∧ s.imon.oneRecordEach = true ∧
      (s.imon.evaluate 2483 1117).neg.severity = .warning ∧ s.imon.neg.severity = .normal) ∧
    (warn.imon.evaluate 2483 1117).pos.severity = .normal ∧
    (both.imon.evaluate 2483 1117).pos.severity = .warning ∧
    (warn.zone 0).state = .heating ∧ (warn.zone 0).enabled = true ∧
    (∀ y, (alone.zone y).enabled = false) := by decide +kernel

theorem witness_SeverityNeedsConfirmation :
    let p : PoleRec := ⟨.warning, some .clear, 2, 2, 3⟩
    p.warnCount ≤ 2 ∧ p.faultCount ≤ 2 ∧ p.normalCount ≤ 3 := by decide

/-- NEG's sequence with zone 4 isolated, before its Compute. -/
def judged (sumN : Nat) (list : List (Fin 6)) (disable : Bool) : State :=
  zoned 3 { heating 120 20 20 3000 0 with
      state := .isolated, resume := some .heating, demand := 0, contactor := false,
      disableAfter := disable }
    { weak with imon := { weak.imon with
        neg := ⟨.warning, some .warning, 2, 0, 0⟩
        faults := weak.imon.faults.set 0 (some ⟨.pole .neg, .active, .warning, 149, 1, 1, 1⟩)
        loc := ⟨some .neg, list, some 3, 2, none, .none, none, 0⟩
        sumN := sumN } }

/-- POS waits, and stands at a severity. -/
def deferring (v : Severity) (s : State) : State :=
  { s with imon := { s.imon with
      pos := ⟨v, some .warning, 2, 0, 0⟩, loc := { s.imon.loc with deferred := some .pos } } }

/-- A Compute at which zone 4 explains NEG, and one at which it does not, with and without a next zone. -/
theorem witness_LocatingJudgesTheCandidate :
    (∀ s ∈ [judged 30 [] false, judged 2234 [1] true, judged 2234 [] false],
      s.imon.cycle = .shiftSample ∧ 500 ≤ s.imon.phaseMs ∧ s.imon.loc.pole = some .neg ∧
      s.imon.loc.current = some 3 ∧ 3 ∉ s.imon.loc.candidates ∧ (s.zone 3).state = .isolated ∧
      (s.zone 3).remembers = true ∧ s.hzc.oneIsolated = true ∧ s.imon.oneRecordEach = true ∧
      s.imon.loc.deferred = none) ∧
    (let m := (judged 30 [] false).imon.evaluate 2483 15;
      m.pos.severity = .normal ∧ m.neg.severity = .warning ∧ m.warnK ≤ m.rNeg) ∧
    (let m := (judged 2234 [1] true).imon.evaluate 2483 1117;
      m.pos.severity = .normal ∧ m.neg.severity = .warning ∧ m.rNeg < m.warnK) ∧
    ((judged 2234 [1] true).zone 1).state = .heating ∧ ((judged 2234 [1] true).zone 1).enabled = true ∧
    ((judged 2234 [1] true).zone 3).disableAfter = true ∧
    ((judged 2234 [] false).zone 3).disableAfter = false ∧
    ((judged 30 [] false).imon.recordOf (.pole .neg)).isSome = true := by decide +kernel

/-- POS deferred at a completion: at Warning with other zones to take, at Warning with none, and Normal. -/
theorem witness_LocatingJudgesTheCandidate_deferred :
    let alone (s : State) : State := zoned 0 Zone.reset (zoned 1 Zone.reset s)
    (∀ s ∈ [deferring .warning (judged 2234 [] false), deferring .warning (alone (judged 2234 [] true)),
        deferring .normal (judged 2234 [] false), deferring .warning (judged 30 [] false)],
      s.imon.cycle = .shiftSample ∧ 500 ≤ s.imon.phaseMs ∧ s.imon.loc.pole = some .neg ∧
      s.imon.loc.current = some 3 ∧ s.imon.loc.candidates = [] ∧ (s.zone 3).state = .isolated ∧
      (s.zone 3).remembers = true ∧ s.hzc.oneIsolated = true ∧ s.imon.oneRecordEach = true ∧
      s.imon.loc.deferred = some .pos) ∧
    (∀ v ∈ [Severity.warning, .normal],
      let m := (deferring v (judged 2234 [] false)).imon.evaluate 2483 1117;
      m.pos.severity = v ∧ m.neg.severity = .warning ∧ m.rNeg < m.warnK) ∧
    (let m := (deferring .warning (judged 30 [] false)).imon.evaluate 2483 15;
      m.pos.severity = .warning ∧ m.neg.severity = .warning ∧ m.warnK ≤ m.rNeg) ∧
    ((judged 30 [] false).zone 0).state = .heating ∧
    (∀ y : Fin 6, y ≠ 3 → ((alone (judged 2234 [] true)).zone y).enabled = false) := by decide +kernel

/-- NEG's third Clear cycle judges zone 4 (assumption 46): with no record of the zone, and with one. -/
def returning (zoneRec : Option FaultRec) : State :=
  let s := judged 30 [] false
  { s with imon := { s.imon with
      neg := ⟨.warning, some .clear, 0, 0, 2⟩, faults := s.imon.faults.set 7 zoneRec } }

/-- The judgement at a change of severity: NEG returns to Normal, and POS is newly at Warning. -/
theorem witness_LocatingJudgesTheCandidate_changes :
    let newly := { judged 2234 [1] true with imon := { (judged 2234 [1] true).imon with
      pos := ⟨.normal, some .warning, 1, 0, 0⟩, warnTh := 10000 } }
    (∀ s ∈ [returning none, returning (some ⟨.zone 3, .resolved, .warning, 120, 5, 6, 1⟩), newly],
      s.imon.cycle = .shiftSample ∧ 500 ≤ s.imon.phaseMs ∧ s.imon.loc.pole = some .neg ∧
      s.imon.loc.current = some 3 ∧ 3 ∉ s.imon.loc.candidates ∧ (s.zone 3).state = .isolated ∧
      (s.zone 3).remembers = true ∧ s.hzc.oneIsolated = true ∧ s.imon.oneRecordEach = true) ∧
    (let m := (returning none).imon.evaluate 2483 15;
      m.pos.severity = .normal ∧ m.neg.severity = .normal ∧ m.warnK ≤ m.rNeg) ∧
    (let m := newly.imon.evaluate 2483 1117;
      m.pos.severity = .warning ∧ m.neg.severity = .warning ∧ m.rNeg < m.warnK) ∧
    (returning none).imon.recordOf (.zone 3) = none ∧
    (returning none).imon.faults.get 0 = some ⟨.pole .neg, .active, .warning, 149, 1, 1, 1⟩ := by
  decide +kernel

/-- R95, Re-key, with that return to Normal: the record moves as the Compute leaves it, Cleared. -/
theorem test_locating_rekey :
    let t := after .shiftSampleEnd (returning none)
    t.imon.faults.get 0 = some ⟨.zone 3, .cleared, .warning, 149, 1, 86699, 1⟩ ∧
    (t.zone 3).state = .faulted ∧ t.imon.loc.outcome = .found := by decide +kernel

/-- A record in slot 7. -/
def recorded (st : FaultState) : State :=
  { live with imon := { live.imon with
      faults := live.imon.faults.set 7 (some ⟨.pole .pos, st, .warning, 1, 1, 1, 1⟩) } }

theorem witness_FaultRecordsAcknowledgeAndRetire :
    (∀ c p st, (asking c p (recorded st)).serves c p) ∧ 7 < field [8] 0 1 ∧
    (field [7, 0] 0 1 ≤ 7 ∧ ([7, 0] : List Byte).length ≠ 1) ∧
    (recorded .active).imon.faults.get 6 = none ∧
    (∀ st ∈ [FaultState.active, .acknowledged, .cleared, .resolved],
      (recorded st).imon.faults.get 7 = some ⟨.pole .pos, st, .warning, 1, 1, 1, 1⟩) :=
  ⟨fun _ _ _ => asking_serves _ _ rfl active_ne, by decide +kernel⟩

theorem witness_OneRecordPerOrigin :
    (judged 30 [] false).imon.oneRecordEach = true ∧
    ∃ t, step (before (.poleVoltageReading 1 1) (judged 30 [] false)) = .next t :=
  ⟨by decide +kernel, _, rfl⟩

theorem witness_StopIsTakenWhole :
    (asking 0x30 [] depot).serves 0x30 [] ∧ (asking 0x30 [] depot).act.oneActive = true ∧
    depot.stu.bank = none ∧ ({ depot.stu with bank := some earlier } : Stops).bank ≠ none ∧
    depot.act.activeSlot = some 3 ∧ (depot.act.slots.get 3).acct = some payer ∧
    (depot.zone 5).state = .faulted ∧ (depot.zone 0).remembers = true ∧ depot.blocksRun = true ∧
    depot.sampleOpen = false ∧ (phase .shiftSample 499 depot).sampleOpen = true :=
  ⟨asking_serves _ _ (by decide +kernel) (by decide +kernel), by decide +kernel⟩

/-- The bank of section 6.9 with a handle. -/
def banked (h : Option Handle) (s : State) : State :=
  { s with stu := ⟨9, some { earlier with handle := h }, false⟩ }

/-- An account suspended by a stop, in slot 3, generation 7. -/
def suspended : State := { stopped with inl := { stopped.inl with state := .offered } }

/-- The five outcomes of R111, and the two refusals of R109. -/
theorem witness_ResumeRestoresTheContext :
    (∀ c p s, s.portRuns = true → s.pwc.state ≠ .starting → (asking c p s).serves c p) ∧
    (∀ h, (banked h suspended).portRuns = true ∧ (banked h suspended).pwc.state ≠ .starting ∧
      (banked h suspended).stu.bank = some { earlier with handle := h } ∧
      (banked h suspended).imon.pos.severity ≠ .fault ∧ (banked h suspended).imon.neg.severity ≠ .fault) ∧
    (suspended.act.slots.get 3).gen = 7 ∧
    (suspended.act.slots.get 3).acct.map (fun a => (a.state, a.reason)) = some (.suspended, some .stop) ∧
    suspended.inl.state ≠ .unplugged ∧ suspended.act.activeSlot = none ∧
    (suspended.act.slots.get 3).gen ≠ 8 ∧
    ({ suspended.inl with state := .unplugged } : Inlet).state = .unplugged ∧
    (holding 5 1 payer suspended).act.activeSlot ≠ none ∧ live.stu.bank = none := by
  refine ⟨fun c p s h h' => asking_serves c p h h', fun h => ⟨?_, ?_, rfl, ?_, ?_⟩, by decide +kernel⟩
  · exact (by decide +kernel : suspended.portRuns = true)
  · exact (by decide +kernel : suspended.pwc.state ≠ .starting)
  · exact (by decide +kernel : suspended.imon.pos.severity ≠ .fault)
  · exact (by decide +kernel : suspended.imon.neg.severity ≠ .fault)

/-- A Write Tariff of tariff 7 with four bands, and one whose starts do not ascend. -/
def fourBands (last : Nat) : List Byte :=
  [7, 4] ++ be 2 0 ++ be 4 1 ++ be 2 1 ++ be 4 1 ++ be 2 1438 ++ be 4 1 ++ be 2 last ++ be 4 9999999 ++
    be 4 1 ++ [255]

theorem witness_PlainWritesAreExact :
    (∀ c p, (asking c p live).serves c p) ∧ ([0, 0, 0, 0] : List Byte).length = 4 ∧
    (List.replicate 6 0#8).length = 6 ∧ 7 < field [8] 0 1 ∧ field [7] 0 1 ≤ 7 ∧
    ([7] : List Byte).length < 2 ∧ 2 ≤ (fourBands 1439).length ∧
    field (fourBands 1439) 0 1 = (7 : Fin 8).val ∧ 4 < field [7, 5] 1 1 ∧
    field (fourBands 1439) 1 1 ≤ 4 ∧ (fourBands 1439).length = 7 + 6 * field (fourBands 1439) 1 1 ∧
    ([7, 4] : List Byte).length ≠ 7 + 6 * 4 ∧ 0 < (live.tck.tariffs.get 2).refs ∧
    (live.tck.tariffs.get 7).refs = 0 ∧
    (let b := readBands 4 ((fourBands 1439).drop 2);
      b.head?.map TariffBand.start = some 0 ∧ (∀ x ∈ b, x.start ≤ 1439) ∧
      b.map TariffBand.start = [0, 1, 1438, 1439]) ∧
    (readBands 4 ((fourBands 1440).drop 2)).map TariffBand.start = [0, 1, 1438, 1440] :=
  ⟨fun _ _ => asking_serves _ _ (by decide) (by decide), by decide +kernel⟩

/-- A front end at the bound of R118, and one below it. -/
def bright (v : Nat) : FrontEnd := ⟨⟨v, 0, 0⟩, ⟨v, 0, 0⟩, ⟨v, 0, 0⟩⟩

theorem witness_QuickReadingCountsTheLivePhases :
    night.meterRuns = false ∧ session.meterRuns = true ∧ session.work = Work.clear ∧ session.mtr.n = 3 ∧
    liveCount (phaseRecs 3 (bright 1800)) = 3 ∧ liveCount (phaseRecs 3 (bright 1799)) = 0 ∧
    session.inl.state = .drawing ∧ live.mtr.n = 0 ∧
    ({ session.inl with state := .ready } : Inlet).state = .ready ∧
    ({ session.inl with state := .pausing, pilot := false } : Inlet).offerValid = false ∧
    (let s := inlet .pausing session
     s.meterRuns = true ∧ 0 < s.mtr.n ∧ s.inl.offerValid = true ∧ s.sampleOpen = false) := by
  decide +kernel

theorem witness_ClockAdvanceTakesATick :
    ({ live.tck with secondMs := 999 } : Clock).secondMs < 1000 ∧ 1000 ≤ (due live).tck.secondMs ∧
    4294967295 ≤ ({ live.tck with wall := 4294967295 } : Clock).wall ∧
    ({ live.tck with wall := 4294967294 } : Clock).wall < 4294967295 ∧
    (due charging).tck.wall < 4294967295 ∧ 1000 ≤ (due charging).tck.secondMs ∧
    (due charging).hzc.allowJ < 3600 ∧ (due charging).meterRuns = true ∧ night.meterRuns = false ∧
    (due charging).act.activeSlot = some 5 ∧
    (∀ a ∈ [payer, { payer with totalWh := 99999998, costEnergy := 999999999999 }],
      a.satTotal = false ∧ a.totalWh < 99999999) ∧ ((due session).act.slots.get 5).acct = some payer ∧
    (due (holding 5 1 { payer with satTotal := true } charging)).act.activeSlot = some 5 ∧
    (∀ wh ∈ [0, 99999998], let s := { due live with mtr := { live.mtr with unbilledWh := wh } }
      s.act.activeSlot = none ∧ s.meterRuns = true ∧ s.mtr.unbilledWh < 99999999) ∧
    99999999 ≤ ({ live.mtr with unbilledWh := 99999999 } : Meter).unbilledWh := by decide +kernel

/-- Stocks of 1 J, the debit, and one J more; an account that switches at a crossing, and none elsewhere. -/
theorem witness_ClockAdvanceTakesATick_switches :
    (∀ j ∈ [1, 3000, 3001], let s := allowing j
      1000 ≤ s.tck.secondMs ∧ s.tck.wall < 4294967295 ∧ s.blocksRun = true ∧
      s.alc.force.source = .battery ∧ s.alc.force.hGrant = 3000 ∧ s.hzc.allowWh * 3600 + s.hzc.allowJ = j) ∧
    (let s := due (holding 15 255 { payer with pending := some 7 } live)
     1000 ≤ s.tck.secondMs ∧ s.tck.wall < 4294967295 ∧ s.meterRuns = true ∧
     s.mtr.lastIndex ≠ some (s.tck.wall / 900) ∧ payer.state ≠ .closed ∧
     (s.act.slots.get 15).acct = some { payer with pending := some 7 } ∧
     (∀ j, j < 15 → (s.act.slots.get j).acct = none)) ∧
    (1000 ≤ saturating.tck.secondMs ∧ saturating.meterRuns = true ∧ saturating.act.activeSlot = some 5 ∧
     saturating.sampleOpen = true ∧ saturating.alc.force.hGrant ≠ 1500) := by decide +kernel

/-- An Open Account with token 1, both caps, and a tariff. -/
def opening (tariff : Byte) : List Byte :=
  be 8 1 ++ [tariff, 3] ++ be 4 4294967295 ++ be 6 281474976710655

theorem witness_OpenAndFindGoByToken :
    (∀ c p s, s ∈ [live, session] → (asking c p s).serves c p) ∧ (opening 2).length = 20 ∧
    field (opening 2) 0 8 = 1 ∧ field (be 8 0) 0 8 = 0 ∧ 7 < field (opening 8) 8 1 ∧
    field (opening 2) 8 1 = (2 : Fin 8).val ∧ (be 8 7).length = 8 ∧
    (∀ j, (live.act.slots.get j).acct = none) ∧ (∀ k : Fin 16, ¬ k < 0) ∧
    (live.tck.tariffs.get 2).bands ≠ [] ∧ (live.tck.tariffs.get 7).bands = [] ∧
    (session.act.slots.get 5).acct = some payer ∧ payer.token = field (be 8 7) 0 8 ∧
    (∀ k, k < 5 → (session.act.slots.get k).acct = none) ∧
    (∀ j, ((⟨List.replicate 16 ⟨0, some payer⟩, rfl⟩ : Table 16 Slot).get j).acct ≠ none) := by
  refine ⟨?_, by decide +kernel⟩
  intro c p s hs
  simp only [List.mem_cons, List.not_mem_nil, or_false] at hs
  rcases hs with rfl | rfl
  · exact asking_serves c p (by decide) (by decide)
  · exact asking_serves c p (by decide +kernel) (by decide +kernel)

/-- An account in slot 15, generation 255, that may be activated: the inlet is plugged. -/
def ready (st : AcctState) (r : Option SuspendReason) (tariff : Fin 8) : State :=
  { holding 15 255 { payer with state := st, reason := r, tariff := tariff } live with
    inl := { live.inl with state := .offered } }

theorem witness_AccountsAreAmendedAndActivated :
    (∀ c p st r t, (asking c p (ready st r t)).serves c p) ∧
    (∀ st r t, ((ready st r t).act.slots.get 15).acct =
      some { payer with state := st, reason := r, tariff := t }) ∧
    (∀ st r t, ((ready st r t).act.slots.get 15).gen = 255) ∧
    field [15, 255] 0 1 = (15 : Fin 16).val ∧ field [15, 255] 1 1 = 255 ∧
    ([15, 255] : List Byte).length = 2 ∧ ([15, 255, 7, 2] ++ be 4 9 ++ be 6 9).length = 14 ∧
    ((field [15, 255, 7, 8] 2 1).testBit 0 = true ∧ 7 < field [15, 255, 7, 8] 3 1) ∧
    ((field [15, 255, 6, 8] 2 1).testBit 0 = false) ∧
    (field [15, 255, 7, 2] 3 1 = (2 : Fin 8).val ∧ (live.tck.tariffs.get 2).bands ≠ []) ∧
    (live.tck.tariffs.get 7).bands = [] ∧
    (∀ st r t, (ready st r t).inl.state ≠ .unplugged ∧ (ready st r t).tck.isSet = true ∧
      (ready st r t).rqp.configured = true) ∧
    (ready .suspended (some .request) 2).act.activeSlot = none ∧
    ((ready .active none 2).act.activeSlot = some 15 ∧ (ready .active none 2).blocksRun = true ∧
      (ready .active none 2).act.oneActive = true ∧ (ready .active none 2).work = Work.clear) ∧
    (([15, 255, 4, 0] ++ be 4 0 ++ be 6 0).length = 14 ∧
      ((asked .amendAccount 0x4C ([15, 255, 4, 0] ++ be 4 0 ++ be 6 0) (ready .active none 2)).act.slots.get
        15).acct.map Account.capReached = some true ∧ payer.capReached = false) :=
  ⟨fun _ _ _ _ _ => asking_serves _ _ rfl active_ne, fun _ _ _ => rfl, fun _ _ _ => rfl,
    by decide +kernel, by decide +kernel, by decide, by decide +kernel, by decide +kernel,
    by decide +kernel, by decide +kernel, by decide +kernel, fun _ _ _ => ⟨(nomatch ·), rfl, rfl⟩,
    by decide +kernel, by decide +kernel, by decide +kernel⟩

/-- R152 in a Sample phase: a cap newly reached, with figures in force that its pass changes. -/
theorem witness_AccountsAreAmendedAndActivated_window :
    let s := phase .shiftSample 100 { ready .active none 2 with
      alc := { live.alc with held := true, force := { Figures.zero with hGrant := 9 } } }
    let t := asked .amendAccount 0x4C ([15, 255, 4, 0] ++ be 4 0 ++ be 6 0) s
    s.act.activeSlot = some 15 ∧ s.blocksRun = true ∧ s.sampleOpen = true ∧
    (t.act.slots.get 15).acct.map Account.capReached = some true ∧ t.alc.force ≠ s.alc.force ∧
    t.alc.held = false ∧ t.imon.discards = 1 := by decide +kernel

theorem witness_CloseFormsTheStatementAndRetireFrees :
    (∀ c p st, (asking c p (ready st none 2)).serves c p) ∧
    (∀ st, ((ready st none 2).act.slots.get 15).acct = some { payer with state := st }) ∧
    ([15, 255] : List Byte).length = 2 ∧ field [15, 255] 0 1 = (15 : Fin 16).val ∧
    (∀ st, field [15, 255] 1 1 = ((ready st none 2).act.slots.get 15).gen) ∧
    (ready .active none 2).act.oneActive = true ∧ (ready .active none 2).work = Work.clear :=
  ⟨fun _ _ _ => asking_serves _ _ rfl active_ne, fun _ => rfl, by decide, by decide +kernel,
    fun _ => rfl, by decide +kernel⟩

theorem witness_AccountsStayBounded :
    (due charging).act.bounded = true ∧ (due charging).act.tokensDiffer = true ∧
    (∀ i, ((due charging).act.slots.get i).gen < 256) ∧
    (∀ i, ((due charging).tck.tariffs.get i).grace ≤ 240) ∧ ∃ t, step (before (.clockAdvance ⟨3160, 3150, 3158⟩) (due charging)) = .next t :=
  ⟨by decide +kernel, by decide +kernel, by decide +kernel, by decide +kernel, _, rfl⟩

theorem witness_SessionsStayConsistent :
    session.sessionOk = true ∧ ∃ t, step (before .stop (asking 0x30 [] session)) = .next t :=
  ⟨by decide +kernel, _, rfl⟩

theorem witness_ReferencesAreCounted :
    session.refsCount = true ∧ (∀ a ∈ session.act.standing, a.state = .closed → a.pending = none) ∧
    ∃ t, step (before .closeAccount (asking 0x4F [5, 1] session)) = .next t :=
  ⟨by decide +kernel, by decide +kernel, _, rfl⟩

theorem witness_AccountRegistersOnlyRise :
    Instr.clockAdvance ⟨9, 9, 9⟩ ≠ .supplyReset ∧ Instr.clockAdvance ⟨9, 9, 9⟩ ≠ .retireAccount ∧
    ((due charging).act.slots.get 5).acct.map Account.registersBounded = some true ∧
    ∃ t, exec (.clockAdvance ⟨9, 9, 9⟩) (due charging) = .next t :=
  ⟨by decide, by decide, by decide +kernel, _, rfl⟩

theorem witness_AttentionRequestsAreExact :
    (∀ c p l k, (asking c p { live with atn := flagged l k }).serves c p) ∧
    4 ≤ (flagged [0] [6, 5, 4, 3]).stack.length ∧
    ((flagged [5] [3]).stack.length < 4 ∧ (flagged [5] [3]).winner = none) ∧
    ((flagged [0] [6, 5, 4]).stack.length < 4 ∧ (flagged [0] [6, 5, 4]).winner = some 0) ∧
    (flagged [0] []).stack = [] ∧ (flagged [0] [6, 5]).stack = 6 :: [5] ∧
    ([10, 255, 255] : List Byte).length = 3 ∧ 10 < field [11, 0, 0] 0 1 ∧
    field [10, 255, 255] 0 1 = (10 : Fin 11).val ∧ ([0] : List Byte) ≠ [] :=
  ⟨fun _ _ _ _ => asking_serves _ _ rfl active_ne, by decide +kernel⟩

theorem witness_AttentionStaysOrdered :
    (flagged [0, 5] [6, 5, 3]).ordered = true ∧
    ∃ t, step (before .takeAttention
      (asking 0x58 [] { live with atn := flagged [0, 5] [6, 5, 3] })) = .next t :=
  ⟨by decide +kernel, _, rfl⟩

theorem witness_SettingsChangeOnlyByTheirCommands :
    (∃ t, exec .periodicPass session = .next t) ∧ Instr.periodicPass ≠ .supplyReset ∧
    (∀ e, Instr.periodicPass ≠ .clockAdvance e) ∧ ((flagged [5] []).sources.get 5).flag = true :=
  ⟨⟨_, rfl⟩, by decide, fun _ => (nomatch ·), by decide +kernel⟩

end Sys2Proof.Machine.Tests
end

section
/-! What a request's owner keeps, the request keeps: `runRequest_keeps` for each shape of a request's entry. -/

namespace Sys2Proof.Machine

section

variable {P : State → Prop}

/-- The owner of a request keeps a property, whatever the payload. -/
def Keeps (P : State → Prop) (owner : List Byte → State → State × Reply) : Prop :=
  ∀ p s, P s → P (owner p s).1

theorem keeps_noPayload {owner : State → State × Reply} (h : ∀ s, P s → P (owner s).1) :
    Keeps P (noPayload owner) := by
  intro p s hs
  unfold noPayload
  split
  · exact h s hs
  · exact hs

theorem keeps_report (f : State → List Byte) (s : State) (hs : P s) : P (report f s).1 := hs

theorem keeps_oneByte {limit : Nat} {owner : Nat → State → State × Reply}
    (h : ∀ n s, P s → P (owner n s).1) : Keeps P (oneByte limit owner) := by
  intro p s hs
  unfold oneByte
  (repeat' split)
  · exact hs
  · exact hs
  · exact h _ _ hs
  · exact hs

theorem keeps_withHandle {length : Nat} {free : List Byte}
    {owner : Fin 16 → Account → List Byte → State → State × Reply}
    (h : ∀ i a p s, P s → P (owner i a p s).1) : Keeps P (withHandle length free owner) := by
  intro p s hs
  unfold withHandle
  (repeat' split)
  · exact hs
  · exact hs
  · exact hs
  · exact h _ _ _ _ hs
  · exact hs

/-- A request keeps what its owner keeps, when no answer touches it. -/
theorem request_keeps (hanswer : ∀ t r, P t → P (State.answer r t)) {codes : Byte → Bool}
    {owner : List Byte → State → State × Reply} (h : Keeps P owner) {s : State} (hs : P s) :
    P (s.runRequest codes owner) :=
  runRequest_keeps P codes owner s hs hanswer fun p => h p s hs

end

end Sys2Proof.Machine
end

section
/-! What the passes of an event keep of INL, ATN and ACT: of all that an event's end does, only a pass writes
them. -/

namespace Sys2Proof.Machine

/-- A property of INL, ATN and ACT that one pass keeps survives the passes of an event. -/
theorem survives_of_pass (Q : Inlet → Attention → Accounts → Prop)
    (h : ∀ s : State, Q s.inl s.atn s.act → Q s.pass.inl s.pass.atn s.pass.act) :
    Survives fun t => Q t.inl t.atn t.act where
  pass := h
  inLine _ ht := by simpa using ht
  work _ _ ht := ht
  choice _ ht := ht
  unheld _ ht := ht
  restart _ _ ht := ht

end Sys2Proof.Machine
end

section
/-! The inlet record's order (R1, R3, R10, R11): one lemma for each operation that writes INL. -/

namespace Sys2Proof.Machine

/-! ### The record -/

/-- The record as O24 asks for it. -/
def Inlet.inOrder (i : Inlet) : Prop := i.enableFollows = true ∧ i.inRange = true

/-- R3: what a pilot window can leave. -/
def Inlet.pilotInRange (i : Inlet) : Prop :=
  i.duty ≤ 1000 ∧ (i.offered = 0 ∨ 60 ≤ i.offered ∧ i.offered ≤ 540) ∧
  (i.pilot = true ∨ i.duty = 0 ∧ i.offered = 0)

/-- R10, R11: each timer runs in its own state, up to its limit. -/
def Inlet.timersInRange (i : Inlet) : Prop :=
  (i.idleMs = 0 ∨ i.state = .drawing ∧ i.idleMs ≤ Config.idleLimitMs) ∧
  (i.pausingMs = 0 ∨ i.state = .pausing ∧ i.pausingMs ≤ Config.pausingLimitMs)

theorem inOrder_iff {i : Inlet} :
    i.inOrder ↔ i.enable = i.state.enables ∧ i.pilotInRange ∧ i.timersInRange := by
  simp [Inlet.inOrder, Inlet.enableFollows, Inlet.inRange, Inlet.pilotInRange, Inlet.timersInRange, and_assoc]

/-- The record after the entry to a state at wall second `now` (R1). -/
def Inlet.enter (st : InletState) (now : Nat) (i : Inlet) : Inlet :=
  { i with state := st, enable := st.enables, entryTime := now, idleMs := 0, pausingMs := 0 }

@[simp] theorem setInlet_inl (st : InletState) (s : State) :
    (s.setInlet st).inl = s.inl.enter st s.tck.wall := rfl

/-- The entry to a state puts enable and the timers in order. -/
theorem enter_inOrder {i : Inlet} (h : i.pilotInRange) (st : InletState) (now : Nat) :
    (i.enter st now).inOrder :=
  inOrder_iff.2 ⟨rfl, h, .inl rfl, .inl rfl⟩

theorem pilotInRange_of_inOrder {i : Inlet} (h : i.inOrder) : i.pilotInRange := (inOrder_iff.1 h).2.1

theorem idleFollows_inOrder {i : Inlet} (h : i.inOrder) (g : Nat) : (i.idleFollows g).inOrder := by
  unfold Inlet.idleFollows
  split
  · obtain ⟨henable, hpilot, -, hpausing⟩ := inOrder_iff.1 h
    exact inOrder_iff.2 ⟨henable, hpilot, .inl rfl, hpausing⟩
  · exact h

theorem countBand_inOrder {i : Inlet} (h : i.inOrder) (b : Option CableClass) : (i.countBand b).inOrder := by
  unfold Inlet.countBand
  split <;> exact h

/-- One ms moves a timer in its own state alone, and stops it at its limit. -/
theorem tick_inOrder {i : Inlet} (h : i.inOrder) (g : Nat) : (i.tick g).inOrder := by
  obtain ⟨henable, hpilot, hidle, hpausing⟩ := inOrder_iff.1 h
  unfold Inlet.tick
  split
  next hst =>
    split
    · exact inOrder_iff.2 ⟨henable, hpilot, .inr ⟨hst, Nat.min_le_left _ _⟩, hpausing⟩
    · exact h
  next hst => exact inOrder_iff.2 ⟨henable, hpilot, hidle, .inr ⟨hst, Nat.min_le_left _ _⟩⟩
  all_goals exact h

/-- R3: the offer of a duty is 0, or 6 A to 54 A. -/
theorem offerOf_range (d : Nat) : offerOf d = 0 ∨ 60 ≤ offerOf d ∧ offerOf d ≤ 540 := by
  unfold offerOf
  split
  · right; omega
  · exact .inl rfl

/-- R3: a window leaves a duty of at most 1000 permille, and 0 without a pilot. -/
theorem pilotDuty_range (w : PilotWindow) :
    (pilotDuty w).2 ≤ 1000 ∧ ((pilotDuty w).1 = true ∨ (pilotDuty w).2 = 0) := by
  unfold pilotDuty
  split
  · exact ⟨Nat.zero_le _, .inr rfl⟩
  · split
    · exact ⟨Nat.zero_le _, .inr rfl⟩
    · exact ⟨Nat.min_le_left _ _, .inl rfl⟩

/-- The record after a pilot window (R3). -/
def Inlet.takeWindow (w : PilotWindow) (i : Inlet) : Inlet :=
  { i with pilot := (pilotDuty w).1, duty := (pilotDuty w).2, offered := offerOf (pilotDuty w).2 }

theorem takeWindow_inOrder {i : Inlet} (h : i.inOrder) (w : PilotWindow) : (i.takeWindow w).inOrder := by
  obtain ⟨henable, -, htimers⟩ := inOrder_iff.1 h
  obtain ⟨hduty, hpilot⟩ := pilotDuty_range w
  refine inOrder_iff.2 ⟨henable, ⟨hduty, offerOf_range _, hpilot.imp_right fun h0 => ⟨h0, ?_⟩⟩, htimers⟩
  show offerOf (pilotDuty w).2 = 0
  rw [show (pilotDuty w).2 = 0 from h0]
  rfl

theorem reset_inOrder : Inlet.reset.inOrder := ⟨rfl, rfl⟩

/-! ### The operations on the state -/

section

variable {s : State}

theorem enterInlet_inOrder (h : s.inl.pilotInRange) (st : InletState) : (s.enterInlet st).inl.inOrder :=
  enter_inOrder h st s.now

theorem acAppears_inOrder (h : s.inl.inOrder) : s.acAppears.inl.inOrder := by
  unfold State.acAppears
  split
  · exact enterInlet_inOrder (pilotInRange_of_inOrder h) _
  all_goals exact h

theorem acGone_inOrder (h : s.inl.inOrder) : s.acGone.inl.inOrder := by
  unfold State.acGone
  split
  · exact enterInlet_inOrder (pilotInRange_of_inOrder h) _
  · exact enterInlet_inOrder (pilotInRange_of_inOrder h) _
  all_goals exact h

theorem enableDecision_inOrder (h : s.inl.inOrder) (g : Nat) : (s.enableDecision g).inl.inOrder := by
  have hp := pilotInRange_of_inOrder h
  unfold State.enableDecision
  split
  · (repeat' split)
    · exact enter_inOrder hp _ _
    · exact enterInlet_inOrder hp _
    · exact h
  · split
    · exact h
    · exact enterInlet_inOrder hp _
  all_goals exact h

theorem withdrawEnable_inOrder (h : s.inl.inOrder) : s.withdrawEnable.inl.inOrder := by
  unfold State.withdrawEnable
  split
  · exact enterInlet_inOrder (pilotInRange_of_inOrder h) _
  · exact enterInlet_inOrder (pilotInRange_of_inOrder h) _
  all_goals exact h

/-- What applied figures do to INL: a grid grant clears the idle timer (R10). -/
theorem takeFigures_inl_cases (f : Figures) (held safety : Bool) (s : State) :
    (s.takeFigures f held safety).inl = if held then s.inl else s.inl.idleFollows f.gridGrant := by
  simp only [State.takeFigures]
  (repeat' split) <;> simp [State.applyFigures]

theorem pass_inOrder (h : s.inl.inOrder) : s.pass.inl.inOrder := by
  unfold State.pass
  refine enableDecision_inOrder ?_ _
  simp only [raiseCauses_frame, stickCauses_frame, takeFigures_inl_cases, modWork_inl, recordPass_frame]
  split
  · exact h
  · exact idleFollows_inOrder h _

/-- The passes of an event keep the inlet record in order. -/
theorem survives_inOrder : Survives fun t => t.inl.inOrder :=
  survives_of_pass (fun i _ _ => i.inOrder) fun _ h => pass_inOrder h

theorem settle_inOrder (h : s.inl.inOrder) : s.settle.inl.inOrder := settle_survives survives_inOrder h

theorem windowEnd_inOrder (h : s.inl.inOrder) : s.windowEnd.inl.inOrder :=
  windowEnd_survives survives_inOrder h

theorem countChanged_inOrder (h : s.inl.inOrder) (before : Nat) : (s.countChanged before).inl.inOrder := by
  simp only [State.countChanged]
  (repeat' split)
  · exact h
  · exact acAppears_inOrder h
  · exact acGone_inOrder h
  · exact h

theorem readPhases_inOrder (h : s.inl.inOrder) (f : FrontEnd) : (s.readPhases f).inl.inOrder :=
  countChanged_inOrder (by exact h) _

theorem stopMeter_inOrder (h : s.inl.inOrder) : s.stopMeter.inl.inOrder :=
  countChanged_inOrder (by exact h) _

theorem startMeter_inOrder (h : s.inl.inOrder) (f : FrontEnd) : (s.startMeter f).inl.inOrder :=
  readPhases_inOrder (by exact h) f

theorem takeStop_inOrder (h : s.inl.inOrder) (c : StopCause) : (s.takeStop c).inl.inOrder := by
  simp only [State.takeStop, triggerSafety_frame, raise_frame]
  exact withdrawEnable_inOrder (by simpa using h)

/-! ### Measurement -/

theorem completeBase_inOrder (h : s.inl.inOrder) : s.completeBase.inl.inOrder := by
  simp only [State.completeBase, trigger_frame]
  exact windowEnd_inOrder h

theorem passAndStop_inOrder (h : s.inl.inOrder) (fault : Bool) : (s.passAndStop fault).inl.inOrder := by
  have hn : s.nextChoice.inl.inOrder := h
  unfold State.passAndStop
  (repeat' split)
  · exact settle_inOrder (takeStop_inOrder (settle_inOrder hn) _)
  · have hstop := settle_inOrder (takeStop_inOrder hn .insulationFault)
    exact settle_inOrder (by simpa using hstop)
  · exact settle_inOrder h

theorem completeShift_inOrder (h : s.inl.inOrder) : s.completeShift.inl.inOrder := by
  refine passAndStop_inOrder ?_ _
  simp only [nextCycle_frame, handOn_frame, modImon_inl]
  exact windowEnd_inOrder (by simpa using h)

theorem noBus_inOrder (h : s.inl.inOrder) (up un : Nat) : (s.noBus up un).inl.inOrder := by
  simp only [State.noBus, trigger_frame, startCycleIfDue_frame]
  split
  · exact windowEnd_inOrder (by simpa using h)
  · simpa using h

theorem poleReading_inOrder (h : s.inl.inOrder) (up un : Nat) : (s.poleReading up un).inl.inOrder := by
  unfold State.poleReading
  (repeat' split)
  · exact noBus_inOrder h _ _
  · exact h
  · exact h

/-! ### Power states -/

theorem portReset_inOrder (c : ResetCauses) : (s.portReset c).inl.inOrder := by
  simp [State.portReset]
  exact reset_inOrder

theorem enterKeepWarm_inOrder (h : s.inl.inOrder) : s.enterKeepWarm.inl.inOrder := by
  simp only [State.enterKeepWarm, startCycleIfDue_frame, startPasses_frame, setPower_frame]
  exact stopMeter_inOrder h

theorem enterDormant_inOrder (h : s.inl.inOrder) : s.enterDormant.inl.inOrder := by
  simp only [State.enterDormant, clearWork_inl, modRqp_inl, setPower_frame]
  refine stopMeter_inOrder ?_
  split <;> simpa using h

theorem wake_inOrder (h : s.inl.inOrder) (c : WakeCause) (f : FrontEnd) : (s.wake c f).inl.inOrder := by
  simp only [State.wake]
  split
  · simp only [startCycleIfDue_frame, startPasses_frame]
    exact startMeter_inOrder (by simpa using h) f
  all_goals simpa using h

theorem endResumption_inOrder (h : s.inl.inOrder) (f : FrontEnd) (t : ZoneTemps) :
    (s.endResumption f t).inl.inOrder := by
  simp only [State.endResumption, startPasses_frame, startCycle_frame]
  exact startMeter_inOrder (by simpa using h) f

theorem deriveInlet_inOrder (h : s.inl.inOrder) (b : Option CableClass) : (s.deriveInlet b).inl.inOrder := by
  simp only [State.deriveInlet]
  split <;> exact enter_inOrder (by exact pilotInRange_of_inOrder h) _ _

theorem endStarting_inOrder (h : s.inl.inOrder) (ohms : Nat) (f : FrontEnd) (t : ZoneTemps) :
    (s.endStarting ohms f t).inl.inOrder := by
  simp only [State.endStarting, startPasses_frame, startCycle_frame, readZones_frame]
  exact deriveInlet_inOrder (startMeter_inOrder (by simpa using h) f) _

theorem takePark_inOrder (h : s.inl.inOrder) (mode : ParkMode) (n : Nat) :
    (s.takePark mode n).inl.inOrder := by
  unfold State.takePark State.enterMode
  (repeat' split)
  · exact h
  · exact settle_inOrder (enterKeepWarm_inOrder h)
  · exact enterDormant_inOrder h
  · exact h

/-! ### The inlet's own events -/

theorem plugOrWake_inOrder (h : s.inl.inOrder) (k : CableClass) (f : FrontEnd) :
    (s.plugOrWake k f).inl.inOrder := by
  unfold State.plugOrWake
  split
  · exact enter_inOrder (by exact pilotInRange_of_inOrder (wake_inOrder h .plug f)) _ _
  · exact enter_inOrder (by exact pilotInRange_of_inOrder h) _ _

theorem unplug_inOrder (s : State) : s.unplug.inl.inOrder := by
  simp only [State.unplug, triggerSafety_frame, tellImon_frame]
  refine enterInlet_inOrder ?_ _
  simp [Inlet.pilotInRange]

theorem bandAccepted_inOrder (h : s.inl.inOrder) (before after : Option CableClass) (f : FrontEnd) :
    (s.bandAccepted before after f).inl.inOrder := by
  unfold State.bandAccepted
  split
  · exact plugOrWake_inOrder h _ _
  · exact unplug_inOrder s
  · exact h
  · exact h

theorem readProximity_inOrder (h : s.inl.inOrder) (ohms : Nat) (f : FrontEnd) :
    (s.readProximity ohms f).inl.inOrder := by
  have hcount : (s.modInl (Inlet.countBand (bandOf ohms))).inl.inOrder := countBand_inOrder h _
  simp only [State.readProximity]
  split
  · exact bandAccepted_inOrder (by exact hcount) _ _ _
  · exact hcount

theorem offerChange_inOrder (h : s.inl.inOrder) (was is : Bool) : (s.offerChange was is).inl.inOrder := by
  have hp := pilotInRange_of_inOrder h
  unfold State.offerChange
  split
  case h_1 | h_2 | h_3 | h_4 =>
    split
    · exact enterInlet_inOrder hp _
    · exact h
  all_goals exact h

theorem pilotWindow_inOrder (h : s.inl.inOrder) (w : PilotWindow) : (s.pilotWindow w).inl.inOrder := by
  have hpilot : (s.modInl (Inlet.takeWindow w)).inl.inOrder := takeWindow_inOrder h w
  simp only [State.pilotWindow]
  split
  · exact hpilot
  · exact offerChange_inOrder (s := s.modInl (Inlet.takeWindow w)) hpilot _ _

end

/-! ### The blocks of a request that leave INL alone -/

section

variable (s : State)

@[simp] theorem heartbeat_inl : s.heartbeat.inl = s.inl := by
  unfold State.heartbeat
  (repeat' split) <;> rfl

@[simp] theorem closeSlot_inl (i : Fin 16) (a : Account) : (s.closeSlot i a).inl = s.inl := by
  simp only [State.closeSlot]
  split <;> simp

theorem amendRefs_inl {before after : Option (Fin 8)} {s t : State}
    (h : s.amendRefs before after = some t) : t.inl = s.inl := by
  unfold State.amendRefs at h
  (repeat' split at h) <;> cases h <;> simp

@[simp] theorem resetZone_inl (i : Fin 6) : (s.resetZone i).inl = s.inl := by
  simp only [State.resetZone]
  split <;> simp

@[simp] theorem setAllowance_inl (wh : Nat) : (s.setAllowance wh).inl = s.inl := by
  simp only [State.setAllowance]
  (repeat' split) <;> simp

@[simp] theorem reactivate_inl (h : Option Handle) : (s.reactivate h).inl = s.inl := by
  unfold State.reactivate
  (repeat' split) <;> simp

@[simp] theorem restore_inl (c : Context) : (s.restore c).inl = s.inl := by
  have key : ∀ (l : List (Fin 6)) (t : State), (l.foldl (State.restoreZone c) t).inl = t.inl := by
    intro l
    induction l with
    | nil => intro t; rfl
    | cons i rest ih => intro t; rw [List.foldl_cons, ih]; simp [State.restoreZone]
  simp [State.restore, key]

@[simp] theorem takeResume_inl (c : Context) : (s.takeResume c).inl = s.inl := by simp [State.takeResume]

end

/-! ### The requests -/

section

variable {s : State}

theorem request_inOrder {codes : Byte → Bool} {owner : List Byte → State → State × Reply}
    (h : Keeps (fun t => t.inl.inOrder) owner) (hs : s.inl.inOrder) :
    (s.runRequest codes owner).inl.inOrder :=
  request_keeps (P := fun t => t.inl.inOrder) (fun _ _ ht => ht) h hs

/-- A request that only reports leaves the record. -/
theorem report_request_inOrder {codes : Byte → Bool} (f : State → List Byte) (hs : s.inl.inOrder) :
    (s.runRequest codes (noPayload (report f))).inl.inOrder :=
  request_inOrder (keeps_noPayload (keeps_report f)) hs

theorem ownConfigure_inOrder : Keeps (fun t => t.inl.inOrder) ownConfigure := by
  intro p s h
  unfold ownConfigure
  (repeat' split)
  · exact h
  · exact settle_inOrder (by simpa using h)
  · exact h

theorem ownPark_inOrder : Keeps (fun t => t.inl.inOrder) ownPark := by
  intro p s h
  unfold ownPark
  (repeat' split)
  · exact h
  · exact h
  · exact takePark_inOrder h _ _
  · exact h

theorem ownSetChargeLimits_inOrder : Keeps (fun t => t.inl.inOrder) ownSetChargeLimits := by
  intro p s h
  unfold ownSetChargeLimits
  split
  · exact settle_inOrder (by simpa using h)
  · exact h

theorem ownReportBattery_inOrder : Keeps (fun t => t.inl.inOrder) ownReportBattery := by
  intro p s h
  unfold ownReportBattery
  split
  · exact settle_inOrder (by simpa using h)
  · exact h

theorem ownWriteCurve_inOrder : Keeps (fun t => t.inl.inOrder) ownWriteCurve := by
  intro p s h
  unfold ownWriteCurve
  (repeat' split)
  · exact h
  · exact h
  · exact h
  · exact settle_inOrder (by simpa using h)
  · exact h

theorem ownWriteZone_inOrder : Keeps (fun t => t.inl.inOrder) ownWriteZone := by
  intro p s h
  unfold ownWriteZone
  (repeat' split)
  · exact h
  · exact h
  · exact settle_inOrder (by simpa [State.takeWriteZone] using h)
  · exact h

theorem ownReadZone_inOrder : Keeps (fun t => t.inl.inOrder) ownReadZone := by
  intro p s h
  unfold ownReadZone
  (repeat' split) <;> exact h

theorem ownResetZone_inOrder : Keeps (fun t => t.inl.inOrder) ownResetZone := by
  intro p s h
  unfold ownResetZone
  (repeat' split)
  · exact h
  · exact h
  · exact h
  · exact settle_inOrder (by simpa using h)
  · exact h

theorem ownSetAllowance_inOrder : Keeps (fun t => t.inl.inOrder) ownSetAllowance := by
  intro p s h
  unfold ownSetAllowance
  split
  · exact settle_inOrder (by simpa using h)
  · exact h

theorem ownSetThresholds_inOrder : Keeps (fun t => t.inl.inOrder) ownSetThresholds := by
  intro p s h
  unfold ownSetThresholds
  dsimp only
  (repeat' split) <;> exact h

theorem ownReadFault_inOrder (n : Nat) (s : State) (h : s.inl.inOrder) :
    (ownReadFault n s).1.inl.inOrder := by
  unfold ownReadFault
  split <;> exact h

theorem ownAcknowledgeFault_inOrder (n : Nat) (s : State) (h : s.inl.inOrder) :
    (ownAcknowledgeFault n s).1.inl.inOrder := by
  unfold ownAcknowledgeFault
  (repeat' split) <;> exact h

theorem ownRetireFault_inOrder (n : Nat) (s : State) (h : s.inl.inOrder) :
    (ownRetireFault n s).1.inl.inOrder := by
  unfold ownRetireFault
  (repeat' split) <;> exact h

theorem ownResume_inOrder (s : State) (h : s.inl.inOrder) : (ownResume s).1.inl.inOrder := by
  unfold ownResume
  (repeat' split)
  · exact h
  · exact h
  · exact settle_inOrder (by simpa using h)

theorem ownDiscardSnapshot_inOrder (s : State) (h : s.inl.inOrder) :
    (ownDiscardSnapshot s).1.inl.inOrder := by
  unfold ownDiscardSnapshot
  split <;> exact h

theorem ownSetClock_inOrder : Keeps (fun t => t.inl.inOrder) ownSetClock := by
  intro p s h
  unfold ownSetClock
  split <;> exact h

theorem ownWriteTariff_inOrder : Keeps (fun t => t.inl.inOrder) ownWriteTariff := by
  intro p s h
  unfold ownWriteTariff
  dsimp only
  (repeat' split) <;> exact h

theorem ownReadTariff_inOrder (n : Nat) (s : State) (h : s.inl.inOrder) :
    (ownReadTariff n s).1.inl.inOrder := by
  unfold ownReadTariff
  split <;> exact h

theorem ownOpenAccount_inOrder : Keeps (fun t => t.inl.inOrder) ownOpenAccount := by
  intro p s h
  unfold ownOpenAccount
  (repeat' split) <;> exact h

theorem ownFindAccount_inOrder : Keeps (fun t => t.inl.inOrder) ownFindAccount := by
  intro p s h
  unfold ownFindAccount
  (repeat' split) <;> exact h

theorem ownReadAccount_inOrder (i : Fin 16) (a : Account) (p : List Byte) (s : State) (h : s.inl.inOrder) :
    (ownReadAccount i a p s).1.inl.inOrder := by
  unfold ownReadAccount
  (repeat' split) <;> exact h

theorem amendTo_inOrder (pending : Option (Fin 8)) (i : Fin 16) (a : Account) (p : List Byte) (s : State)
    (h : s.inl.inOrder) : (amendTo pending i a p s).1.inl.inOrder := by
  unfold amendTo
  split
  · exact h
  · split
    · exact h
    next s1 hrefs =>
      have h1 : s1.inl.inOrder := by rw [amendRefs_inl hrefs]; exact h
      refine settle_inOrder ?_
      split <;> simpa using h1

theorem ownAmendAccount_inOrder (i : Fin 16) (a : Account) (p : List Byte) (s : State) (h : s.inl.inOrder) :
    (ownAmendAccount i a p s).1.inl.inOrder := by
  unfold ownAmendAccount
  (repeat' split)
  · exact h
  · exact amendTo_inOrder _ _ _ _ _ h
  · exact amendTo_inOrder _ _ _ _ _ h

theorem ownActivateAccount_inOrder (i : Fin 16) (a : Account) (p : List Byte) (s : State)
    (h : s.inl.inOrder) : (ownActivateAccount i a p s).1.inl.inOrder := by
  unfold ownActivateAccount
  split
  · exact settle_inOrder (by simpa using h)
  · exact h

theorem ownSuspendAccount_inOrder (i : Fin 16) (a : Account) (p : List Byte) (s : State)
    (h : s.inl.inOrder) : (ownSuspendAccount i a p s).1.inl.inOrder := by
  unfold ownSuspendAccount
  split
  · exact settle_inOrder (by simpa using h)
  · exact h

theorem ownCloseAccount_inOrder (i : Fin 16) (a : Account) (p : List Byte) (s : State)
    (h : s.inl.inOrder) : (ownCloseAccount i a p s).1.inl.inOrder := by
  unfold ownCloseAccount
  split
  · exact h
  · exact settle_inOrder (by simpa using h)

theorem ownRetireAccount_inOrder (i : Fin 16) (a : Account) (p : List Byte) (s : State)
    (h : s.inl.inOrder) : (ownRetireAccount i a p s).1.inl.inOrder := by
  unfold ownRetireAccount
  split <;> exact h

theorem ownTakeAttention_inOrder (s : State) (h : s.inl.inOrder) : (ownTakeAttention s).1.inl.inOrder := by
  unfold ownTakeAttention
  (repeat' split) <;> exact h

theorem ownReleaseAttention_inOrder (s : State) (h : s.inl.inOrder) :
    (ownReleaseAttention s).1.inl.inOrder := by
  unfold ownReleaseAttention
  split <;> exact h

theorem ownSetAttentionSource_inOrder : Keeps (fun t => t.inl.inOrder) ownSetAttentionSource := by
  intro p s h
  unfold ownSetAttentionSource
  (repeat' split) <;> exact h

end

/-! ### Every command -/

/-- O24 for one command: by the operations of its event, or by its owner. -/
theorem exec_inOrder {c : Instr} {s t : State} (h : s.inl.inOrder) (ht : exec c s = .next t) :
    t.inl.inOrder := by
  cases c <;> cases ht
  case identify => exact report_request_inOrder _ h
  case configure => exact request_inOrder ownConfigure_inOrder h
  case heartbeat =>
    exact request_inOrder (keeps_noPayload fun s hs => settle_inOrder (by simpa using hs)) h
  case restart => exact request_inOrder (keeps_noPayload fun s _ => portReset_inOrder _) h
  case park => exact request_inOrder ownPark_inOrder h
  case readResetCauses => exact report_request_inOrder _ h
  case clearResetCauses => exact request_inOrder (keeps_noPayload fun _ hs => hs) h
  case readInlet => exact report_request_inOrder _ h
  case setChargeLimits => exact request_inOrder ownSetChargeLimits_inOrder h
  case reportBattery => exact request_inOrder ownReportBattery_inOrder h
  case writeCurve => exact request_inOrder ownWriteCurve_inOrder h
  case readCurve => exact report_request_inOrder _ h
  case readAllocation => exact request_inOrder (keeps_oneByte fun _ _ hs => hs) h
  case writeZone => exact request_inOrder ownWriteZone_inOrder h
  case readZone => exact request_inOrder ownReadZone_inOrder h
  case resetZone => exact request_inOrder ownResetZone_inOrder h
  case setAllowance => exact request_inOrder ownSetAllowance_inOrder h
  case readAllowance => exact report_request_inOrder _ h
  case readInsulation => exact report_request_inOrder _ h
  case setThresholds => exact request_inOrder ownSetThresholds_inOrder h
  case readFault => exact request_inOrder (keeps_oneByte ownReadFault_inOrder) h
  case acknowledgeFault => exact request_inOrder (keeps_oneByte ownAcknowledgeFault_inOrder) h
  case retireFault => exact request_inOrder (keeps_oneByte ownRetireFault_inOrder) h
  case stop =>
    exact request_inOrder (keeps_noPayload fun _ hs => settle_inOrder (takeStop_inOrder hs _)) h
  case resume => exact request_inOrder (keeps_noPayload ownResume_inOrder) h
  case discardSnapshot => exact request_inOrder (keeps_noPayload ownDiscardSnapshot_inOrder) h
  case readSnapshot => exact report_request_inOrder _ h
  case readMeter => exact request_inOrder (keeps_oneByte fun _ _ hs => hs) h
  case clearUnbilled => exact request_inOrder (keeps_noPayload fun _ hs => hs) h
  case setClock => exact request_inOrder ownSetClock_inOrder h
  case readClock => exact report_request_inOrder _ h
  case writeTariff => exact request_inOrder ownWriteTariff_inOrder h
  case readTariff => exact request_inOrder (keeps_oneByte ownReadTariff_inOrder) h
  case openAccount => exact request_inOrder ownOpenAccount_inOrder h
  case findAccount => exact request_inOrder ownFindAccount_inOrder h
  case listAccounts => exact report_request_inOrder _ h
  case readAccount => exact request_inOrder (keeps_withHandle ownReadAccount_inOrder) h
  case amendAccount => exact request_inOrder (keeps_withHandle ownAmendAccount_inOrder) h
  case activateAccount => exact request_inOrder (keeps_withHandle ownActivateAccount_inOrder) h
  case suspendAccount => exact request_inOrder (keeps_withHandle ownSuspendAccount_inOrder) h
  case closeAccount => exact request_inOrder (keeps_withHandle ownCloseAccount_inOrder) h
  case retireAccount => exact request_inOrder (keeps_withHandle ownRetireAccount_inOrder) h
  case takeAttention => exact request_inOrder (keeps_noPayload ownTakeAttention_inOrder) h
  case releaseAttention => exact request_inOrder (keeps_noPayload ownReleaseAttention_inOrder) h
  case setAttentionSource => exact request_inOrder ownSetAttentionSource_inOrder h
  case unknownRequest => exact request_inOrder (fun _ _ hs => hs) h
  case transactionStart => split <;> exact h
  case transactionEnd => split <;> exact h
  case proximityReading ohms f =>
    split
    · exact settle_inOrder (readProximity_inOrder h ohms f)
    · exact h
  case pilotWindowEnd w =>
    split
    · exact settle_inOrder (pilotWindow_inOrder h w)
    · exact h
  case idleTimerExpiry =>
    split
    · exact settle_inOrder (enterInlet_inOrder (pilotInRange_of_inOrder h) _)
    · exact h
  case pausingTimerExpiry =>
    split
    · exact settle_inOrder (enterInlet_inOrder (pilotInRange_of_inOrder h) _)
    · exact h
  case quickReading f =>
    split
    · exact settle_inOrder (readPhases_inOrder h f)
    · exact h
  case periodicPass =>
    split
    · exact settle_inOrder (by simpa using h)
    · exact h
  case batteryReportStale =>
    split
    · exact settle_inOrder (by simpa using h)
    · exact h
  case zoneSensorReading temps =>
    split
    · exact settle_inOrder (by simpa using h)
    · exact h
  case clockAdvance e =>
    split
    · exact settle_inOrder (by simpa using h)
    · exact h
  case poleVoltageReading up un =>
    split
    · exact h
    · exact settle_inOrder (poleReading_inOrder h _ _)
  case cyclePeriodExpiry => split <;> simpa using h
  case baseSettleEnd => split <;> simpa using h
  case baseSampleEnd =>
    split
    · exact settle_inOrder (completeBase_inOrder h)
    · exact h
  case shiftSettleEnd => split <;> simpa using h
  case shiftSampleEnd =>
    split
    · exact completeShift_inOrder h
    · exact h
  case supervisionExpiry =>
    split
    · exact settle_inOrder (by simpa [State.expireSupervision] using h)
    · exact h
  case wakeLineEdge e f =>
    split
    · exact settle_inOrder (wake_inOrder h _ _)
    · exact h
  case wakeTimerExpiry f =>
    split
    · exact settle_inOrder (wake_inOrder h _ _)
    · exact h
  case resumptionEnd f temps =>
    split
    · exact settle_inOrder (endResumption_inOrder h _ _)
    · exact h
  case startingEnd ohms f temps =>
    split
    · exact settle_inOrder (endStarting_inOrder h _ _ _)
    · exact h
  case supplyReset => exact reset_inOrder
  case resetPin =>
    split
    · exact h
    · exact portReset_inOrder _
  case resetPinRelease => exact h

/-- Settles O24: the tick keeps the record's order, and so does every command. -/
theorem inletRecordStaysInOrder : Obligations.InletRecordStaysInOrder := by
  intro s t h hstep
  unfold step at hstep
  split at hstep
  · cases hstep
    rw [tick_inl]
    exact tick_inOrder h _
  next _ rest _ => exact exec_inOrder (s := s.withPending rest) h hstep

end Sys2Proof.Machine
end

section
/-! What the passes of an event do to INL, and what of an event's own work they leave (R8, R13, R20). -/

namespace Sys2Proof.Machine

/-- The end of an event: the reports are taken up, and a trigger brings the first pass (R20). -/
theorem settle_eq (s : State) : s.settle =
    if s.takeReports.work.trigger && s.takeReports.blocksRun then State.passes 31 s.takeReports.pass
    else s.takeReports.clearWork := rfl

/-! ### The states in which a pass decides nothing (R8) -/

/-- The states that a pass's enable decision leaves alone. -/
def InletState.steady : InletState → Bool
  | .offered | .ready => false
  | .unplugged | .plugged | .drawing | .pausing | .faulted => true

theorem enableDecision_of_steady {s : State} (h : s.inl.state.steady = true) (g : Nat) :
    s.enableDecision g = s := by
  unfold State.enableDecision
  split
  next hst => simp [hst, InletState.steady] at h
  next hst => simp [hst, InletState.steady] at h
  all_goals rfl

/-- What a record is once the passes of an event have run over it in a steady state (R10). -/
def Inlet.keptAs (i j : Inlet) : Prop := j = i ∨ j = { i with idleMs := 0 }

theorem keptAs_idleFollows {i j : Inlet} (h : i.keptAs j) (g : Nat) : i.keptAs (j.idleFollows g) := by
  unfold Inlet.idleFollows
  split
  · rcases h with rfl | rfl
    · exact .inr rfl
    · exact .inr rfl
  · exact h

theorem keptAs_state {i j : Inlet} (h : i.keptAs j) : j.state = i.state := by
  rcases h with rfl | rfl <;> rfl

/-- A raise of ALLOCATION leaves INLET. -/
theorem raiseCauses_inletSource (s : State) : s.raiseCauses.atn.sources.get 5 = s.atn.sources.get 5 := by
  simp only [State.raiseCauses]
  split
  · rfl
  · exact raise_other _ _ _ (by decide)

/-- The state of a pass before its enable decision. -/
def State.passed (s : State) : State :=
  (((s.recordPass.modWork fun w => { w with trigger := false, safety := false }).takeFigures s.passFigures
    s.passHeld s.passSafety).stickCauses s.passCauses).raiseCauses

theorem pass_eq (s : State) : s.pass = s.passed.enableDecision s.passGrid.grant := rfl

theorem passed_inl (s : State) :
    s.passed.inl = if s.passHeld then s.inl else s.inl.idleFollows s.passFigures.gridGrant := by
  simp [State.passed, takeFigures_inl_cases]

theorem passed_state (s : State) : s.passed.inl.state = s.inl.state := by
  rw [passed_inl]
  unfold Inlet.idleFollows
  (repeat' split) <;> rfl

theorem passed_inletSource (s : State) : s.passed.atn.sources.get 5 = s.atn.sources.get 5 := by
  simp [State.passed, raiseCauses_inletSource]

theorem pass_of_steady {s : State} (h : s.inl.state.steady = true) : s.pass = s.passed := by
  rw [pass_eq, enableDecision_of_steady (by rw [passed_state]; exact h)]

/-- In a steady state the passes of an event leave the record but for the idle timer, and INLET as raised. -/
theorem settle_of_steady {s : State} (h : s.inl.state.steady = true) :
    s.inl.keptAs s.settle.inl ∧ s.settle.atn.sources.get 5 = s.atn.sources.get 5 :=
  settle_survives (survives_of_pass
    (fun i a _ => s.inl.keptAs i ∧ a.sources.get 5 = s.atn.sources.get 5) (by
      rintro t ⟨hinl, hsrc⟩
      rw [pass_of_steady (by rw [keptAs_state hinl]; exact h), passed_inletSource, passed_inl]
      refine ⟨?_, hsrc⟩
      split
      · exact hinl
      · exact keptAs_idleFollows hinl _)) ⟨.inl rfl, rfl⟩

/-! ### Offered, Ready and Drawing -/

/-- R8: the states among which the enable decision moves. -/
def InletState.offering : InletState → Bool
  | .offered | .ready | .drawing => true
  | .unplugged | .plugged | .pausing | .faulted => false

theorem enableDecision_offering {s : State} (h : s.inl.state.offering = true) (g : Nat) :
    (s.enableDecision g).inl.state.offering = true := by
  unfold State.enableDecision
  split
  · (repeat' split)
    · rfl
    · rfl
    · exact h
  · split
    · exact h
    · rfl
  all_goals exact h

theorem settle_offering {s : State} (h : s.inl.state.offering = true) :
    s.settle.inl.state.offering = true :=
  settle_survives (survives_of_pass (fun i _ _ => i.state.offering = true) fun t ht =>
    enableDecision_offering (s := t.passed) (by rw [passed_state]; exact ht) _) h

/-! ### Flags -/

/-- R170: a raise clears no request flag. -/
theorem raise_flag {src : Source} {d : Detail} {s : State} {i : Fin 11}
    (h : (s.atn.sources.get i).flag = true) : ((s.raise src d).atn.sources.get i).flag = true := by
  by_cases hi : i = src.index
  · subst hi; simp
  · rw [raise_other _ _ _ hi]; exact h

theorem enterInlet_flag {st : InletState} {s : State} {i : Fin 11}
    (h : (s.atn.sources.get i).flag = true) : ((s.enterInlet st).atn.sources.get i).flag = true := by
  simp only [State.enterInlet, State.inletChanged, trigger_frame]
  exact raise_flag (by exact h)

theorem pass_flag {s : State} {i : Fin 11} (h : (s.atn.sources.get i).flag = true) :
    (s.pass.atn.sources.get i).flag = true := by
  have hpassed : (s.passed.atn.sources.get i).flag = true := by
    simp only [State.passed, State.raiseCauses]
    split
    · simpa using h
    · exact raise_flag (by simpa using h)
  rw [pass_eq]
  unfold State.enableDecision
  (repeat' split)
  · exact enterInlet_flag (enterInlet_flag hpassed)
  · exact enterInlet_flag hpassed
  · exact hpassed
  · exact hpassed
  · exact enterInlet_flag hpassed
  all_goals exact hpassed

/-- The passes of an event clear no request flag. -/
theorem settle_flag {s : State} {i : Fin 11} (h : (s.atn.sources.get i).flag = true) :
    (s.settle.atn.sources.get i).flag = true :=
  settle_survives (survives_of_pass (fun _ a _ => (a.sources.get i).flag = true) fun _ ht => pass_flag ht) h

/-- R13: an entry to a state raises INLET with the state and class after it. -/
theorem enterInlet_inletSource (st : InletState) (s : State) :
    (s.enterInlet st).atn.sources.get 5 =
      { s.atn.sources.get 5 with flag := true, detail := some (.inlet st s.inl.cls) } :=
  raise_self .inlet _ _

theorem enterInlet_other_source (st : InletState) (s : State) {i : Fin 11} (h : i ≠ 5) :
    (s.enterInlet st).atn.sources.get i = s.atn.sources.get i :=
  raise_other .inlet _ _ h

/-! ### The inputs that the passes of a triggered event read (R21) -/

@[simp] theorem pass_inputs (s : State) : s.pass.alc.inputs = s.passInputs := by
  have h : ∀ (f : Figures) (held safety : Bool) (t : State),
      (t.takeFigures f held safety).alc.inputs = t.alc.inputs := by
    intro f held safety t
    simp only [State.takeFigures]
    (repeat' split) <;> simp [State.applyFigures]
  simp [State.pass, h, State.recordPass]

section

variable {P : State → Prop} {R : PassInputs → Prop}

/-- What every pass reads, the record of the last pass shows. -/
theorem reads_survives (hP : Survives P) (hR : ∀ t, P t → R t.passInputs) :
    Survives fun t => P t ∧ R t.alc.inputs where
  pass t h := ⟨hP.pass t h.1, by rw [pass_inputs]; exact hR t h.1⟩
  inLine t h := ⟨hP.inLine t h.1, by simpa using h.2⟩
  work t f h := ⟨hP.work t f h.1, h.2⟩
  choice t h := ⟨hP.choice t h.1, h.2⟩
  unheld t h := ⟨hP.unheld t h.1, h.2⟩
  restart t n h := ⟨hP.restart t n h.1, h.2⟩

theorem zonesInLine_trigger {s : State} (h : s.work.trigger = true) : s.zonesInLine.work.trigger = true := by
  unfold State.zonesInLine
  split
  · rfl
  · exact h

/-- A discard leaves the trigger of the event standing, or takes it up in a pass of its own. -/
theorem takeReports_reads (hP : Survives P) (hR : ∀ t, P t → R t.passInputs) {s : State} (hs : P s)
    (htrigger : s.work.trigger = true) :
    s.takeReports.work.trigger = true ∨ R s.takeReports.alc.inputs := by
  have hpassed : ∀ t, P t → R t.pass.zonesInLine.alc.inputs := fun t ht => by simpa using hR t ht
  unfold State.takeReports State.discardSample
  split
  · split
    · simp only [State.windowEnd]
      (repeat' split)
      · exact .inr (hpassed _ (hP.choice _ (hP.unheld _ (hP.restart _ _ (hP.work _ _ hs)))))
      · exact .inl (zonesInLine_trigger rfl)
      · exact .inl (zonesInLine_trigger rfl)
      · exact .inl (zonesInLine_trigger htrigger)
    · exact .inl htrigger
  · exact .inl htrigger

/-- R20, R21: where ALC runs, a triggered pass reads what stands throughout the event. -/
theorem settle_reads (hP : Survives P) (hR : ∀ t, P t → R t.passInputs) {s : State} (hs : P s)
    (htrigger : s.work.trigger = true) (hruns : s.blocksRun = true) : R s.settle.alc.inputs := by
  have hkeeps := reads_survives hP hR
  have h1 : P s.takeReports := takeReports_survives hP hs
  have hruns1 : s.takeReports.blocksRun = true := by
    rw [(runs_congr (s := s) (by simp)).1]; exact hruns
  simp only [settle_eq, hruns1, Bool.and_true]
  split
  · exact (passes_survives hkeeps 31 ⟨hP.pass _ h1, by rw [pass_inputs]; exact hR _ h1⟩).2
  next hoff => exact (takeReports_reads hP hR hs htrigger).resolve_left hoff

end

/-- INL's sensed fields survive the passes of an event. -/
theorem survives_sensed (i : Inlet) : Survives fun t => t.inl.sensed = i.sensed :=
  survives_of_pass (fun j _ _ => j.sensed = i.sensed) fun t h => (pass_inl t).trans h

theorem sensed_eq {i j : Inlet} : i.sensed = j.sensed ↔ i.cls = j.cls ∧ i.pilot = j.pilot ∧
    i.duty = j.duty ∧ i.offered = j.offered ∧ i.accepted = j.accepted ∧ i.runBand = j.runBand ∧
    i.runCount = j.runCount := by
  simp [Inlet.sensed]

/-! ### The accounts, the charger command and the measurement -/

/-- R35: without an Active account a pass changes no account. -/
theorem settle_act_of_none {s : State} (h : s.act.activeSlot = none) : s.settle.act = s.act :=
  settle_survives (survives_of_pass (fun _ _ t => t = s.act) fun t ht => by
    simp [State.pass, State.stickCauses, ht, h]) rfl

theorem passFigures_iChg {s : State} (h : s.inl.state ≠ .drawing) : s.passFigures.iChg = 0 := by
  simp [State.passFigures, PassInputs.figures, State.passInputs, h]

theorem takeFigures_chargerCmd (f : Figures) (held safety : Bool) (s : State) :
    (s.takeFigures f held safety).alc.chargerCmd = if held then s.alc.chargerCmd else f.iChg := by
  simp only [State.takeFigures]
  (repeat' split) <;> simp [State.applyFigures]

/-- R27, R32: a charger command of 0 stays 0 outside Drawing. -/
theorem pass_chargerCmd {s : State} (h : s.inl.state ≠ .drawing) (h0 : s.alc.chargerCmd = 0) :
    s.pass.alc.chargerCmd = 0 := by
  simp only [State.pass, enableDecision_frame, raiseCauses_frame, stickCauses_frame, takeFigures_chargerCmd]
  split
  · simpa [State.recordPass] using h0
  · exact passFigures_iChg h

theorem settle_chargerCmd {s : State} (hst : s.inl.state.steady = true) (hdraw : s.inl.state ≠ .drawing)
    (h0 : s.alc.chargerCmd = 0) : s.settle.alc.chargerCmd = 0 :=
  (settle_survives (P := fun t => t.inl.state = s.inl.state ∧ t.alc.chargerCmd = 0)
    { pass := by
        rintro t ⟨hinl, hcmd⟩
        refine ⟨?_, pass_chargerCmd (by rw [hinl]; exact hdraw) hcmd⟩
        rw [pass_of_steady (by rw [hinl]; exact hst), passed_state, hinl]
      inLine := fun t ht => by simpa using ht
      work := fun _ _ ht => ht
      choice := fun _ ht => ht
      unheld := fun _ ht => ht
      restart := fun _ _ ht => ht } ⟨rfl, h0⟩).2

/-- The measurement after a discard report (R73). -/
def Insulation.discarded (m : Insulation) : Insulation :=
  { m with cycle := m.cycle.restart, phaseMs := 0, discards := min 255 (m.discards + 1), sumP := 0,
           sumN := 0, samples := 0 }

theorem discardSample_imon (s : State) :
    s.discardSample.imon = if s.sampleOpen then s.imon.discarded else s.imon := by
  unfold State.discardSample
  split <;> simp [Insulation.discarded]

@[simp] theorem modWork_sampleOpen (f : Work → Work) (s : State) :
    (s.modWork f).sampleOpen = s.sampleOpen := rfl

theorem sampleOpen_congr {s t : State} (h : t.imon = s.imon) : t.sampleOpen = s.sampleOpen := by
  simp [State.sampleOpen, h]

theorem sampleOpen_of_discarded {s t : State} (h : t.imon = s.imon.discarded) : t.sampleOpen = false := by
  simp only [State.sampleOpen, h, Insulation.discarded]
  cases s.imon.cycle <;> rfl

theorem takeReports_imon_of_closed {s : State} (h : s.sampleOpen = false) : s.takeReports.imon = s.imon := by
  unfold State.takeReports
  split
  · simp [discardSample_imon, h]
  · rfl

theorem takeReports_imon_of_opening {s : State} (h : s.work.opening = true) :
    s.takeReports.imon = if s.sampleOpen then s.imon.discarded else s.imon := by
  simp only [State.takeReports, h, Bool.true_or, if_true, discardSample_imon]
  rfl

/-- Outside a Sample phase the passes of an event leave the measurement. -/
theorem passes_imon_of_closed : (n : Nat) → {s : State} → s.sampleOpen = false →
    (State.passes n s).imon = s.imon
  | 0, _, _ => rfl
  | n + 1, s, h => by
    have h1 := takeReports_imon_of_closed h
    have h2 : s.takeReports.pass.imon = s.imon := by simpa using h1
    simp only [State.passes]
    split
    · rw [passes_imon_of_closed n (by rw [sampleOpen_congr h2]; exact h), h2]
    · exact h1

/-- R73: a safety change told to IMON discards the sample in progress, once. -/
theorem settle_imon_of_opening {s : State} (h : s.work.opening = true) :
    s.settle.imon = if s.sampleOpen then s.imon.discarded else s.imon := by
  have h1 := takeReports_imon_of_opening h
  have hclosed : s.takeReports.sampleOpen = false := by
    cases hopen : s.sampleOpen <;> simp only [hopen, if_true, Bool.false_eq_true, if_false] at h1
    · rw [sampleOpen_congr h1, hopen]
    · exact sampleOpen_of_discarded h1
  rw [← h1, settle_eq]
  split
  · rw [passes_imon_of_closed 31 (by rw [sampleOpen_congr (s := s.takeReports) (by simp)]; exact hclosed)]
    simp
  · rfl

end Sys2Proof.Machine
end

section
/-! The inlet's events (chapter 1): idle time, the timers, pilot windows and proximity readings. -/

namespace Sys2Proof.Machine

/-! ### Idle time (assumption 2) -/

theorem inlet_tick_eq (i : Inlet) (g : Nat) : i.tick g =
    { i with
      idleMs := if i.state = .drawing ∧ g = 0 then min 30000 (i.idleMs + 1) else i.idleMs,
      pausingMs := if i.state = .pausing then min 3000 (i.pausingMs + 1) else i.pausingMs } := by
  obtain ⟨state, _⟩ := i
  cases state
  case drawing =>
    unfold Inlet.tick
    by_cases hg : g = 0 <;> simp [hg, count, Config.idleLimitMs]
  all_goals simp [Inlet.tick, count, Config.pausingLimitMs]

theorem tickStale_eq (a : Alloc) :
    a.tickStale = { a with staleMs := if a.repStale then a.staleMs else min 2000 (a.staleMs + 1) } := by
  unfold Alloc.tickStale
  split <;> rfl

theorem parked_iff (s : State) : s.parked = true ↔ s.pwc.state = .keepWarm ∨ s.pwc.state = .dormant := by
  unfold State.parked
  cases s.pwc.state <;> simp

/-- R195: in a parked state the elapsed count gains a minute every 60000 ms, up to 10080. -/
theorem parked_tick_eq (s : State) : (if s.parked then s.pwc.tickWake else s.pwc) =
    if (s.pwc.state = .keepWarm ∨ s.pwc.state = .dormant) ∧ s.pwc.elapsedMin < 10080 then
      { s.pwc with
        elapsedMin := if 60000 ≤ s.pwc.elapsedMs + 1 then s.pwc.elapsedMin + 1 else s.pwc.elapsedMin,
        elapsedMs := if 60000 ≤ s.pwc.elapsedMs + 1 then 0 else s.pwc.elapsedMs + 1 }
    else s.pwc := by
  simp only [← parked_iff, Power.tickWake, Config.maxWakeMinutes, Config.minuteMs]
  by_cases hp : s.parked = true
  · by_cases hm : 10080 ≤ s.pwc.elapsedMin
    · simp [hm, Nat.not_lt.2 hm]
    · by_cases ht : 60000 ≤ s.pwc.elapsedMs + 1 <;> simp [hp, hm, Nat.not_le.1 hm, ht]
  · simp [hp]

/-- Settles O2: block by block, by what one ms does to each. -/
theorem idleStepPassesOneMillisecond : Obligations.IdleStepPassesOneMillisecond := by
  intro s hs
  refine ⟨s.tick, by simp [step, hs], by simp [Clock.tick, count, Config.secondMs],
    by rw [tick_inl, inlet_tick_eq], ?_, ?_, ?_, ?_, by rw [tick_pwc, parked_tick_eq], by simp⟩
  · rw [tick_alc, tickStale_eq]
    split <;> rfl
  · rw [tick_imon]
    split <;> rfl
  · rw [tick_mtr]
    split <;> rfl
  · rw [tick_rqp]
    rfl

/-! ### The inlet's timers (R10, R11) -/

theorem exec_idleTimerExpiry (s : State) : exec .idleTimerExpiry s =
    .next (if s.inl.state = .drawing ∧ s.alc.force.gridGrant = 0 ∧ 30000 ≤ s.inl.idleMs then
      (s.enterInlet .pausing).settle else s) := rfl

theorem exec_pausingTimerExpiry (s : State) : exec .pausingTimerExpiry s =
    .next (if s.inl.state = .pausing ∧ 0 < s.mtr.n ∧ 3000 ≤ s.inl.pausingMs then
      (s.enterInlet .faulted).settle else s) := rfl

/-- R1, R13: an entry to a steady state stands through the passes of its event. -/
theorem settle_enterInlet {st : InletState} (h : st.steady = true) (s : State) :
    (s.enterInlet st).settle.inl = s.inl.enter st s.tck.wall ∧
    (s.enterInlet st).settle.atn.sources.get 5 =
      { s.atn.sources.get 5 with flag := true, detail := some (.inlet st s.inl.cls) } := by
  obtain ⟨hinl, hsrc⟩ := settle_of_steady (s := s.enterInlet st) h
  refine ⟨?_, by rw [hsrc, enterInlet_inletSource]⟩
  rcases hinl with hinl | hinl <;> rw [hinl] <;> rfl

/-- Settles O23: both expiries enter a steady state. -/
theorem inletTimersExpire : Obligations.InletTimersExpire := by
  intro s
  rw [exec_idleTimerExpiry, exec_pausingTimerExpiry]
  refine ⟨?_, ?_, ?_, ?_⟩
  · intro hst hgrant hms
    obtain ⟨hinl, hsrc⟩ := settle_enterInlet (st := .pausing) rfl s
    refine ⟨_, by rw [if_pos ⟨hst, hgrant, hms⟩], ?_⟩
    simp only [hinl, hsrc]
    simp [Inlet.enter, InletState.enables]
  · intro hst hn hms
    obtain ⟨hinl, hsrc⟩ := settle_enterInlet (st := .faulted) rfl s
    refine ⟨_, by rw [if_pos ⟨hst, hn, hms⟩], ?_⟩
    simp only [hinl, hsrc]
    simp [Inlet.enter, InletState.enables]
  · rintro (hst | hms)
    · rw [if_neg fun h => hst h.1]
    · rw [if_neg fun h => Nat.not_le.2 hms h.2.2]
  · rintro (hst | hms)
    · rw [if_neg fun h => hst h.1]
    · rw [if_neg fun h => Nat.not_le.2 hms h.2.2]

/-! ### Pilot windows (R3, R7) -/

/-- R7: the state that an offer change leaves. -/
def InletState.afterOffer (was is : Bool) : InletState → InletState
  | .plugged => if !was && is then .offered else .plugged
  | .offered => if was && !is then .plugged else .offered
  | .ready => if was && !is then .plugged else .ready
  | .drawing => if was && !is then .pausing else .drawing
  | .unplugged => .unplugged
  | .pausing => .pausing
  | .faulted => .faulted

theorem afterOffer_same (b : Bool) (st : InletState) : st.afterOffer b b = st := by
  cases st <;> cases b <;> rfl

/-- R7: an offer change enters the state it brings, or leaves the record. -/
theorem offerChange_cases (was is : Bool) (s : State) :
    (s.inl.state.afterOffer was is = s.inl.state ∧ s.offerChange was is = s) ∨
    s.offerChange was is = s.enterInlet (s.inl.state.afterOffer was is) := by
  unfold State.offerChange
  cases s.inl.state <;> cases was <;> cases is <;> simp [InletState.afterOffer]

theorem offerChange_frame (was is : Bool) (s : State) :
    (s.offerChange was is).rqp = s.rqp ∧ (s.offerChange was is).tck = s.tck ∧
    (s.offerChange was is).stu = s.stu ∧ (s.offerChange was is).mtr = s.mtr ∧
    (s.offerChange was is).pwc = s.pwc := by
  rcases offerChange_cases was is s with ⟨-, h⟩ | h <;> simp [h]

theorem offerChange_state (was is : Bool) (s : State) :
    (s.offerChange was is).inl.state = s.inl.state.afterOffer was is := by
  rcases offerChange_cases was is s with ⟨hst, h⟩ | h
  · rw [h, hst]
  · rw [h]; rfl

theorem offerChange_sensed (was is : Bool) (s : State) :
    (s.offerChange was is).inl.sensed = s.inl.sensed := by
  rcases offerChange_cases was is s with ⟨-, h⟩ | h
  · rw [h]
  · rw [h]; rfl

theorem offerValid_congr {i j : Inlet} (h : i.sensed = j.sensed) : i.offerValid = j.offerValid := by
  obtain ⟨-, hpilot, -, hoffered, -⟩ := sensed_eq.1 h
  simp [Inlet.offerValid, hpilot, hoffered]

theorem pilotWindow_eq (w : PilotWindow) (s : State) : s.pilotWindow w =
    if (s.inl.takeWindow w).offered = s.inl.offered then s.modInl (Inlet.takeWindow w)
    else ((s.modInl (Inlet.takeWindow w)).offerChange s.inl.offerValid
      (s.inl.takeWindow w).offerValid).trigger := rfl

theorem pilotWindow_frame (w : PilotWindow) (s : State) :
    (s.pilotWindow w).rqp = s.rqp ∧ (s.pilotWindow w).tck = s.tck ∧ (s.pilotWindow w).stu = s.stu ∧
    (s.pilotWindow w).mtr = s.mtr ∧ (s.pilotWindow w).pwc = s.pwc := by
  rw [pilotWindow_eq]
  split
  · simp
  · simp [offerChange_frame]

theorem pilotWindow_sensed (w : PilotWindow) (s : State) :
    (s.pilotWindow w).inl.sensed = (s.inl.takeWindow w).sensed := by
  rw [pilotWindow_eq]
  split
  · rfl
  · simp [offerChange_sensed]

/-- A window without a full period offers nothing. -/
theorem takeWindow_pilot (w : PilotWindow) (i : Inlet) (h : (i.takeWindow w).pilot = false) :
    (i.takeWindow w).offered = 0 := by
  show offerOf (pilotDuty w).2 = 0
  have hp : (pilotDuty w).1 = false := h
  rw [(pilotDuty_range w).2.resolve_left (by rw [hp]; decide)]
  rfl

/-- R7: an offered current that stays is valid after as it was before, when none stood without a pilot. -/
theorem takeWindow_valid {w : PilotWindow} {i : Inlet} (h : (i.takeWindow w).offered = i.offered)
    (h0 : i.pilot = false → i.offered = 0) : (i.takeWindow w).offerValid = i.offerValid := by
  have hnew : (i.takeWindow w).pilot = false → i.offered = 0 := fun hp => h ▸ takeWindow_pilot w i hp
  unfold Inlet.offerValid
  rw [h]
  cases hp : i.pilot <;> cases hq : (i.takeWindow w).pilot
  · rfl
  · simp [h0 hp, Config.minAmps]
  · simp [hnew hq, Config.minAmps]
  · rfl

/-- R7: the state after a window whose validity is settled by its offered current. -/
theorem pilotWindow_state {w : PilotWindow} {s : State} (h0 : s.inl.pilot = false → s.inl.offered = 0) :
    (s.pilotWindow w).inl.state =
      s.inl.state.afterOffer s.inl.offerValid (s.inl.takeWindow w).offerValid := by
  rw [pilotWindow_eq]
  split
  next h => rw [takeWindow_valid h h0, afterOffer_same]; rfl
  next h => exact offerChange_state _ _ _

end Sys2Proof.Machine
end

section
/-! Pilot windows: the whole of a window's event (R3, R7). -/

namespace Sys2Proof.Machine

theorem settle_state_of_steady {s : State} (h : s.inl.state.steady = true) :
    s.settle.inl.state = s.inl.state := keptAs_state (settle_of_steady h).1

/-- R3: a well-formed window's duty is the high share in permille. -/
theorem pilotDuty_periods {high total : Nat} (h : (PilotWindow.periods high total).wf = true) :
    pilotDuty (.periods high total) = (true, high * 1000 / total) := by
  simp only [PilotWindow.wf, Bool.and_eq_true, decide_eq_true_eq] at h
  obtain ⟨htotal, hhigh⟩ := h
  have hduty : high * 1000 / total ≤ 1000 := Nat.div_le_of_le_mul (by nlinarith)
  simp [pilotDuty, Nat.pos_iff_ne_zero.1 htotal, hduty]

/-- R3, R7: what a window's event leaves INL with. -/
theorem pilotWindow_settle_sensed (w : PilotWindow) (s : State) :
    (s.pilotWindow w).settle.inl.sensed = (s.inl.takeWindow w).sensed :=
  (settle_inl _).trans (pilotWindow_sensed w s)

theorem pilotWindow_settle_offerValid (w : PilotWindow) (s : State) :
    (s.pilotWindow w).settle.inl.offerValid = (s.inl.takeWindow w).offerValid :=
  offerValid_congr (pilotWindow_settle_sensed w s)

/-- A valid offer stands with a pilot. -/
theorem offerValid_pilot {i : Inlet} (h : i.offerValid = true) : i.pilot = false → i.offered = 0 := by
  intro hp
  simp [Inlet.offerValid, hp] at h

/-- R7: where the window leaves a steady state, the passes that follow leave it too. -/
theorem pilotWindow_settle_state {w : PilotWindow} {s : State} {st : InletState}
    (h0 : s.inl.pilot = false → s.inl.offered = 0)
    (hst : s.inl.state.afterOffer s.inl.offerValid (s.inl.takeWindow w).offerValid = st)
    (hsteady : st.steady = true) : (s.pilotWindow w).settle.inl.state = st := by
  have h := (pilotWindow_state h0).trans hst
  rw [settle_state_of_steady (by rw [h]; exact hsteady), h]

/-- R7, R8: where the window leaves Offered, Ready or Drawing, the passes that follow stay among them. -/
theorem pilotWindow_settle_offering {w : PilotWindow} {s : State} {st : InletState}
    (h0 : s.inl.pilot = false → s.inl.offered = 0)
    (hst : s.inl.state.afterOffer s.inl.offerValid (s.inl.takeWindow w).offerValid = st)
    (hoffering : st.offering = true) : (s.pilotWindow w).settle.inl.state.offering = true :=
  settle_offering (by rw [pilotWindow_state h0, hst]; exact hoffering)

/-- R7: a window without effect on the state keeps Pausing and Faulted. -/
theorem pilotWindow_state_of_kept {w : PilotWindow} {s : State}
    (h : s.inl.state = .pausing ∨ s.inl.state = .faulted) :
    (s.pilotWindow w).inl.state = s.inl.state := by
  rw [pilotWindow_eq]
  split
  · rfl
  · rw [(trigger_frame _).1, offerChange_state]
    show s.inl.state.afterOffer _ _ = _
    rcases h with h | h <;> rw [h] <;> rfl

/-- R7: the loss of the offer in Offered or Ready is an entry to Plugged. -/
theorem pilotWindow_loss {w : PilotWindow} {s : State} (hst : s.inl.state = .offered ∨ s.inl.state = .ready)
    (hwas : s.inl.offerValid = true) (his : (s.inl.takeWindow w).offerValid = false) :
    s.pilotWindow w = ((s.modInl (Inlet.takeWindow w)).enterInlet .plugged).trigger := by
  rw [pilotWindow_eq]
  split
  next hsame => rw [takeWindow_valid hsame (offerValid_pilot hwas), hwas] at his; cases his
  next =>
    have hlost : s.inl.state.afterOffer true false = .plugged := by rcases hst with h | h <;> rw [h] <;> rfl
    rw [hwas, his]
    rcases offerChange_cases true false (s.modInl (Inlet.takeWindow w)) with ⟨hsame, -⟩ | henter
    · have hplugged : s.inl.state = .plugged := hsame.symm.trans hlost
      simp [hplugged] at hst
    · rw [henter]
      exact congrArg (fun st => ((s.modInl (Inlet.takeWindow w)).enterInlet st).trigger) hlost

/-- The pass of an offer change reads the new offer (R7, R20). -/
theorem pilotWindow_settle_reads {w : PilotWindow} {s : State} (hruns : s.meterRuns = true)
    (hchange : (s.inl.takeWindow w).offered ≠ s.inl.offered) :
    (s.pilotWindow w).settle.alc.inputs.offered = (s.inl.takeWindow w).offered := by
  have htrigger : (s.pilotWindow w).work.trigger = true := by
    rw [pilotWindow_eq, if_neg hchange]; rfl
  have hblocks : (s.pilotWindow w).blocksRun = true := by
    rw [(runs_congr (pilotWindow_frame w s).2.2.2.2).1]
    unfold State.meterRuns at hruns
    unfold State.blocksRun
    cases hp : s.pwc.state <;> simp_all
  refine settle_reads (R := fun x => x.offered = (s.inl.takeWindow w).offered)
    (survives_sensed (s.inl.takeWindow w)) ?_ (pilotWindow_sensed w s) htrigger hblocks
  intro t ht
  exact (sensed_eq.1 ht).2.2.2.1

theorem exec_pilotWindowEnd {w : PilotWindow} {s : State} (hst : s.inl.state ≠ .unplugged)
    (hruns : s.meterRuns = true) : exec (.pilotWindowEnd w) s = .next (s.pilotWindow w).settle := by
  show Host.Outcome.next (if s.inl.state ≠ .unplugged ∧ s.meterRuns = true then _ else s) = _
  rw [if_pos ⟨hst, hruns⟩]

/-- Settles O22: the window's sensed fields, then R7 state by state. -/
theorem pilotWindowSetsTheOffer : Obligations.PilotWindowSetsTheOffer := by
  intro s w hw hst hruns
  obtain ⟨hcls, hpilot, hduty, hoffered, -⟩ := sensed_eq.1 (pilotWindow_settle_sensed w s)
  have hvalid := pilotWindow_settle_offerValid w s
  refine ⟨_, exec_pilotWindowEnd hst hruns, ?_, ?_, ?_, ?_, ?_, ?_, ?_, ?_, hcls, ?_⟩
  · rintro rfl
    exact ⟨hpilot, hduty, hoffered⟩
  · rintro high total rfl
    rw [hpilot, hduty, hoffered]
    simp [Inlet.takeWindow, pilotDuty_periods hw, offerOf]
  · have := offerOf_range (pilotDuty w).2
    rw [hoffered]
    show offerOf (pilotDuty w).2 ≤ 540
    omega
  · intro hplugged hwas h0
    rw [hvalid]
    cases his : (s.inl.takeWindow w).offerValid
    · simp [pilotWindow_settle_state (st := .plugged) h0 (by rw [hplugged, hwas, his]; rfl) rfl]
    · have := pilotWindow_settle_offering (st := .offered) h0 (by rw [hplugged, hwas, his]; rfl) rfl
      cases hnew : (s.pilotWindow w).settle.inl.state <;> simp_all [InletState.offering]
  · intro hdraw hwas
    rw [hvalid]
    have h0 := offerValid_pilot hwas
    cases his : (s.inl.takeWindow w).offerValid
    · exact pilotWindow_settle_state h0 (by rw [hdraw, hwas, his]; rfl) rfl
    · exact pilotWindow_settle_state h0 (by rw [hdraw, hwas, his]; rfl) rfl
  · intro hor hwas
    rw [hvalid]
    refine ⟨fun his => ?_, fun his => ?_⟩
    · obtain ⟨hinl, -⟩ := settle_of_steady
        (s := ((s.modInl (Inlet.takeWindow w)).enterInlet .plugged).trigger) rfl
      rw [pilotWindow_loss hor hwas his]
      rcases hinl with hinl | hinl <;> rw [hinl] <;> exact ⟨rfl, rfl⟩
    · have := pilotWindow_settle_offering (st := s.inl.state) (offerValid_pilot hwas)
        (by rw [hwas, his, afterOffer_same]) (by rcases hor with h | h <;> rw [h] <;> rfl)
      cases hnew : (s.pilotWindow w).settle.inl.state <;> simp_all [InletState.offering]
  · intro hor
    have hkept := pilotWindow_state_of_kept (w := w) hor
    rw [settle_state_of_steady (by rw [hkept]; rcases hor with h | h <;> rw [h] <;> rfl), hkept]
  · intro hchange
    rw [hoffered] at hchange ⊢
    exact pilotWindow_settle_reads hruns hchange
  · simpa using pilotWindow_frame w s

end Sys2Proof.Machine
end

section
/-! Proximity readings: runs, plugs, class changes and unplugs (R2, R5, R6, R14). -/

namespace Sys2Proof.Machine

/-! ### The bands and the run (R2) -/

theorem bandOf_bounds (r : Nat) :
    (bandOf r = none ↔ 10000 ≤ r) ∧ (bandOf r = some .a ↔ 1800 ≤ r ∧ r ≤ 2700) ∧
    (bandOf r = some .b ↔ 820 ≤ r ∧ r < 1800) ∧ (bandOf r = some .c ↔ 330 ≤ r ∧ r < 820) ∧
    (bandOf r = some .d ↔ 120 ≤ r ∧ r < 330) ∧
    (bandOf r = some .invalid ↔ r < 120 ∨ (2700 < r ∧ r < 10000)) := by
  unfold bandOf
  (repeat' split) <;> simp <;> omega

section

variable {s : State} {ohms : Nat} {f : FrontEnd}

theorem exec_proximityReading (h : s.pwc.state ≠ .starting) :
    exec (.proximityReading ohms f) s = .next (s.readProximity ohms f).settle := by
  show Host.Outcome.next (if s.proximityRuns = true then _ else s) = _
  rw [if_pos (by simpa [State.proximityRuns] using h)]

/-- R2: a run that is short, or of the accepted band, only counts. -/
theorem readProximity_counts
    (h : (s.inl.countBand (bandOf ohms)).runCount ≠ 5 ∨ bandOf ohms = s.inl.accepted) :
    s.readProximity ohms f = s.modInl (Inlet.countBand (bandOf ohms)) := by
  have hacc : (s.inl.countBand (bandOf ohms)).accepted = s.inl.accepted := by
    unfold Inlet.countBand
    split <;> rfl
  simp only [State.readProximity, modInl_inl, hacc]
  rw [if_neg]
  rintro ⟨hcount, hband⟩
  exact h.elim (· hcount) hband

theorem countBand_same {i : Inlet} {b : Option CableClass} (h : b = i.runBand) :
    i.countBand b = { i with runCount := min 5 (i.runCount + 1) } := by
  simp [Inlet.countBand, h, Config.bandRun]

theorem countBand_other {i : Inlet} {b : Option CableClass} (h : b ≠ i.runBand) :
    i.countBand b = { i with runBand := b, runCount := 1 } := by
  simp [Inlet.countBand, h.symm]

/-- A reading that only counts is the whole of its command. -/
theorem exec_proximityReading_counts (hst : s.pwc.state ≠ .starting) (hwork : s.work = Work.clear)
    (h : (s.inl.countBand (bandOf ohms)).runCount ≠ 5 ∨ bandOf ohms = s.inl.accepted) :
    exec (.proximityReading ohms f) s = .next (s.modInl (Inlet.countBand (bandOf ohms))) := by
  rw [exec_proximityReading hst, readProximity_counts h, settle_idle (by exact hwork)]

/-- The state whose fifth equal reading has just accepted band `b` (R2). -/
def State.acceptBand (b : Option CableClass) (s : State) : State :=
  s.modInl fun i => { i with runCount := 5, accepted := b }

/-- R2: the fifth equal reading of another band than the accepted one. -/
theorem readProximity_fifth (hband : bandOf ohms = s.inl.runBand) (hcount : s.inl.runCount = 4)
    (hacc : bandOf ohms ≠ s.inl.accepted) : s.readProximity ohms f =
      (s.acceptBand (bandOf ohms)).bandAccepted s.inl.accepted (bandOf ohms) f := by
  simp only [State.readProximity, modInl_inl, countBand_same hband, hcount]
  rw [if_pos ⟨rfl, hacc⟩]
  simp [State.acceptBand, State.modInl, countBand_same hband, hcount]

end

/-! ### A wake (R14, R198, R199) -/

section

variable (s : State)

theorem acAppears_sensed : s.acAppears.inl.sensed = s.inl.sensed := by
  unfold State.acAppears
  split <;> rfl

theorem acGone_sensed : s.acGone.inl.sensed = s.inl.sensed := by
  unfold State.acGone
  split <;> rfl

theorem countChanged_sensed (n : Nat) : (s.countChanged n).inl.sensed = s.inl.sensed := by
  simp only [State.countChanged]
  (repeat' split)
  · rfl
  · exact acAppears_sensed _
  · exact acGone_sensed _
  · rfl

theorem acAppears_other_source {i : Fin 11} (h : i ≠ 5) :
    s.acAppears.atn.sources.get i = s.atn.sources.get i := by
  unfold State.acAppears
  split
  · exact enterInlet_other_source _ _ h
  all_goals rfl

theorem acGone_other_source {i : Fin 11} (h : i ≠ 5) :
    s.acGone.atn.sources.get i = s.atn.sources.get i := by
  unfold State.acGone
  split
  · exact enterInlet_other_source _ _ h
  · exact enterInlet_other_source _ _ h
  all_goals rfl

/-- R9: a change of the live phases raises INLET alone. -/
theorem countChanged_other_source (n : Nat) {i : Fin 11} (h : i ≠ 5) :
    (s.countChanged n).atn.sources.get i = s.atn.sources.get i := by
  simp only [State.countChanged]
  (repeat' split)
  · rfl
  · exact acAppears_other_source _ h
  · exact acGone_other_source _ h
  · rfl

theorem wake_sensed (c : WakeCause) (f : FrontEnd) : (s.wake c f).inl.sensed = s.inl.sensed := by
  simp only [State.wake]
  split
  · simp only [startCycleIfDue_frame, startPasses_frame]
    exact countChanged_sensed _ _
  all_goals rfl

theorem wake_power (c : WakeCause) (f : FrontEnd) : (s.wake c f).pwc.state = .active := by
  simp only [State.wake]
  split <;> simp [Power.unpark]

/-- R198: a wake raises WAKE with its cause and the state it ends. -/
theorem wake_source (c : WakeCause) (f : FrontEnd) : (s.wake c f).atn.sources.get 10 =
    { s.atn.sources.get 10 with flag := true, detail := some (.wake c s.pwc.state) } := by
  have hraise := raise_self .wake (.wake c s.pwc.state) (s.modPwc Power.unpark)
  simp only [State.wake]
  split
  · simp only [startCycleIfDue_frame, startPasses_frame]
    exact (countChanged_other_source _ _ (by decide)).trans hraise
  all_goals exact hraise

end

/-! ### A plug (R5, R14) -/

/-- The part awake: as it stands when not parked, else woken with cause plug. -/
def State.awake (f : FrontEnd) (s : State) : State := if s.parked then s.wake .plug f else s

theorem plugOrWake_eq (k : CableClass) (f : FrontEnd) (s : State) :
    s.plugOrWake k f = (s.awake f).plug k := by
  unfold State.plugOrWake State.awake
  split <;> rfl

theorem awake_of_active {f : FrontEnd} {s : State} (h : s.pwc.state = .active) : s.awake f = s := by
  simp [State.awake, State.parked, h]

theorem awake_of_parked {f : FrontEnd} {s : State} (hstart : s.pwc.state ≠ .starting)
    (hactive : s.pwc.state ≠ .active) : s.awake f = s.wake .plug f := by
  unfold State.awake
  rw [if_pos]
  rw [parked_iff]
  cases h : s.pwc.state <;> simp_all

theorem awake_frame (f : FrontEnd) (s : State) :
    (s.awake f).rqp = s.rqp ∧ (s.awake f).tck = s.tck ∧ (s.awake f).stu = s.stu := by
  unfold State.awake
  split <;> simp

theorem awake_sensed (f : FrontEnd) (s : State) : (s.awake f).inl.sensed = s.inl.sensed := by
  unfold State.awake
  split
  · exact wake_sensed _ _ _
  · rfl

theorem awake_power {f : FrontEnd} {s : State} (h : s.pwc.state ≠ .starting) :
    (s.awake f).pwc.state = .active := by
  by_cases hactive : s.pwc.state = .active
  · rw [awake_of_active hactive, hactive]
  · rw [awake_of_parked h hactive, wake_power]

@[simp] theorem plug_frame (k : CableClass) (s : State) :
    (s.plug k).rqp = s.rqp ∧ (s.plug k).tck = s.tck ∧ (s.plug k).stu = s.stu ∧
    (s.plug k).mtr = s.mtr ∧ (s.plug k).pwc = s.pwc := by
  simp [State.plug]

/-- R5, R13: what a plug and the passes of its event leave INL and the sources with. -/
theorem plug_settle (k : CableClass) (s : State) :
    (s.plug k).settle.inl = { s.inl.enter .plugged s.tck.wall with cls := some k } ∧
    (s.plug k).settle.atn.sources.get 5 =
      { s.atn.sources.get 5 with flag := true, detail := some (.inlet .plugged (some k)) } :=
  settle_enterInlet (st := .plugged) rfl (s.modInl fun i => { i with cls := some k })

theorem plug_settle_wakeSource (k : CableClass) (s : State) :
    (s.plug k).settle.atn.sources.get 10 = s.atn.sources.get 10 := by
  rw [settle_other_source _ (by decide) (by decide)]
  exact enterInlet_other_source _ _ (by decide)

theorem acceptBand_awake_accepted (b : Option CableClass) (f : FrontEnd) (s : State) :
    ((s.acceptBand b).awake f).inl.accepted = b :=
  (sensed_eq.1 (awake_sensed f (s.acceptBand b))).2.2.2.2.1

/-! ### A class change (R2, R13) -/

theorem classChange_settle_source (k : CableClass) (s : State) :
    ((s.classChange k).settle.atn.sources.get 5).flag = true :=
  settle_flag (by
    show (((s.modInl fun i => { i with cls := some k }).raise .inlet _).atn.sources.get
      Source.inlet.index).flag = true
    rw [raise_self])

theorem classChange_settle_sensed (k : CableClass) (s : State) :
    (s.classChange k).settle.inl.sensed = ({ s.inl with cls := some k } : Inlet).sensed :=
  settle_inl _

/-- R2: in a state that no pass decides, a class change leaves the state. -/
theorem classChange_settle_steady {s : State} (k : CableClass) (h : s.inl.state.steady = true) :
    ({ s.inl with cls := some k } : Inlet).keptAs (s.classChange k).settle.inl ∧
    (s.classChange k).settle.atn.sources.get 5 =
      { s.atn.sources.get 5 with flag := true, detail := some (.inlet s.inl.state (some k)) } := by
  obtain ⟨hinl, hsrc⟩ := settle_of_steady (s := s.classChange k) h
  exact ⟨hinl, hsrc.trans (raise_self .inlet _ _)⟩

/-- R2, R20: the pass of a class change reads the new cable current. -/
theorem classChange_settle_reads {s : State} (k : CableClass) (h : s.blocksRun = true) :
    (s.classChange k).settle.alc.inputs.cable = cableAmps (some k) := by
  refine settle_reads (R := fun x => x.cable = cableAmps (some k))
    (survives_sensed { s.inl with cls := some k }) ?_ rfl rfl h
  intro t ht
  show cableAmps t.inl.cls = _
  rw [(sensed_eq.1 ht).1]

/-- Settles O20: the bands, the runs, and the fifth reading's two outcomes. -/
theorem fifthReadingPlugs : Obligations.FifthReadingPlugs := by
  refine ⟨bandOf_bounds, ?_, ?_⟩
  · intro s ohms f hst hwork
    refine ⟨fun hband hcount => ?_, fun hband hacc => ?_, fun hband => ?_⟩
    · have hmin : min 5 (s.inl.runCount + 1) = s.inl.runCount + 1 := by omega
      rw [exec_proximityReading_counts hst hwork (.inl (by rw [countBand_same hband]; simp; omega)),
        State.modInl, countBand_same hband, hmin]
    · rw [exec_proximityReading_counts hst hwork (.inr (hband.trans hacc.symm)), State.modInl,
        countBand_same hband]
    · rw [exec_proximityReading_counts hst hwork (.inl (by rw [countBand_other hband]; simp)),
        State.modInl, countBand_other hband]
  intro s ohms f k hst hk hrun
  have hband : bandOf ohms = s.inl.runBand := hk.trans hrun.symm
  refine ⟨fun hcount hacc => ?_, fun k' hcount hacc hne => ?_⟩
  · have hexec : exec (.proximityReading ohms f) s =
        .next (((s.acceptBand (some k)).awake f).plug k).settle := by
      rw [exec_proximityReading hst, readProximity_fifth hband hcount (by simp [hk, hacc]), hk, hacc,
        ← plugOrWake_eq]
      rfl
    obtain ⟨hinl, hsrc⟩ := plug_settle k ((s.acceptBand (some k)).awake f)
    obtain ⟨hrqp, htck, hstu⟩ := awake_frame f (s.acceptBand (some k))
    obtain ⟨prqp, ptck, pstu, pmtr, ppwc⟩ := plug_frame k ((s.acceptBand (some k)).awake f)
    obtain ⟨tstu, tmtr, ttck, trqp, tpwc, -⟩ := settle_frame (((s.acceptBand (some k)).awake f).plug k)
    refine ⟨_, hexec, ?_⟩
    rw [hinl, hsrc, plug_settle_wakeSource, trqp, prqp, hrqp, ttck, ptck, htck, tstu, pstu, hstu, tmtr, pmtr,
      tpwc, ppwc]
    refine ⟨rfl, rfl, acceptBand_awake_accepted _ _ _, rfl, rfl, rfl, rfl, awake_power hst,
      fun hactive => ?_, fun hparked => ?_, rfl, rfl, rfl⟩
    · rw [awake_of_active (s := s.acceptBand (some k)) hactive]
      exact ⟨rfl, rfl⟩
    · rw [awake_of_parked (s := s.acceptBand (some k)) hst hparked, wake_source]
      exact ⟨rfl, rfl⟩
  · have hexec : exec (.proximityReading ohms f) s =
        .next ((s.acceptBand (some k)).classChange k).settle := by
      rw [exec_proximityReading hst, readProximity_fifth hband hcount (by simp [hk, hacc, hne.symm]), hk,
        hacc]
      rfl
    obtain ⟨hcls, -, -, hoffered, haccepted, -⟩ :=
      sensed_eq.1 (classChange_settle_sensed k (s.acceptBand (some k)))
    refine ⟨_, hexec, hcls, haccepted, classChange_settle_source _ _, ?_, ?_, hoffered, ?_⟩
    · intro hoff hready
      obtain ⟨hinl, hsrc⟩ := classChange_settle_steady (s := s.acceptBand (some k)) k (by
        show s.inl.state.steady = true
        cases h : s.inl.state <;> simp_all [InletState.steady])
      rw [hsrc]
      rcases hinl with hinl | hinl <;> rw [hinl] <;> exact ⟨rfl, rfl, rfl, rfl⟩
    · intro hruns
      rw [classChange_settle_reads k (by exact hruns)]
      cases k <;> rfl
    · simp [State.classChange, State.acceptBand]

/-! ### An unplug (R6, R155) -/

/-- R188: supervision after the Active account has left. -/
theorem disarmSupervision_rqp (s : State) : s.disarmSupervision.rqp =
    { s.rqp with sup := if s.rqp.sup = .expired then .expired else .disarmed } := by
  unfold State.disarmSupervision
  cases h : s.rqp.sup with
  | armed ms => simp
  | disarmed => simp only [reduceCtorEq, if_false]; rw [← h]
  | expired => simp only [if_true]; rw [← h]

/-- The record with the cable gone (R6). -/
def Inlet.unpluggedAt (now : Nat) (i : Inlet) : Inlet :=
  ({ i with cls := none, pilot := false, duty := 0, offered := 0 } : Inlet).enter .unplugged now

theorem unplug_inl (s : State) : s.unplug.inl = s.inl.unpluggedAt s.tck.wall := by
  simp [State.unplug, Inlet.unpluggedAt]

theorem unpluggedAt_kept {i j : Inlet} {now : Nat} (h : (i.unpluggedAt now).keptAs j) :
    j.state = .unplugged ∧ j.cls = none ∧ j.accepted = i.accepted ∧ j.pilot = false ∧ j.duty = 0 ∧
    j.offered = 0 ∧ j.enable = false := by
  rcases h with rfl | rfl <;> exact ⟨rfl, rfl, rfl, rfl, rfl, rfl, rfl⟩

/-- R73: the Settle phase to which a discard in a Sample phase returns. -/
theorem discarded_of_sampleOpen {s : State} (h : s.sampleOpen = true) : s.imon.discarded =
    { s.imon with
      cycle := if s.imon.cycle = .baseSample then .baseSettle else .shiftSettle,
      phaseMs := 0, discards := min 255 (s.imon.discards + 1), sumP := 0, sumN := 0, samples := 0 } := by
  unfold State.sampleOpen at h
  unfold Insulation.discarded
  cases hc : s.imon.cycle <;> simp_all [Cycle.restart]

theorem unplug_frame (s : State) : s.unplug.imon = s.imon ∧ s.unplug.pwc = s.pwc ∧ s.unplug.tck = s.tck ∧
    s.unplug.stu = s.stu ∧ s.unplug.mtr = s.mtr ∧ s.unplug.alc.chargerCmd = 0 := by
  simp [State.unplug]

theorem unplug_of_none {s : State} (h : s.act.activeSlot = none) :
    s.unplug.act = s.act ∧ s.unplug.rqp = s.rqp := by
  simp [State.unplug, State.autoSuspend, h]

/-- R155: an unplug suspends the Active account and raises ACCOUNT. -/
theorem unplug_of_some {s : State} {i : Fin 16} (h : s.act.activeSlot = some i) :
    (s.unplug.act.slots.get i).acct =
      (s.act.slots.get i).acct.map (fun a => { a with state := .suspended, reason := some .unplug }) ∧
    s.unplug.atn.sources.get 6 = { s.atn.sources.get 6 with
      flag := true, detail := some (.account (s.act.handle i) .suspendedUnplug) } ∧
    s.unplug.rqp = { s.rqp with sup := if s.rqp.sup = .expired then .expired else .disarmed } := by
  refine ⟨?_, ?_, ?_⟩
  · simp [State.unplug, State.autoSuspend, h, State.suspendSlot, State.modAccount]
  · simp only [State.unplug, triggerSafety_frame, tellImon_frame]
    rw [enterInlet_other_source _ _ (by decide)]
    simp only [State.autoSuspend, modAlc_act, modInl_act, h]
    rw [show (6 : Fin 11) = Source.account.index from rfl, raise_self]
    simp
  · simp [State.unplug, State.autoSuspend, h, State.suspendSlot, State.modAccount, State.leaveActive,
      disarmSupervision_rqp]
    rfl

/-- An account that keeps all but its sticky flags keeps its state and reason (R165). -/
theorem acct_of_unstuck {x : Option Account} {a : Account}
    (h : x.map Account.unstuck = some a.unstuck) :
    ∃ b, x = some b ∧ b.state = a.state ∧ b.reason = a.reason := by
  obtain ⟨b, hb, hab⟩ := Option.map_eq_some_iff.1 h
  exact ⟨b, hb, (congrArg Account.state hab :), (congrArg Account.reason hab :)⟩

/-- Settles O21: the unplug, and what the passes of its event leave of it. -/
theorem fifthOpenReadingUnplugs : Obligations.FifthOpenReadingUnplugs := by
  intro s ohms f k hst hopen hrun hcount hacc
  have hnone : bandOf ohms = none := (bandOf_bounds ohms).1.2 hopen
  have hexec : exec (.proximityReading ohms f) s = .next (s.acceptBand none).unplug.settle := by
    rw [exec_proximityReading hst, readProximity_fifth (hnone.trans hrun.symm) hcount (by simp [hnone, hacc]),
      hnone, hacc]
    rfl
  obtain ⟨himon, hpwc, htck, hstu, hmtr, hcmd⟩ := unplug_frame (s.acceptBand none)
  have hunplug := unplug_inl (s.acceptBand none)
  have hsteady : (s.acceptBand none).unplug.inl.state.steady = true := by rw [hunplug]; rfl
  have hcharger : (s.acceptBand none).unplug.settle.alc.chargerCmd = 0 :=
    settle_chargerCmd hsteady (by rw [hunplug]; exact InletState.noConfusion) hcmd
  obtain ⟨hinl, -⟩ := settle_of_steady hsteady
  rw [hunplug] at hinl
  obtain ⟨hstate, hcls, haccepted, hpilot, hduty, hoffered, henable⟩ := unpluggedAt_kept hinl
  obtain ⟨tstu, tmtr, ttck, trqp, tpwc, -⟩ := settle_frame (s.acceptBand none).unplug
  refine ⟨_, hexec, hstate, hcls, haccepted, hpilot, hduty, hoffered, henable, hcharger, ?_, ?_, ?_,
    tpwc.trans hpwc, ttck.trans htck, tstu.trans hstu, tmtr.trans hmtr⟩
  · intro i a hactive ha
    obtain ⟨hacct, hsrc, hrqp⟩ := unplug_of_some (s := s.acceptBand none) hactive
    rw [settle_other_source _ (by decide) (by decide), hsrc]
    refine ⟨rfl, rfl, acct_of_unstuck (a := { a with state := .suspended, reason := some .unplug }) ?_,
      trqp.trans hrqp⟩
    rw [(settle_act _ i).2, hacct, show ((s.acceptBand none).act.slots.get i).acct = some a from ha]
    rfl
  · intro hactive
    obtain ⟨hact, hrqp⟩ := unplug_of_none (s := s.acceptBand none) hactive
    exact ⟨(settle_act_of_none (by rw [hact]; exact hactive)).trans hact, trqp.trans hrqp⟩
  · rw [settle_imon_of_opening (s := (s.acceptBand none).unplug) rfl, sampleOpen_congr himon, himon]
    show (if s.sampleOpen = true then s.imon.discarded else s.imon) = _
    split
    next hsample => exact discarded_of_sampleOpen hsample
    next => rfl

end Sys2Proof.Machine
end

section
/-! The images of the read requests (13.5): how their parts are spelled, how long they are, and that each read
request answers its own. -/

namespace Sys2Proof.Machine

/-! ### Bits and lists -/

/-- 13.3: bit `k + 1` of a byte, by its weight. -/
theorem bitIf_succ (b : Bool) (k : Nat) : bitIf b (k + 1) = 2 ^ (k + 1) * if b then 1 else 0 := by
  cases b <;> simp [bitIf]

/-- R203: a set of zones as the sum of its bits. -/
theorem zoneSet_eq (p : Fin 6 → Bool) : zoneSet p =
    bitIf (p 0) 0 + bitIf (p 1) 1 + bitIf (p 2) 2 + bitIf (p 3) 3 + bitIf (p 4) 4 + bitIf (p 5) 5 :=
  congrArg (· + bitIf (p 1) 1 + bitIf (p 2) 2 + bitIf (p 3) 3 + bitIf (p 4) 4 + bitIf (p 5) 5)
    (Nat.zero_add (bitIf (p 0) 0))

/-- The records of a table, one after another in slot order. -/
theorem flatMap_items {n : Nat} {α β : Type} (t : Table n α) (f : α → List β) :
    t.items.flatMap f = ((fins n).map fun i => f (t.get i)).flatten := by
  rw [Table.items_eq, List.flatMap_map, List.flatMap_def]

theorem length_flatMap_const {α β : Type} {k : Nat} {f : α → List β} (h : ∀ x, (f x).length = k)
    (l : List α) : (l.flatMap f).length = k * l.length := by
  simp [List.length_flatMap, h, Nat.mul_comm]

theorem length_flatMap_items {n k : Nat} {α β : Type} (t : Table n α) {f : α → List β}
    (h : ∀ x, (f x).length = k) : (t.items.flatMap f).length = k * n := by
  rw [length_flatMap_const h, t.size]

/-! ### Lengths (13.5) -/

section

variable (s : State)

@[simp] theorem identifyImage_length : (identifyImage s).length = 22 := by simp [identifyImage]

@[simp] theorem inletImage_length : (inletImage s).length = 15 := by simp [inletImage]

@[simp] theorem curveImage_length : (curveImage s).length = 1 + 4 * s.alc.curve.length := by
  have h := length_flatMap_const (k := 4) (f := fun p : CurvePoint => beInt 2 p.temp ++ be 2 p.amps)
    (by simp) s.alc.curve
  simp [curveImage, h, -List.length_flatMap]

@[simp] theorem allocationPart0_length : (allocationPart0 s).length = 38 := by
  have h := length_flatMap_items s.alc.force.zones (be_length 2)
  simp [allocationPart0, h, -List.length_flatMap]

@[simp] theorem allocationPart1_length : (allocationPart1 s).length = 53 := by
  have h := length_flatMap_items s.alc.inputs.zones (k := 3)
    (f := fun z : ZoneInput => be 1 z.state.code ++ be 2 z.demand) (by simp)
  unfold allocationPart1
  simp [h, -List.length_flatMap]

@[simp] theorem zoneImage_length (i : Fin 6) : (zoneImage i s).length = 22 := by simp [zoneImage]

@[simp] theorem poleImage_length (p : PoleRec) : (poleImage p).length = 3 := by simp [poleImage]

@[simp] theorem insulationImage_length : (insulationImage s).length = 41 := by
  unfold insulationImage
  simp

@[simp] theorem faultImage_length (i : Nat) (r : Option FaultRec) : (faultImage i r).length = 16 := by
  cases r <;> simp [faultImage]

@[simp] theorem faultSummary_length : (faultSummary s).length = 29 := by
  have h := length_flatMap_items s.imon.faults (k := 2)
    (f := fun r => be 1 (originCode (r.map FaultRec.origin)) ++ be 1 (faultCode r)) (by simp)
  simp [faultSummary, h, -List.length_flatMap]

@[simp] theorem snapshotImage_length : (snapshotImage s).length = 31 := by
  unfold snapshotImage
  cases s.stu.bank with
  | none => simp
  | some c =>
    have h := length_flatMap_items c.targets (beInt_length 2)
    simp [h, -List.length_flatMap]

@[simp] theorem meterPart0_length : (meterPart0 s).length = 38 := by
  have h := length_flatMap_items s.mtr.phases (k := 9)
    (f := fun p => be 2 p.volts ++ be 2 p.amps ++ beInt 4 p.watts ++ flagByte p.live) (by simp)
  simp [meterPart0, h, -List.length_flatMap, -List.append_assoc]

@[simp] theorem tickImage_length (r : TickRec) : (tickImage r).length = 24 := by simp [tickImage]

@[simp] theorem meterPart1_length : (meterPart1 s).length = 31 := by
  unfold meterPart1
  cases s.mtr.last <;> simp

@[simp] theorem clockImage_length : (clockImage s).length = 15 := by simp [clockImage]

@[simp] theorem bandImage_length (bands : List TariffBand) (k : Nat) : (bandImage bands k).length = 6 := by
  unfold bandImage
  split <;> simp

@[simp] theorem tariffImage_length (i : Fin 8) : (tariffImage i s).length = 33 := by simp [tariffImage]

@[simp] theorem standing_length (i : Fin 16) : (standing i s).length = 3 := by simp [standing]

@[simp] theorem accountList_length :
    (accountList s).length = 1 + 3 * ((fins 16).filter fun i => (s.account i).isSome).length := by
  have h := length_flatMap_const (k := 3) (f := fun i => standing i s) (by simp) s.usedSlots
  simp [accountList, h, -List.length_flatMap]
  rfl

@[simp] theorem capBytes_length (a : Account) : (capBytes a).length = 10 := by simp [capBytes]

@[simp] theorem accountPart0_length (i : Fin 16) (a : Account) : (accountPart0 i a s).length = 38 := by
  simp [accountPart0]

@[simp] theorem accountPart1_length (a : Account) : (accountPart1 a).length = 40 := by simp [accountPart1]

end

/-! ### The answers -/

section

variable {s : State} {c : Byte}

/-- A request without payload that only reports answers its image. -/
theorem report_answers {f : State → List Byte} (h : s.serves c []) :
    Host.Outcome.next (φ := Fault) (ρ := Refusal) (s.runRequest (isCode c) (noPayload (report f))) =
      .next (s.answer ⟨.ok, f s⟩) :=
  congrArg _ (runRequest_serves h _)

/-- A request whose owner only reports on this payload answers its image. -/
theorem owner_answers {owner : List Byte → State → State × Reply} {p image : List Byte} (h : s.serves c p)
    (howner : owner p s = (s, ⟨.ok, image⟩)) :
    Host.Outcome.next (φ := Fault) (ρ := Refusal) (s.runRequest (isCode c) owner) =
      .next (s.answer ⟨.ok, image⟩) := by
  rw [runRequest_serves h, howner]

theorem ownReadZone_of_number (i : Fin 6) (s : State) :
    ownReadZone [BitVec.ofNat 8 (i.val + 1)] s = (s, ⟨.ok, zoneImage i s⟩) := by
  fin_cases i <;> rfl

theorem readFault_of_slot (i : Fin 8) (s : State) :
    oneByte 8 ownReadFault [BitVec.ofNat 8 i.val] s =
      (s, ⟨.ok, faultImage i.val (s.imon.faults.get i)⟩) := by
  fin_cases i <;> rfl

theorem readTariff_of_index (i : Fin 8) (s : State) :
    oneByte 7 ownReadTariff [BitVec.ofNat 8 i.val] s = (s, ⟨.ok, tariffImage i s⟩) := by
  fin_cases i <;> rfl

theorem readAllowance_image (s : State) :
    be 2 s.hzc.allowWh ++ be 2 s.hzc.allowJ ++ flagByte s.debiting =
      be 2 s.hzc.allowWh ++ be 2 s.hzc.allowJ ++
        be 1 (if s.alc.force.source = .battery ∧ 0 < s.alc.force.hGrant then 1 else 0) := by
  simp [flagByte, State.debiting]

/-! A handle in a payload (R203). -/

theorem field_handle_slot (h : Handle) (rest : List Byte) : field (h.bytes ++ rest) 0 1 = h.slot.val := by
  have := h.slot.isLt
  simp [field, Handle.bytes, be, ofBytes]
  omega

theorem field_handle_gen {h : Handle} (hgen : h.gen < 256) (rest : List Byte) :
    field (h.bytes ++ rest) 1 1 = h.gen := by
  simp [field, Handle.bytes, be, ofBytes]
  omega

theorem slotOf16_val (i : Fin 16) : slotOf16 i.val = some i := by simp [slotOf16]

/-- R147: a handle that stands passes every check. -/
theorem withHandle_of_standing {i : Fin 16} {a : Account} (ha : s.account i = some a)
    (hgen : (s.act.slots.get i).gen < 256) {length : Nat} {free rest : List Byte}
    (hlen : rest.length + 2 = length)
    (owner : Fin 16 → Account → List Byte → State → State × Reply) :
    withHandle length free owner ((s.act.handle i).bytes ++ rest) s =
      owner i a ((s.act.handle i).bytes ++ rest) s := by
  have hslot : slotOf16 (s.act.handle i).slot.val = some i := slotOf16_val i
  have hfield : field ((s.act.handle i).bytes ++ rest) 1 1 = (s.act.slots.get i).gen :=
    field_handle_gen (h := s.act.handle i) hgen rest
  unfold withHandle
  rw [if_pos (by simp; omega), field_handle_slot, hslot]
  simp only [hfield, ha, ne_eq, not_true_eq_false, if_false]

theorem readAccount_part (i : Fin 16) (a : Account) (h : Handle) (b : Byte) (hb : b.toNat ≤ 1) (s : State) :
    ownReadAccount i a (h.bytes ++ [b]) s =
      (s, ⟨.ok, if b.toNat = 0 then accountPart0 i a s else accountPart1 a⟩) := by
  have hfield : field (h.bytes ++ [b]) 2 1 = b.toNat := by simp [field, Handle.bytes, be, ofBytes]
  unfold ownReadAccount
  rw [hfield]
  split
  · rfl
  · rw [if_pos (by omega)]; rfl

/-- R151: Read Account on a handle that stands answers the part it names. -/
theorem readAccount_answers {i : Fin 16} {a : Account} {b : Byte} (ha : s.account i = some a)
    (hgen : (s.act.slots.get i).gen < 256) (hb : b.toNat ≤ 1)
    (h : s.serves 0x4B ((s.act.handle i).bytes ++ [b])) : exec .readAccount s =
      .next (s.answer ⟨.ok, if b.toNat = 0 then accountPart0 i a s else accountPart1 a⟩) :=
  owner_answers h ((withHandle_of_standing ha hgen rfl _).trans (readAccount_part i a _ b hb s))

end

/-! ### The images, field by field -/

/-- R203: bit n−1 of a zone set weighs 2 to the n−1. -/
theorem zoneSet_weights (p : Fin 6 → Bool) : zoneSet p =
    (if p 0 then 1 else 0) + 2 * (if p 1 then 1 else 0) + 4 * (if p 2 then 1 else 0) +
    8 * (if p 3 then 1 else 0) + 16 * (if p 4 then 1 else 0) + 32 * (if p 5 then 1 else 0) := by
  rw [zoneSet_eq]
  simp only [bitIf_succ]
  rfl

theorem acctCode_eq (x : Option Account) : acctCode x = (x.map fun a => a.state.code).getD 0 := by
  cases x <;> rfl

theorem resumeCode_eq (x : Option ZoneState) : resumeCode x = (x.map ZoneState.code).getD 255 := by
  cases x <;> rfl

theorem bandImage_eq (bands : List TariffBand) (k : Nat) : bandImage bands k =
    be 2 ((bands[k]?.map TariffBand.start).getD 0) ++ be 4 ((bands[k]?.map TariffBand.price).getD 0) := by
  unfold bandImage
  cases bands[k]? <;> rfl

theorem poleImage_eq (p : PoleRec) : poleImage p = be 1 p.severity.code ++ be 1 (gradeCode p.grade) ++
    be 1 (p.warnCount + 4 * p.faultCount + 16 * p.normalCount) := by
  unfold poleImage
  rw [Nat.mul_comm p.faultCount, Nat.mul_comm p.normalCount]

theorem defined_eq (t : Tariff) : t.defined = decide (t.bands ≠ []) := by
  unfold Tariff.defined
  cases t.bands <;> rfl

/-- Settles O6: each image field by field, then each request's answer and the length of its image. The codes
of 13.3 that the statement writes out are the model's own. -/
theorem readRequestsReport : Obligations.ReadRequestsReport := by
  intro s yes inletCode cableCode zoneCode zoneFaultNo stateCode reasonNo powerCode senseCode supCode
    sourceCode poleNo severityCode gradeNo cycleCode measuredCode recordNo originNo locatedCode causeCode
    zoneNo zones handle pole
  have hrecord : ∀ x, faultCode x = recordNo x := by
    rintro (_ | ⟨_, state, _⟩)
    · rfl
    · cases state <;> rfl
  have horigin : ∀ x, originCode x = originNo x := by
    rintro (_ | (_ | _) | _) <;> rfl
  refine ⟨?identify, ?curve, ?alloc0, ?alloc1, ?ins, ?fault, ?summary, ?snap, ?meter0, ?meter1, ?clock,
    ?tariff, ?list, ?inlet, ?zone, ?acct, ?answers⟩
  case identify => exact rfl
  case curve => exact rfl
  case alloc0 =>
    unfold allocationPart0
    simp only [flatMap_items]
    exact rfl
  case alloc1 =>
    unfold allocationPart1
    simp only [flatMap_items, bitIf_succ, Nat.mul_comm _ 16]
    exact rfl
  case ins =>
    unfold insulationImage
    simp only [bitIf_succ, poleImage_eq]
    exact rfl
  case fault =>
    intro k x
    unfold faultImage
    rw [hrecord]
    cases x with
    | none =>
      have hcode : originNo none = 0 := rfl
      simp only [Option.map_none, Option.getD_none, List.append_assoc, hcode]
      exact rfl
    | some x =>
      have hcode : x.origin.code = originNo (some x.origin) := horigin (some x.origin)
      simp only [Option.map_some, Option.getD_some, List.append_assoc, hcode]
      exact rfl
  case summary =>
    unfold faultSummary
    simp only [flatMap_items, zoneSet_weights, hrecord, horigin, List.contains_eq_mem]
    exact rfl
  case snap =>
    unfold snapshotImage
    cases s.stu.bank with
    | none => exact rfl
    | some c =>
      simp only [zoneSet_weights, flatMap_items]
      exact rfl
  case meter0 =>
    unfold meterPart0
    simp only [flatMap_items]
    exact rfl
  case meter1 =>
    unfold meterPart1
    cases s.mtr.last with
    | none => exact rfl
    | some q => exact rfl
  case clock => exact rfl
  case tariff =>
    intro i
    unfold tariffImage
    simp only [bandImage_eq, defined_eq]
    exact rfl
  case list =>
    unfold accountList standing
    simp only [acctCode_eq]
    exact rfl
  case inlet => exact rfl
  case zone =>
    intro i
    unfold zoneImage
    simp only [resumeCode_eq]
    exact rfl
  case acct =>
    intro i a ha
    refine ⟨?_, rfl⟩
    unfold accountPart0 standing
    simp only [bitIf_succ, ha]
    exact rfl
  case answers =>
    refine ⟨fun h => ⟨report_answers h, identifyImage_length s⟩,
      fun h => ⟨report_answers h, inletImage_length s⟩,
      fun h => ⟨report_answers h, curveImage_length s⟩,
      fun h => ⟨owner_answers h rfl, allocationPart0_length s⟩,
      fun h => ⟨owner_answers h rfl, allocationPart1_length s⟩,
      fun i h => ⟨owner_answers h (ownReadZone_of_number i s), zoneImage_length s i⟩,
      fun h => (report_answers h).trans (by rw [readAllowance_image]),
      fun h => ⟨report_answers h, insulationImage_length s⟩,
      fun i h => ⟨owner_answers h (readFault_of_slot i s), faultImage_length _ _⟩,
      fun h => ⟨owner_answers h rfl, faultSummary_length s⟩,
      fun h => ⟨report_answers h, snapshotImage_length s⟩,
      fun h => ⟨owner_answers h rfl, meterPart0_length s⟩,
      fun h => ⟨owner_answers h rfl, meterPart1_length s⟩,
      fun h => ⟨report_answers h, clockImage_length s⟩,
      fun i h => ⟨owner_answers h (readTariff_of_index i s), tariffImage_length s i⟩,
      fun h => ⟨report_answers h, accountList_length s⟩,
      fun i a ha hgen => ⟨fun h => ⟨readAccount_answers ha hgen (by decide) h, accountPart0_length s i a⟩,
        fun h => ⟨readAccount_answers ha hgen (by decide) h, accountPart1_length a⟩⟩⟩

end Sys2Proof.Machine
end

section
/-! Calm operations: what a block asks of another inside an event, short of a pass, leaves the thresholds, the
poles' records, the zones' settings and the allowance, clears no request flag and takes back no trigger. -/

namespace Sys2Proof.Machine

/-! ### The relation -/

/-- R18, R44: the settings of a zone that Write Zone and Resume alone write. -/
def Zone.tuning (z : Zone) := (z.target, z.gain, z.pMax, z.priority)

/-- R67, R81: the thresholds with the poles' records. -/
def Insulation.judged (m : Insulation) := (m.warnTh, m.faultTh, m.pos, m.neg)

/-- R170, R171: ATN goes from `a` to `b` by raises alone. -/
structure Attention.Rises (a b : Attention) : Prop where
  settings : b.settings = a.settings
  flags    : ∀ i, (a.sources.get i).flag = true → (b.sources.get i).flag = true

theorem Attention.Rises.refl (a : Attention) : a.Rises a := ⟨rfl, fun _ h => h⟩

theorem Attention.Rises.trans {a b c : Attention} (h : a.Rises b) (k : b.Rises c) : a.Rises c :=
  ⟨k.settings.trans h.settings, fun i hi => k.flags i (h.flags i hi)⟩

/-- An operation that leads from `s` to `t` is calm. -/
structure State.Calm (s t : State) : Prop where
  judged    : t.imon.judged = s.imon.judged
  tuning    : ∀ i, (t.zone i).tuning = (s.zone i).tuning
  allowance : t.hzc.allowWh = s.hzc.allowWh ∧ t.hzc.allowJ = s.hzc.allowJ
  atn       : s.atn.Rises t.atn
  trigger   : s.work.trigger = true → t.work.trigger = true

section

variable {s t u : State}

theorem State.Calm.refl (s : State) : s.Calm s := ⟨rfl, fun _ => rfl, ⟨rfl, rfl⟩, .refl _, id⟩

theorem State.Calm.trans (h : s.Calm t) (k : t.Calm u) : s.Calm u where
  judged := k.judged.trans h.judged
  tuning i := (k.tuning i).trans (h.tuning i)
  allowance := ⟨k.allowance.1.trans h.allowance.1, k.allowance.2.trans h.allowance.2⟩
  atn := h.atn.trans k.atn
  trigger := k.trigger ∘ h.trigger

/-- An operation that leaves IMON, HZC and ATN is calm when it leaves the trigger. -/
theorem calm_of_same (himon : t.imon = s.imon) (hhzc : t.hzc = s.hzc) (hatn : t.atn = s.atn)
    (htrigger : s.work.trigger = true → t.work.trigger = true) : s.Calm t :=
  ⟨by rw [himon], fun i => by simp [State.zone, hhzc], by simp [hhzc], by rw [hatn]; exact .refl _, htrigger⟩

/-! ### The updates of one block -/

theorem modInl_calm (f : Inlet → Inlet) : s.Calm (s.modInl f) := calm_of_same rfl rfl rfl id
theorem modAlc_calm (f : Alloc → Alloc) : s.Calm (s.modAlc f) := calm_of_same rfl rfl rfl id
theorem modStu_calm (f : Stops → Stops) : s.Calm (s.modStu f) := calm_of_same rfl rfl rfl id
theorem modMtr_calm (f : Meter → Meter) : s.Calm (s.modMtr f) := calm_of_same rfl rfl rfl id
theorem modTck_calm (f : Clock → Clock) : s.Calm (s.modTck f) := calm_of_same rfl rfl rfl id
theorem modAct_calm (f : Accounts → Accounts) : s.Calm (s.modAct f) := calm_of_same rfl rfl rfl id
theorem modRqp_calm (f : Port → Port) : s.Calm (s.modRqp f) := calm_of_same rfl rfl rfl id

theorem modImon_calm {f : Insulation → Insulation} (h : ∀ m, (f m).judged = m.judged) :
    s.Calm (s.modImon f) := ⟨h _, fun _ => rfl, ⟨rfl, rfl⟩, .refl _, id⟩

theorem modLoc_calm (f : Locating → Locating) : s.Calm (s.modLoc f) := modImon_calm fun _ => rfl

theorem modZone_calm {f : Zone → Zone} (h : ∀ z, (f z).tuning = z.tuning) (i : Fin 6) :
    s.Calm (s.modZone i f) where
  judged := rfl
  tuning j := by rw [zone_modZone]; split <;> simp [h]
  allowance := ⟨rfl, rfl⟩
  atn := .refl _
  trigger := id

/-- Every zone changed alike. -/
theorem mapZones_calm {f : Zone → Zone} (h : ∀ z, (f z).tuning = z.tuning) :
    s.Calm (s.modHzc fun x => { x with zones := x.zones.map f }) where
  judged := rfl
  tuning j := by simp [State.zone, h]
  allowance := ⟨rfl, rfl⟩
  atn := .refl _
  trigger := id

theorem raise_calm (src : Source) (d : Detail) : s.Calm (s.raise src d) :=
  ⟨rfl, fun _ => rfl, ⟨rfl, rfl⟩, ⟨raise_settings _ _ _, fun _ h => raise_flag h⟩, id⟩

theorem trigger_calm : s.Calm s.trigger := calm_of_same rfl rfl rfl fun _ => rfl
theorem triggerSafety_calm : s.Calm s.triggerSafety := calm_of_same rfl rfl rfl fun _ => rfl
theorem tellImon_calm : s.Calm s.tellImon := calm_of_same rfl rfl rfl id

theorem noteOpening_calm (z : Zone) : s.Calm (s.noteOpening z) := by
  unfold State.noteOpening
  split
  · exact tellImon_calm
  · exact .refl s

/-! ### Supervision and accounts -/

theorem armSupervision_calm : s.Calm s.armSupervision := by
  unfold State.armSupervision
  split
  · exact (modRqp_calm _).trans trigger_calm
  · exact modRqp_calm _
  · exact .refl s

theorem disarmSupervision_calm : s.Calm s.disarmSupervision := by
  unfold State.disarmSupervision
  split
  · exact (modRqp_calm _).trans trigger_calm
  · exact .refl s
  · exact .refl s

theorem modAccount_calm (i : Fin 16) (f : Account → Account) : s.Calm (s.modAccount i f) := modAct_calm _

theorem suspendSlot_calm (i : Fin 16) (r : SuspendReason) : s.Calm (s.suspendSlot i r) :=
  (modAccount_calm i _).trans (disarmSupervision_calm.trans trigger_calm)

theorem autoSuspend_calm (r : SuspendReason) (e : AcctEvent) : s.Calm (s.autoSuspend r e) := by
  unfold State.autoSuspend
  split
  · exact .refl s
  · exact (suspendSlot_calm _ r).trans (raise_calm _ _)

/-! ### The inlet -/

theorem inletChanged_calm : s.Calm s.inletChanged := (raise_calm _ _).trans trigger_calm

theorem enterInlet_calm (st : InletState) : s.Calm (s.enterInlet st) :=
  (modInl_calm _).trans inletChanged_calm

theorem acAppears_calm : s.Calm s.acAppears := by
  unfold State.acAppears
  split
  · exact enterInlet_calm _
  all_goals exact .refl s

theorem acGone_calm : s.Calm s.acGone := by
  unfold State.acGone
  split
  · exact enterInlet_calm _
  · exact enterInlet_calm _
  all_goals exact .refl s

theorem withdrawEnable_calm : s.Calm s.withdrawEnable := by
  unfold State.withdrawEnable
  split
  · exact enterInlet_calm _
  · exact enterInlet_calm _
  all_goals exact .refl s

theorem countChanged_calm (n : Nat) : s.Calm (s.countChanged n) := by
  simp only [State.countChanged]
  (repeat' split)
  · exact .refl s
  · exact trigger_calm.trans acAppears_calm
  · exact trigger_calm.trans acGone_calm
  · exact trigger_calm

/-! ### Zones -/

theorem recompute_tuning (z : Zone) : z.recompute.tuning = z.tuning := rfl
theorem toFaulted_tuning (r : ZoneFault) (z : Zone) : (z.toFaulted r).tuning = z.tuning := rfl
theorem toIsolated_tuning (z : Zone) : z.toIsolated.tuning = z.tuning := rfl

theorem released_tuning (live : Bool) (z : Zone) : (z.released live).tuning = z.tuning := by
  unfold Zone.released
  split <;> rfl

theorem stopped_tuning (z : Zone) : z.stopped.tuning = z.tuning := by
  unfold Zone.stopped
  split <;> rfl

theorem tuning_of_settings {y z : Zone} (h : y.settings = z.settings) : y.tuning = z.tuning := by
  simp only [Zone.settings, Prod.mk.injEq] at h
  obtain ⟨-, htarget, hgain, hpMax, hpriority, -⟩ := h
  simp [Zone.tuning, htarget, hgain, hpMax, hpriority]

theorem inLine_tuning (live : Bool) (z : Zone) : (z.inLine live).tuning = z.tuning :=
  tuning_of_settings (inLine_settings live z)

theorem abandonRecord_calm : s.Calm s.abandonRecord := by
  unfold State.abandonRecord
  split
  · exact .refl s
  · exact modImon_calm fun _ => rfl

theorem zoneFault_calm (i : Fin 6) (r : ZoneFault) (e : ZoneEvent) : s.Calm (s.zoneFault i r e) := by
  have hopen := (noteOpening_calm (s := s) (s.zone i)).trans (modZone_calm (toFaulted_tuning r) i)
  unfold State.zoneFault
  dsimp only
  split
  · exact ((hopen.trans abandonRecord_calm).trans (raise_calm _ _)).trans triggerSafety_calm
  · exact (hopen.trans (raise_calm _ _)).trans triggerSafety_calm

theorem zoneTransition_calm (i : Fin 6) : s.Calm (s.zoneTransition i) := by
  have hold : s.Calm (s.modZone i fun z => { z with state := .holding, demand := 0 }) :=
    modZone_calm (by exact fun _ => rfl) i
  have hheat : s.Calm (s.modZone i fun z => { z with state := .heating }.recompute) :=
    modZone_calm (by exact fun _ => rfl) i
  unfold State.zoneTransition
  dsimp only
  (repeat' split)
  · exact (hold.trans (raise_calm _ _)).trans trigger_calm
  · exact .refl s
  · exact (hold.trans (raise_calm _ _)).trans trigger_calm
  · exact .refl s
  · exact hheat.trans trigger_calm
  all_goals exact .refl s

theorem zoneReading_calm (i : Fin 6) (temp : Int) : s.Calm (s.zoneReading i temp) := by
  have htemp : s.Calm (s.modZone i fun z => { z with temp := temp }) := modZone_calm (by exact fun _ => rfl) i
  unfold State.zoneReading
  dsimp only
  (repeat' split)
  · exact htemp
  · exact htemp.trans (zoneFault_calm _ _ _)
  · exact htemp.trans (zoneFault_calm _ _ _)
  · exact (htemp.trans (modZone_calm recompute_tuning i)).trans (zoneTransition_calm i)

theorem readZones_calm (t : ZoneTemps) : s.Calm (s.readZones t) :=
  (((((zoneReading_calm _ _).trans (zoneReading_calm _ _)).trans (zoneReading_calm _ _)).trans
    (zoneReading_calm _ _)).trans (zoneReading_calm _ _)).trans (zoneReading_calm _ _)

theorem zonesInLine_calm : s.Calm s.zonesInLine := by
  unfold State.zonesInLine
  split
  · exact (mapZones_calm (inLine_tuning _)).trans trigger_calm
  · exact .refl s

theorem releaseZone_calm (i : Fin 6) : s.Calm (s.releaseZone i) := by
  unfold State.releaseZone
  split
  · exact (modZone_calm (released_tuning _) i).trans trigger_calm
  · exact .refl s

theorem isolateZone_calm (i : Fin 6) : s.Calm (s.isolateZone i) := by
  have hiso : ∀ t : State, t.Calm (t.modZone i Zone.toIsolated).trigger := fun t =>
    (modZone_calm toIsolated_tuning i).trans trigger_calm
  unfold State.isolateZone
  dsimp only
  (repeat' split)
  · exact hiso s
  · exact .refl s
  · exact (releaseZone_calm _).trans (hiso _)
  · exact releaseZone_calm _
  · exact hiso s
  · exact .refl s

theorem insulationFault_calm (i : Fin 6) : s.Calm (s.insulationFault i) :=
  ((modZone_calm (toFaulted_tuning _) i).trans (raise_calm _ _)).trans trigger_calm

theorem zonesStop_calm : s.Calm s.zonesStop := by
  have hstop := (mapZones_calm (s := s) stopped_tuning).trans tellImon_calm
  unfold State.zonesStop
  dsimp only
  split
  · exact hstop.trans abandonRecord_calm
  · exact hstop

/-! ### The cycle -/

theorem startCycle_calm : s.Calm s.startCycle := modImon_calm fun _ => rfl
theorem endCycle_calm : s.Calm s.endCycle := modImon_calm fun _ => rfl

theorem startCycleIfDue_calm : s.Calm s.startCycleIfDue := by
  unfold State.startCycleIfDue
  split
  · exact startCycle_calm
  · exact .refl s

theorem nextCycle_calm : s.Calm s.nextCycle := by
  unfold State.nextCycle
  split
  · exact startCycle_calm
  · exact startCycleIfDue_calm

/-! ### The fault table -/

theorem modFault_calm (i : Fin 8) (f : FaultRec → FaultRec) : s.Calm (s.modFault i f) :=
  modImon_calm fun _ => rfl

theorem newRecord_calm (o : Origin) (sev : Severity) (r : Nat) : s.Calm (s.newRecord o sev r) := by
  unfold State.newRecord
  split
  · exact .refl s
  · exact modImon_calm fun _ => rfl

theorem conditionArises_calm (o : Origin) (sev : Severity) (r : Nat) : s.Calm (s.conditionArises o sev r) := by
  unfold State.conditionArises
  split
  · exact newRecord_calm _ _ _
  · exact modFault_calm _ _

theorem conditionWorsens_calm (o : Origin) (r : Nat) : s.Calm (s.conditionWorsens o r) := by
  unfold State.conditionWorsens
  split
  · exact newRecord_calm _ _ _
  · exact modFault_calm _ _

theorem conditionEnds_calm (o : Origin) : s.Calm (s.conditionEnds o) := by
  unfold State.conditionEnds
  split
  · exact .refl s
  · exact modFault_calm _ _

theorem conditionSeen_calm (o : Origin) (r : Nat) : s.Calm (s.conditionSeen o r) := by
  unfold State.conditionSeen
  split
  · exact .refl s
  · exact modFault_calm _ _

theorem poleConditionsEnd_calm : s.Calm s.poleConditionsEnd :=
  (conditionEnds_calm _).trans (conditionEnds_calm _)

theorem tableTakes_calm (p : Pole) (b a : Severity) (r : Nat) : s.Calm (s.tableTakes p b a r) := by
  unfold State.tableTakes
  split
  · exact conditionArises_calm _ _ _
  · exact conditionArises_calm _ _ _
  · exact conditionArises_calm _ _ _
  · exact conditionArises_calm _ _ _
  · exact conditionWorsens_calm _ _
  · exact conditionEnds_calm _
  · exact conditionEnds_calm _
  · exact .refl s

theorem tableSees_calm (p : Pole) (a : Severity) (r : Nat) : s.Calm (s.tableSees p a r) := by
  unfold State.tableSees
  split
  · exact conditionSeen_calm _ _
  · exact .refl s

theorem raiseSlot_calm (src : Source) (o : Origin) : s.Calm (s.raiseSlot src o) := raise_calm _ _

theorem raiseSeverity_calm (p : Pole) (b a : Severity) : s.Calm (s.raiseSeverity p b a) := by
  unfold State.raiseSeverity
  (repeat' split)
  · exact .refl s
  · exact raiseSlot_calm _ _
  · exact raiseSlot_calm _ _
  all_goals exact .refl s

theorem moveRecord_calm (p : Pole) (z : Fin 6) : s.Calm (s.moveRecord p z) := by
  unfold State.moveRecord
  (repeat' split)
  · exact .refl s
  · exact (modFault_calm _ _).trans (modImon_calm fun _ => rfl)
  · exact modFault_calm _ _
  · exact .refl s

/-! ### Locating -/

theorem isolateNext_calm : (l : List (Fin 6)) → {s t : State} → s.isolateNext l = some t → s.Calm t
  | [], _, _, h => by simp [State.isolateNext] at h
  | z :: rest, s, t, h => by
    simp only [State.isolateNext] at h
    split at h
    · cases h
      exact (isolateZone_calm z).trans (modLoc_calm _)
    · exact isolateNext_calm rest h

theorem beginSequence_calm (p : Pole) : s.Calm (s.beginSequence p) := modLoc_calm _

theorem completeRecord_calm (o : LocateOutcome) (g : Origin) : s.Calm (s.completeRecord o g) :=
  (modLoc_calm _).trans (raiseSlot_calm _ _)

theorem takeDeferred_calm : s.Calm s.takeDeferred := by
  simp only [State.takeDeferred]
  (repeat' split)
  · exact .refl s
  next h => exact ((modLoc_calm _).trans (beginSequence_calm _)).trans (isolateNext_calm _ h)
  · exact ((modLoc_calm _).trans (beginSequence_calm _)).trans (completeRecord_calm _ _)
  · exact modLoc_calm _

theorem completeSequence_calm (o : LocateOutcome) (g : Origin) : s.Calm (s.completeSequence o g) :=
  (completeRecord_calm o g).trans takeDeferred_calm

theorem continueSequence_calm (p : Pole) (l : List (Fin 6)) : s.Calm (s.continueSequence p l) := by
  unfold State.continueSequence
  split
  next h => exact isolateNext_calm _ h
  · exact completeSequence_calm _ _

theorem requestLocating_calm (p : Pole) : s.Calm (s.requestLocating p) := by
  unfold State.requestLocating
  (repeat' split)
  · exact (beginSequence_calm p).trans (continueSequence_calm p _)
  · exact .refl s
  · exact modLoc_calm _

theorem judge_calm (p : Pole) (z : Fin 6) (r : Nat) : s.Calm (s.judge p z r) := by
  unfold State.judge
  split
  · exact ((insulationFault_calm z).trans (moveRecord_calm p z)).trans (completeSequence_calm _ _)
  · exact ((releaseZone_calm z).trans (modLoc_calm _)).trans (continueSequence_calm _ _)

theorem abandonLocating_calm : s.Calm s.abandonLocating := by
  unfold State.abandonLocating
  split
  · exact abandonRecord_calm
  · exact (releaseZone_calm _).trans abandonRecord_calm

theorem locateSeverity_calm (p : Pole) (b a : Severity) : s.Calm (s.locateSeverity p b a) := by
  unfold State.locateSeverity
  split
  · exact requestLocating_calm p
  · exact .refl s

theorem stepLocating_calm (fault : Bool) (ran : Option (Pole × Fin 6)) : s.Calm (s.stepLocating fault ran) := by
  unfold State.stepLocating
  split
  · exact abandonLocating_calm
  · split
    · exact .refl s
    · exact judge_calm _ _ _

/-- What IMON hands on at a Compute is calm: it moves records, sources and zones. -/
theorem handOn_calm (bp bn : Severity) : s.Calm (s.handOn bp bn) := by
  have htable : ∀ (p : Pole) (b a : Severity) (r : Nat) (t : State),
      t.Calm ((t.tableTakes p b a r).tableSees p a r) := fun p b a r t =>
    (tableTakes_calm p b a r).trans (tableSees_calm p a r)
  have hraised := ((htable .pos bp s.imon.pos.severity s.imon.rPos s).trans
    (htable .neg bn s.imon.neg.severity s.imon.rNeg _)).trans
    ((raiseSeverity_calm .pos bp s.imon.pos.severity).trans (raiseSeverity_calm .neg bn s.imon.neg.severity))
  have hrest : ∀ (ran : Option (Pole × Fin 6)) (t : State), t.Calm
      (((t.locateSeverity .pos bp s.imon.pos.severity).locateSeverity .neg bn s.imon.neg.severity).stepLocating
        (newFault bp s.imon.pos.severity || newFault bn s.imon.neg.severity) ran) := fun ran t =>
    ((locateSeverity_calm _ _ _).trans (locateSeverity_calm _ _ _)).trans (stepLocating_calm _ _)
  unfold State.handOn
  dsimp only
  split
  · exact (hraised.trans trigger_calm).trans (hrest _ _)
  · exact hraised.trans (hrest _ _)

/-! ### Tariffs and caps -/

theorem modTariff_calm (i : Fin 8) (f : Tariff → Tariff) : s.Calm (s.modTariff i f) := modTck_calm _

theorem releasePending_calm (p : Option (Fin 8)) : s.Calm (s.releasePending p) := by
  unfold State.releasePending
  split
  · exact .refl s
  · exact modTariff_calm _ _

theorem switchSlot_calm (i : Fin 16) : s.Calm (s.switchSlot i) := by
  unfold State.switchSlot
  (repeat' split)
  · exact .refl s
  · exact .refl s
  · exact ((modAccount_calm i _).trans (modTariff_calm _ _)).trans (raise_calm _ _)
  · exact .refl s

theorem newlySet_calm (b a : Bool) (h : Handle) (e : AcctEvent) : s.Calm (s.newlySet b a h e) := by
  unfold State.newlySet
  split
  · exact (raise_calm _ _).trans triggerSafety_calm
  · exact .refl s

end

end Sys2Proof.Machine
end

section
/-! What a triggered pass establishes, and the passes of a part whose blocks stand still (R20, R199). -/

namespace Sys2Proof.Machine

section

variable {P Q : State → Prop}

/-- A discard leaves the trigger of the event standing, or takes it up in a pass of its own. -/
theorem takeReports_establishes (hP : Survives P) (hQ : Survives fun t => P t ∧ Q t)
    (hpass : ∀ t, P t → Q t.pass) {s : State} (hs : P s) (h : Q s ∨ s.work.trigger = true) :
    Q s.takeReports ∨ s.takeReports.work.trigger = true := by
  rcases h with h | htrigger
  · exact .inl (takeReports_survives hQ ⟨hs, h⟩).2
  unfold State.takeReports State.discardSample
  split
  · split
    · simp only [State.windowEnd]
      have hstart := hP.choice _ (hP.unheld _ (hP.restart _ (min 255 (s.imon.discards + 1)) (hP.work _
        (fun w => { w with opening := false, changed := false }) hs)))
      (repeat' split)
      · exact .inl (hQ.inLine _ ⟨hP.pass _ hstart, hpass _ hstart⟩).2
      · exact .inr (zonesInLine_trigger rfl)
      · exact .inr (zonesInLine_trigger rfl)
      · exact .inr (zonesInLine_trigger htrigger)
    · exact .inr htrigger
  · exact .inr htrigger

/-- R20: where ALC runs, what every pass establishes and the passes of an event keep stands at the end of a
triggered event; so does what stood at its start. -/
theorem settle_establishes (hP : Survives P) (hQ : Survives fun t => P t ∧ Q t)
    (hpass : ∀ t, P t → Q t.pass) {s : State} (hs : P s) (h : Q s ∨ s.work.trigger = true)
    (hruns : s.blocksRun = true) : Q s.settle := by
  have h1 : P s.takeReports := takeReports_survives hP hs
  have h2 := takeReports_establishes hP hQ hpass hs h
  have hruns1 : s.takeReports.blocksRun = true := by
    rw [(runs_congr (s := s) (by simp)).1]; exact hruns
  simp only [settle_eq, hruns1, Bool.and_true]
  split
  · exact (passes_survives hQ 31 ⟨hP.pass _ h1, hpass _ h1⟩).2
  next hoff => exact (clearWork_survives hQ ⟨h1, h2.resolve_right hoff⟩).2

end

/-! ### A part whose blocks stand still -/

/-- What stands when no pass runs: INL, ATN, ACT, the figures in force and the charger command. -/
structure State.Still (s t : State) : Prop where
  inl   : t.inl = s.inl
  atn   : t.atn = s.atn
  act   : t.act = s.act
  force : t.alc.force = s.alc.force
  cmd   : t.alc.chargerCmd = s.alc.chargerCmd

theorem zonesInLine_still (s : State) : s.Still s.zonesInLine := ⟨by simp, by simp, by simp, by simp, by simp⟩

/-- R199: the end of a Sample phase runs no pass where ALC does not run. -/
theorem windowEnd_still {s : State} (h : s.blocksRun = false) : s.Still s.windowEnd := by
  have h1 : (s.modAlc fun a => { a with held := false }).blocksRun = false := h
  simp only [State.windowEnd, h1, Bool.and_false, Bool.false_eq_true, if_false]
  split
  · obtain ⟨hinl, hatn, hact, hforce, hcmd⟩ :=
      zonesInLine_still (s.modAlc fun a => { a with held := false }).trigger
    exact ⟨hinl, hatn, hact, hforce, hcmd⟩
  · exact zonesInLine_still s

theorem takeReports_still {s : State} (h : s.blocksRun = false) : s.Still s.takeReports := by
  unfold State.takeReports State.discardSample
  (repeat' split)
  · obtain ⟨hinl, hatn, hact, hforce, hcmd⟩ := windowEnd_still
      (s := (s.modWork fun w => { w with opening := false, changed := false }).modImon fun m =>
        { m with cycle := m.cycle.restart, phaseMs := 0, discards := min 255 (m.discards + 1), sumP := 0,
                 sumN := 0, samples := 0 }) h
    exact ⟨hinl, hatn, hact, hforce, hcmd⟩
  · exact ⟨rfl, rfl, rfl, rfl, rfl⟩
  · exact ⟨rfl, rfl, rfl, rfl, rfl⟩

/-- R199: an event runs no pass where ALC does not run. -/
theorem settle_still {s : State} (h : s.blocksRun = false) : s.Still s.settle := by
  have hruns : s.takeReports.blocksRun = false := by
    rw [(runs_congr (s := s) (by simp)).1]; exact h
  rw [settle_eq, hruns, Bool.and_false, if_neg Bool.false_ne_true]
  obtain ⟨hinl, hatn, hact, hforce, hcmd⟩ := takeReports_still h
  exact ⟨hinl, hatn, hact, hforce, hcmd⟩

end Sys2Proof.Machine
end

section
/-! The accounts in Active (section 9.2, R145): which one is, that there is one at most, and whether it may be
charged. -/

namespace Sys2Proof.Machine

/-- Two searches whose tests agree slot by slot find the same slot. -/
theorem find_congr {n : Nat} {α : Type} {p : α → Bool} {t u : Table n α}
    (h : ∀ i, p (u.get i) = p (t.get i)) : u.find p = t.find p := by
  simp only [Table.find, h]

theorem isActive_iff (sl : Slot) : sl.isActive = true ↔ ∃ a, sl.acct = some a ∧ a.state = .active := by
  unfold Slot.isActive
  split <;> simp_all

/-- Section 9.2: two Active accounts stand in one slot. -/
theorem oneActive_iff (t : Accounts) : t.oneActive = true ↔
    ∀ i j, (t.slots.get i).isActive = true → (t.slots.get j).isActive = true → i = j := by
  have hnodup : ((fins 16).filter fun i => (t.slots.get i).isActive).Nodup :=
    ((fins_pairwise 16).imp ne_of_lt).filter _
  have hlen : (t.slots.items.filter Slot.isActive).length =
      ((fins 16).filter fun i => (t.slots.get i).isActive).length := by
    rw [Table.items_eq, List.filter_map, List.length_map]
    rfl
  have hmem : ∀ i, i ∈ (fins 16).filter (fun i => (t.slots.get i).isActive) ↔
      (t.slots.get i).isActive = true := fun i => by simp [mem_fins]
  rw [Accounts.oneActive, decide_eq_true_eq, hlen]
  constructor
  · intro h i j hi hj
    have hi' := (hmem i).2 hi
    have hj' := (hmem j).2 hj
    rcases Nat.le_one_iff_eq_zero_or_eq_one.1 h with h0 | h1
    · rw [List.length_eq_zero_iff.1 h0] at hi'
      cases hi'
    · obtain ⟨k, hk⟩ := List.length_eq_one_iff.1 h1
      rw [hk, List.mem_singleton] at hi' hj'
      rw [hi', hj']
  · intro h
    match hl : (fins 16).filter (fun i => (t.slots.get i).isActive) with
    | [] => exact Nat.zero_le _
    | [_] => exact le_refl _
    | i :: j :: rest =>
      rw [hl] at hnodup hmem
      have hij : i = j := h i j ((hmem i).1 (by simp)) ((hmem j).1 (by simp))
      simp [hij] at hnodup

/-- No account becomes Active from `t` to `u`. -/
def Accounts.Within (t u : Accounts) : Prop :=
  ∀ i, (u.slots.get i).isActive = true → (t.slots.get i).isActive = true

theorem oneActive_of_within {t u : Accounts} (h : t.Within u) (ht : t.oneActive = true) :
    u.oneActive = true :=
  (oneActive_iff u).2 fun i j hi hj => (oneActive_iff t).1 ht i j (h i hi) (h j hj)

theorem activeSlot_isActive {t : Accounts} {i : Fin 16} (h : t.activeSlot = some i) :
    (t.slots.get i).isActive = true := Table.find_some h

theorem not_isActive_of_none {t : Accounts} (h : t.activeSlot = none) (i : Fin 16) :
    (t.slots.get i).isActive = false := Table.find_eq_none.1 h i

theorem active_of_slot {t : Accounts} {i : Fin 16} {a : Account} (h : t.activeSlot = some i)
    (ha : (t.slots.get i).acct = some a) : t.active = some (i, a) := by
  simp [Accounts.active, h, ha]

theorem active_of_none {t : Accounts} (h : t.activeSlot = none) : t.active = none := by
  simp [Accounts.active, h]

/-- The Active account stands in its slot. -/
theorem acct_of_activeSlot {t : Accounts} {i : Fin 16} (h : t.activeSlot = some i) :
    ∃ a, (t.slots.get i).acct = some a ∧ a.state = .active :=
  (isActive_iff _).1 (activeSlot_isActive h)

/-- Section 2.6: whether the account of a slot may be charged; none where it is not Active. -/
def Slot.billing (sl : Slot) : Option Bool :=
  match sl.acct with
  | some a => if a.state = .active then some (!a.capReached && !a.saturated) else none
  | none => none

theorem isActive_eq_billing (sl : Slot) : sl.isActive = sl.billing.isSome := by
  obtain ⟨gen, acct⟩ := sl
  cases acct with
  | none => rfl
  | some a => by_cases h : a.state = .active <;> simp [Slot.isActive, Slot.billing, h]

/-- Section 2.6: an account is Active, without CapReached or Saturated. -/
def Accounts.paying (t : Accounts) : Bool :=
  match t.active with
  | some (_, a) => !a.capReached && !a.saturated
  | none => false

theorem paying_eq (t : Accounts) :
    t.paying = (t.activeSlot.bind fun i => (t.slots.get i).billing).getD false := by
  cases h : t.activeSlot with
  | none => simp [Accounts.paying, active_of_none h]
  | some i =>
    obtain ⟨a, ha, hstate⟩ := acct_of_activeSlot h
    simp [Accounts.paying, active_of_slot h ha, Slot.billing, ha, hstate]

/-- Accounts of which the same is Active, with the same standing. -/
def Accounts.Alike (t u : Accounts) : Prop := ∀ i, (u.slots.get i).billing = (t.slots.get i).billing

section

variable {t u : Accounts}

theorem isActive_alike (h : t.Alike u) (i : Fin 16) :
    (u.slots.get i).isActive = (t.slots.get i).isActive := by
  rw [isActive_eq_billing, isActive_eq_billing, h i]

theorem within_of_alike (h : t.Alike u) : t.Within u := fun i hi => by
  rw [← isActive_alike h]; exact hi

theorem activeSlot_alike (h : t.Alike u) : u.activeSlot = t.activeSlot := find_congr (isActive_alike h)

theorem paying_alike (h : t.Alike u) : u.paying = t.paying := by
  simp only [paying_eq, activeSlot_alike h, h _]

/-- The standing is read past the sticky flags. -/
theorem billing_of_unstuck {x y : Slot} (h : y.acct.map Account.unstuck = x.acct.map Account.unstuck) :
    y.billing = x.billing := by
  have key : ∀ z : Slot, z.billing = (z.acct.map Account.unstuck).bind fun a =>
      if a.state = .active then some (!a.capReached && !a.saturated) else none := by
    rintro ⟨gen, acct⟩
    cases acct <;> rfl
  rw [key, key, h]

end

/-- Accounts that follow `t`: none becomes Active, and one that may be charged still may. -/
structure Accounts.Follows (t u : Accounts) : Prop where
  within : t.Within u
  paying : t.paying = true → u.paying = true

theorem follows_of_alike {t u : Accounts} (h : t.Alike u) : t.Follows u :=
  ⟨within_of_alike h, fun ht => by rw [paying_alike h]; exact ht⟩

theorem follows_of_eq {t u : Accounts} (h : u = t) : t.Follows u := follows_of_alike fun _ => by rw [h]

theorem pass_alike (s : State) : s.act.Alike s.pass.act := fun i => billing_of_unstuck (pass_act s i).2

/-! ### Accounts changed -/

/-- A slot whose standing stays where the others stay. -/
theorem alike_modify {t : Accounts} {i : Fin 16} {f : Slot → Slot}
    (h : (f (t.slots.get i)).billing = (t.slots.get i).billing) :
    t.Alike { t with slots := t.slots.modify i f } := by
  intro j
  rw [Table.get_modify]
  split
  next hji => subst hji; exact h
  next => rfl

/-- An account changed in what its standing does not read. -/
theorem modAccount_alike {s : State} {i : Fin 16} {f : Account → Account}
    (h : ∀ a, (s.act.slots.get i).acct = some a →
      Slot.billing ⟨0, some (f a)⟩ = Slot.billing ⟨0, some a⟩) : s.act.Alike (s.modAccount i f).act := by
  refine alike_modify ?_
  cases ha : (s.act.slots.get i).acct with
  | none => simp [Slot.billing, ha]
  | some a => simpa [Slot.billing, ha] using h a ha

theorem within_modAccount {s : State} {i : Fin 16} {f : Account → Account}
    (h : ∀ a, (s.act.slots.get i).acct = some a → (f a).state = .active → a.state = .active) :
    s.act.Within (s.modAccount i f).act := by
  intro j hj
  simp only [State.modAccount, modAct_act, Table.get_modify] at hj
  split at hj
  next hji =>
    subst hji
    obtain ⟨b, hb, hstate⟩ := (isActive_iff _).1 hj
    obtain ⟨a, ha, rfl⟩ := Option.map_eq_some_iff.1 hb
    exact (isActive_iff _).2 ⟨a, ha, h a ha hstate⟩
  next => exact hj

/-- An account changed without a change of state, newly capped and saturated in nothing. -/
theorem follows_modAccount {s : State} {i : Fin 16} {f : Account → Account}
    (hstate : ∀ a, (s.act.slots.get i).acct = some a → (f a).state = a.state)
    (hpaying : ∀ a, (s.act.slots.get i).acct = some a → a.capReached = false → a.saturated = false →
      (f a).capReached = false ∧ (f a).saturated = false) : s.act.Follows (s.modAccount i f).act := by
  have hother : ∀ j, j ≠ i → (s.modAccount i f).act.slots.get j = s.act.slots.get j := fun j hj => by
    simp [State.modAccount, Table.get_modify_ne _ _ hj]
  have hself : ((s.modAccount i f).act.slots.get i).acct = (s.act.slots.get i).acct.map f := by
    simp [State.modAccount]
  have hslot : (s.modAccount i f).act.activeSlot = s.act.activeSlot := by
    refine find_congr fun j => ?_
    by_cases hj : j = i
    · subst hj
      simp only [Slot.isActive, hself]
      cases ha : (s.act.slots.get j).acct with
      | none => rfl
      | some a => simp [hstate a ha]
    · rw [hother j hj]
  refine ⟨within_modAccount fun a ha h => by rwa [hstate a ha] at h, fun h => ?_⟩
  cases hs : s.act.activeSlot with
  | none => simp [Accounts.paying, active_of_none hs] at h
  | some j =>
    obtain ⟨a, ha, -⟩ := acct_of_activeSlot hs
    simp only [Accounts.paying, active_of_slot hs ha, Bool.and_eq_true, Bool.not_eq_true'] at h
    by_cases hj : j = i
    · subst hj
      obtain ⟨hcap, hsat⟩ := hpaying a ha h.1 h.2
      simp [Accounts.paying, active_of_slot (hslot.trans hs) (by rw [hself, ha]; rfl), hcap, hsat]
    · simp [Accounts.paying, active_of_slot (hslot.trans hs) (by rw [hother j hj]; exact ha), h.1, h.2]

/-- R145, R153: an account activated where none was leaves one Active. -/
theorem activateSlot_oneActive {s : State} (h : s.act.activeSlot = none) (i : Fin 16) :
    (s.activateSlot i).act.oneActive = true := by
  have hact : (s.activateSlot i).act = (s.modAccount i fun a =>
      { a with state := .active, reason := none, firstActive := some (a.firstActive.getD s.now) }).act := by
    simp [State.activateSlot]
  have hother : ∀ j, ((s.activateSlot i).act.slots.get j).isActive = true → j = i := by
    intro j hj
    by_contra hne
    rw [hact] at hj
    simp only [State.modAccount, modAct_act, Table.get_modify_ne _ _ hne] at hj
    rw [not_isActive_of_none h] at hj
    cases hj
  exact (oneActive_iff _).2 fun j k hj hk => (hother j hj).trans (hother k hk).symm

end Sys2Proof.Machine
end

section
/-! The charger command (section 2.6): what a pass that commands the charger shows of the state, and what the
passes of an event keep of it. -/

namespace Sys2Proof.Machine

/-! ### A pass with a DC budget (R22 to R24) -/

theorem iLim_of_fault {x : PassInputs} (h : x.anyFault = true) : x.iLim = 0 := by
  have hderated : x.derated = 0 := by simp [PassInputs.derated, h]
  simp [PassInputs.iLim, hderated]

/-- R22, R24: a budget above 0 is not gated and finds no pole at Fault. -/
theorem open_of_pDc {x : PassInputs} {wired : Nat} (h : 0 < x.pDc wired) :
    x.gated = false ∧ x.anyFault = false := by
  constructor
  · by_contra hgated
    rw [PassInputs.pDc, if_pos (by simpa using hgated)] at h
    cases h
  · by_contra hfault
    have hterm : x.acTerm wired = 0 := by
      simp [PassInputs.acTerm, PassInputs.pAc, iLim_of_fault (by simpa using hfault)]
    simp [PassInputs.pDc, PassInputs.budget, hterm] at h

/-- R27: a charger current above 0 needs a budget and a grant. -/
theorem of_chargerSetpoint {g : GridFigures} {vbus : Nat} (h : 0 < chargerSetpoint g vbus) :
    0 < g.pDc ∧ 0 < g.bGrant + g.hGrant := by
  unfold chargerSetpoint at h
  split at h
  next hpDc =>
    refine ⟨hpDc, Nat.pos_of_ne_zero fun h0 => ?_⟩
    simp [h0] at h
  next => cases h

/-- R27, R28: figures that run the charger are grid figures with a grant, of a pass in Drawing. -/
theorem of_figures_iChg {x : PassInputs} {wired : Nat} {curve : List CurvePoint} {prio : Table 6 Nat}
    (h : 0 < (x.figures wired curve prio).iChg) :
    x.inlet = .drawing ∧ (x.figures wired curve prio).source = .grid ∧
    0 < (x.figures wired curve prio).bGrant + (x.figures wired curve prio).hGrant ∧ 0 < x.pDc wired := by
  by_cases hdraw : x.inlet = .drawing
  · simp only [PassInputs.figures, hdraw, if_true] at h ⊢
    obtain ⟨hpDc, hgrant⟩ := of_chargerSetpoint h
    exact ⟨trivial, trivial, hgrant, hpDc⟩
  · simp [PassInputs.figures, hdraw] at h

/-! ### The conditions of section 2.6 -/

theorem mayCharge_iff (s : State) : s.mayCharge = true ↔
    s.inl.state = .drawing ∧ s.act.paying = true ∧ s.imon.pos.severity ≠ .fault ∧
    s.imon.neg.severity ≠ .fault ∧ s.rqp.sup ≠ .expired := by
  have heq : s.mayCharge = (decide (s.inl.state = .drawing) && s.act.paying &&
      decide (s.imon.pos.severity ≠ .fault) && decide (s.imon.neg.severity ≠ .fault) &&
      decide (s.rqp.sup ≠ .expired)) := rfl
  rw [heq]
  simp [and_assoc]

theorem passInputs_paying (s : State) :
    s.act.paying = (s.passInputs.acctExists && !s.passInputs.capReached && !s.passInputs.saturated) := by
  unfold Accounts.paying State.passInputs
  cases s.act.active <;> simp

/-- R22, R24: in Drawing a budget above 0 meets every condition of section 2.6. -/
theorem mayCharge_of_pDc {s : State} {wired : Nat} (hdraw : s.inl.state = .drawing)
    (h : 0 < s.passInputs.pDc wired) : s.mayCharge = true := by
  obtain ⟨hgated, hfault⟩ := open_of_pDc h
  simp only [PassInputs.gated, Bool.or_eq_false_iff, Bool.not_eq_false'] at hgated
  obtain ⟨⟨⟨hexists, hcap⟩, hsat⟩, hsup⟩ := hgated
  simp only [PassInputs.anyFault, Bool.or_eq_false_iff, decide_eq_false_iff_not] at hfault
  refine (mayCharge_iff s).2 ⟨hdraw, ?_, hfault.1, hfault.2, ?_⟩
  · rw [passInputs_paying, hexists, hcap, hsat]
    rfl
  · exact of_decide_eq_false hsup

theorem chargerSafe_iff (s : State) :
    s.chargerSafe = true ↔ (0 < s.alc.chargerCmd → s.mayCharge = true) := by
  unfold State.chargerSafe
  rw [Bool.or_eq_true, decide_eq_true_eq, Nat.pos_iff_ne_zero]
  tauto

/-! ### The invariant -/

/-- A command above 0 belongs to grid figures with a grant. -/
def Alloc.backed (a : Alloc) : Prop :=
  0 < a.chargerCmd → a.force.source = .grid ∧ 0 < a.force.bGrant + a.force.hGrant

/-- What O30 asks for besides the charger's safety: one Active account at most, a resumption in Active alone,
and a command above 0 backed by figures in force while ALC runs. -/
def State.Backed (s : State) : Prop :=
  s.act.oneActive = true ∧ (s.pwc.resuming = true → s.pwc.state = .active) ∧
  (0 < s.alc.chargerCmd → s.blocksRun = true) ∧ s.alc.backed

/-- The invariant between commands. -/
def State.Allowed (s : State) : Prop := s.Backed ∧ s.chargerSafe = true

/-- The invariant inside a command: a safety that is lost has triggered a pass. -/
def State.Owing (s : State) : Prop := s.Backed ∧ (s.chargerSafe = true ∨ s.work.trigger = true)

/-! ### One pass -/

theorem takeFigures_force (f : Figures) (held safety : Bool) (s : State) :
    (s.takeFigures f held safety).alc.force = if held then s.alc.force else f := by
  simp only [State.takeFigures]
  (repeat' split) <;> simp [State.applyFigures]

theorem pass_chargerCmd_eq (s : State) :
    s.pass.alc.chargerCmd = if s.passHeld then s.alc.chargerCmd else s.passFigures.iChg := by
  simp [State.pass, takeFigures_chargerCmd, State.recordPass]

theorem pass_force (s : State) :
    s.pass.alc.force = if s.passHeld then s.alc.force else s.passFigures := by
  simp [State.pass, takeFigures_force, State.recordPass]

/-- R33, R34: a held pass over grid figures finds Drawing and a budget of at least their grants. -/
theorem of_passHeld {s : State} (h : s.passHeld = true) (hgrid : s.alc.force.source = .grid) :
    s.inl.state = .drawing ∧
    s.alc.force.bGrant + s.alc.force.hGrant ≤ s.passInputs.pDc s.rqp.config.wired := by
  simp only [State.passHeld, State.passSafety, PassInputs.isSafety, Bool.and_eq_true, Bool.not_eq_true',
    Bool.or_eq_false_iff, Bool.and_eq_false_iff, decide_eq_false_iff_not, not_not] at h
  obtain ⟨⟨-, ⟨⟨-, hbudget⟩, hsource⟩, -⟩, -⟩ := h
  have hdraw : s.passInputs.inlet = .drawing := hsource.resolve_right fun hne => hne hgrid
  refine ⟨hdraw, ?_⟩
  simpa [PassInputs.forceBudget, hdraw] using hbudget

/-- R24, R27, R33: after a pass a command above 0 has Drawing, a backing and a budget. -/
theorem pass_commands {s : State} (hs : s.alc.backed) (h : 0 < s.pass.alc.chargerCmd) :
    s.inl.state = .drawing ∧ 0 < s.passInputs.pDc s.rqp.config.wired ∧
    s.pass.alc.force.source = .grid ∧ 0 < s.pass.alc.force.bGrant + s.pass.alc.force.hGrant := by
  rw [pass_chargerCmd_eq] at h
  rw [pass_force]
  split at h
  next hheld =>
    obtain ⟨hgrid, hgrant⟩ := hs h
    obtain ⟨hdraw, hbudget⟩ := of_passHeld hheld hgrid
    rw [if_pos hheld]
    exact ⟨hdraw, by omega, hgrid, hgrant⟩
  next hheld =>
    obtain ⟨hdraw, hgrid, hgrant, hpDc⟩ := of_figures_iChg h
    rw [if_neg hheld]
    exact ⟨hdraw, hpDc, hgrid, hgrant⟩

theorem pass_drawing {s : State} (h : s.inl.state = .drawing) : s.pass.inl.state = .drawing := by
  rw [pass_of_steady (by rw [h]; rfl), passed_state, h]

/-- In Drawing a pass leaves the conditions of section 2.6. -/
theorem pass_mayCharge {s : State} (hdraw : s.inl.state = .drawing) (h : s.mayCharge = true) :
    s.pass.mayCharge = true := by
  obtain ⟨-, hpaying, hpos, hneg, hsup⟩ := (mayCharge_iff s).1 h
  refine (mayCharge_iff _).2 ⟨pass_drawing hdraw, ?_, ?_⟩
  · rw [paying_alike (pass_alike s), hpaying]
  · simpa using ⟨hpos, hneg, hsup⟩

/-- Section 2.6: a pass leaves the charger safe, whatever stood before it. -/
theorem pass_chargerSafe {s : State} (h : s.alc.backed) : s.pass.chargerSafe = true :=
  (chargerSafe_iff _).2 fun hcmd => by
    obtain ⟨hdraw, hpDc, -⟩ := pass_commands h hcmd
    exact pass_mayCharge hdraw (mayCharge_of_pDc hdraw hpDc)

theorem pass_backed {s : State} (hruns : s.blocksRun = true) (h : s.Backed) : s.pass.Backed := by
  obtain ⟨hone, hresuming, -, hbacked⟩ := h
  refine ⟨oneActive_of_within (within_of_alike (pass_alike s)) hone, by simpa using hresuming, fun _ => ?_,
    fun hcmd => (pass_commands hbacked hcmd).2.2⟩
  rw [(runs_congr (s := s) (by simp)).1, hruns]

/-! ### The passes of an event -/

theorem backed_survives : Survives fun t => t.blocksRun = true ∧ t.Backed where
  pass t h := ⟨by rw [(runs_congr (s := t) (by simp)).1, h.1], pass_backed h.1 h.2⟩
  inLine t h := by
    have hruns := (runs_congr (s := t) (t := t.zonesInLine) (by simp)).1
    refine ⟨by rw [hruns, h.1], ?_⟩
    simpa [State.Backed, hruns] using h.2
  work _ _ h := h
  choice _ h := h
  unheld _ h := h
  restart _ _ h := h

theorem allowed_survives : Survives fun t => (t.blocksRun = true ∧ t.Backed) ∧ t.chargerSafe = true where
  pass t h := ⟨backed_survives.pass t h.1, pass_chargerSafe h.1.2.2.2.2⟩
  inLine t h := by
    refine ⟨backed_survives.inLine t h.1, (chargerSafe_iff _).2 fun hcmd => ?_⟩
    have hmay := (mayCharge_iff t).1 ((chargerSafe_iff t).1 h.2 (by simpa using hcmd))
    exact (mayCharge_iff _).2 (by simpa using hmay)
  work _ _ h := h
  choice _ h := h
  unheld _ h := h
  restart _ _ h := h

/-- The passes of an event restore the charger's safety. -/
theorem settle_allowed {s : State} (h : s.Owing) : s.settle.Allowed := by
  obtain ⟨hbacked, hsafe⟩ := h
  cases hruns : s.blocksRun
  · obtain ⟨hone, hresuming, hcmd, -⟩ := hbacked
    have h0 : s.alc.chargerCmd = 0 := by
      by_contra hne
      rw [hcmd (Nat.pos_of_ne_zero hne)] at hruns
      cases hruns
    have hstill := settle_still hruns
    have h1 : ¬ 0 < s.settle.alc.chargerCmd := by rw [hstill.cmd, h0]; exact lt_irrefl 0
    refine ⟨⟨by rw [hstill.act]; exact hone, by simpa using hresuming, fun h => absurd h h1,
      fun h => absurd h h1⟩, (chargerSafe_iff _).2 fun h => absurd h h1⟩
  · exact ⟨(settle_survives backed_survives ⟨hruns, hbacked⟩).2,
      settle_establishes backed_survives allowed_survives (fun t ht => pass_chargerSafe ht.2.2.2.2)
        ⟨hruns, hbacked⟩ hsafe hruns⟩

theorem windowEnd_allowed {s : State} (h : s.Allowed) : s.windowEnd.Allowed := by
  cases hruns : s.blocksRun
  · have h0 : ¬ 0 < s.alc.chargerCmd := fun hcmd => by rw [h.1.2.2.1 hcmd] at hruns; cases hruns
    have hstill := windowEnd_still hruns
    have h1 : ¬ 0 < s.windowEnd.alc.chargerCmd := by rw [hstill.cmd]; exact h0
    refine ⟨⟨by rw [hstill.act]; exact h.1.1, by simpa using h.1.2.1, fun h => absurd h h1,
      fun h => absurd h h1⟩, (chargerSafe_iff _).2 fun h => absurd h h1⟩
  · obtain ⟨⟨-, hbacked⟩, hsafe⟩ := windowEnd_survives allowed_survives ⟨⟨hruns, h.1⟩, h.2⟩
    exact ⟨hbacked, hsafe⟩

end Sys2Proof.Machine
end

section
/-! The charger command through every command (section 2.6): each operation keeps the invariant, or triggers the
pass that restores it. -/

namespace Sys2Proof.Machine

/-- The charger command with the figures it stands on. -/
def Alloc.commands (a : Alloc) := (a.chargerCmd, a.force)

theorem commands_eq {a b : Alloc} :
    b.commands = a.commands ↔ b.chargerCmd = a.chargerCmd ∧ b.force = a.force := Prod.mk.injEq .. ▸ .rfl

section

variable {s t : State}

/-- An operation that activates no account and leaves ALC's output and the power state keeps the backing. -/
theorem backed_congr (halc : t.alc.commands = s.alc.commands) (hpwc : t.pwc = s.pwc)
    (hact : s.act.Within t.act) (h : s.Backed) : t.Backed := by
  obtain ⟨hone, hresuming, hruns, hbacked⟩ := h
  obtain ⟨hcmd, hforce⟩ := commands_eq.1 halc
  refine ⟨oneActive_of_within hact hone, by rwa [hpwc], ?_, ?_⟩
  · rwa [hcmd, (runs_congr hpwc).1]
  · unfold Alloc.backed
    rwa [hcmd, hforce]

theorem owing_of_trigger (h : t.Backed) (htrigger : t.work.trigger = true) : t.Owing := ⟨h, .inr htrigger⟩

theorem owing_of_allowed (h : s.Allowed) : s.Owing := ⟨h.1, .inl h.2⟩

/-- What the invariant reads of the state besides ALC's output and the power state. -/
structure State.SameCharge (s t : State) : Prop where
  inl   : t.inl.state = s.inl.state
  act   : s.act.Follows t.act
  pos   : t.imon.pos.severity = s.imon.pos.severity
  neg   : t.imon.neg.severity = s.imon.neg.severity
  sup   : t.rqp.sup = s.rqp.sup
  alc   : t.alc.commands = s.alc.commands
  pwc   : t.pwc = s.pwc

theorem sameCharge_of_calm (h : s.Calm t) (hinl : t.inl.state = s.inl.state) (hact : s.act.Follows t.act)
    (hsup : t.rqp.sup = s.rqp.sup) (halc : t.alc.commands = s.alc.commands) (hpwc : t.pwc = s.pwc) :
    s.SameCharge t := by
  have hjudged := h.judged
  simp only [Insulation.judged, Prod.mk.injEq] at hjudged
  obtain ⟨-, -, hpos, hneg⟩ := hjudged
  exact ⟨hinl, hact, by rw [hpos], by rw [hneg], hsup, halc, hpwc⟩

theorem mayCharge_of_same (h : s.SameCharge t) (hs : s.mayCharge = true) : t.mayCharge = true := by
  obtain ⟨hdraw, hpaying, hrest⟩ := (mayCharge_iff s).1 hs
  refine (mayCharge_iff t).2 ⟨h.inl.trans hdraw, h.act.paying hpaying, ?_⟩
  rwa [h.pos, h.neg, h.sup]

theorem allowed_congr (h : s.SameCharge t) (hs : s.Allowed) : t.Allowed := by
  refine ⟨backed_congr h.alc h.pwc h.act.within hs.1, (chargerSafe_iff t).2 fun hcmd => ?_⟩
  rw [(commands_eq.1 h.alc).1] at hcmd
  exact mayCharge_of_same h ((chargerSafe_iff s).1 hs.2 hcmd)

theorem owing_congr (h : s.SameCharge t) (htrigger : s.work.trigger = true → t.work.trigger = true)
    (hs : s.Owing) : t.Owing := by
  rcases hs.2 with hsafe | hon
  · exact owing_of_allowed (allowed_congr h ⟨hs.1, hsafe⟩)
  · exact owing_of_trigger (backed_congr h.alc h.pwc h.act.within hs.1) (htrigger hon)

/-- A calm operation that leaves INL, the accounts, supervision, ALC's output and the power state. -/
theorem owing_of_calm (h : s.Calm t) (hinl : t.inl.state = s.inl.state) (hact : t.act = s.act)
    (hsup : t.rqp.sup = s.rqp.sup) (halc : t.alc.commands = s.alc.commands) (hpwc : t.pwc = s.pwc)
    (hs : s.Owing) : t.Owing :=
  owing_congr (sameCharge_of_calm h hinl (follows_of_eq hact) hsup halc hpwc) h.trigger hs

theorem within_of_eq {t u : Accounts} (h : u = t) : t.Within u := by rw [h]; exact fun _ => id

/-- Where the charger stands off the invariant asks for little. -/
theorem allowed_of_off (hone : t.act.oneActive = true) (hresuming : t.pwc.resuming = true → t.pwc.state = .active)
    (h0 : t.alc.chargerCmd = 0) : t.Allowed := by
  have hoff : ¬ 0 < t.alc.chargerCmd := by rw [h0]; exact lt_irrefl 0
  exact ⟨⟨hone, hresuming, fun h => absurd h hoff, fun h => absurd h hoff⟩,
    (chargerSafe_iff t).2 fun h => absurd h hoff⟩

/-- The charger stands off outside Drawing. -/
theorem off_of_not_drawing (hs : s.Allowed) (h : s.inl.state ≠ .drawing) : s.alc.chargerCmd = 0 := by
  by_contra hne
  exact h ((mayCharge_iff s).1 ((chargerSafe_iff s).1 hs.2 (Nat.pos_of_ne_zero hne))).1

/-- The charger stands off where ALC does not run. -/
theorem off_of_still (hs : s.Backed) (h : s.blocksRun = false) : s.alc.chargerCmd = 0 := by
  by_contra hne
  rw [hs.2.2.1 (Nat.pos_of_ne_zero hne)] at h
  cases h

/-! ### One ms -/

theorem inlet_tick_state (i : Inlet) (g : Nat) : (i.tick g).state = i.state := by rw [inlet_tick_eq]

theorem tick_allowed (hs : s.Allowed) : s.tick.Allowed := by
  have hpwc : s.tick.pwc.state = s.pwc.state ∧ s.tick.pwc.resuming = s.pwc.resuming := by
    rw [tick_pwc]
    unfold Power.tickWake
    (repeat' split) <;> exact ⟨rfl, rfl⟩
  have hruns : s.tick.blocksRun = s.blocksRun := by simp only [State.blocksRun, hpwc]
  have halc : s.tick.alc.commands = s.alc.commands := by
    rw [tick_alc]
    unfold Alloc.tickStale
    (repeat' split) <;> rfl
  have himon : s.tick.imon.judged = s.imon.judged := by
    rw [tick_imon]
    split <;> rfl
  have hsup : s.rqp.sup ≠ .expired → s.tick.rqp.sup ≠ .expired := by
    rw [tick_rqp]
    cases s.rqp.sup <;> simp [Supervision.tick]
  obtain ⟨hcmd, hforce⟩ := commands_eq.1 halc
  simp only [Insulation.judged, Prod.mk.injEq] at himon
  obtain ⟨-, -, hpos, hneg⟩ := himon
  obtain ⟨⟨hone, hresuming, hrun, hbacked⟩, hsafe⟩ := hs
  refine ⟨⟨by simpa using hone, by simpa only [hpwc] using hresuming, by simpa only [hcmd, hruns] using hrun,
    by simpa only [Alloc.backed, hcmd, hforce] using hbacked⟩, (chargerSafe_iff _).2 fun h => ?_⟩
  obtain ⟨hdraw, hpaying, hnoPos, hnoNeg, hnoSup⟩ :=
    (mayCharge_iff s).1 ((chargerSafe_iff s).1 hsafe (by rwa [hcmd] at h))
  exact (mayCharge_iff _).2 ⟨by rw [tick_inl, inlet_tick_state, hdraw], by simpa using hpaying,
    by rwa [hpos], by rwa [hneg], hsup hnoSup⟩

/-! ### The inlet and the meter -/

theorem enterInlet_owing (h : s.Backed) (st : InletState) : (s.enterInlet st).Owing :=
  owing_of_trigger (backed_congr (by simp) (by simp) (within_of_eq (by simp)) h) rfl

theorem countChanged_trigger {n : Nat} (h : s.mtr.n ≠ n) : (s.countChanged n).work.trigger = true := by
  simp only [State.countChanged, h, if_false]
  (repeat' split)
  · exact acAppears_calm.trigger rfl
  · exact acGone_calm.trigger rfl
  · rfl

theorem countChanged_owing (h : s.Owing) (n : Nat) : (s.countChanged n).Owing := by
  by_cases hn : s.mtr.n = n
  · rw [show s.countChanged n = s by simp [State.countChanged, hn]]
    exact h
  · exact owing_of_trigger (backed_congr (by simp) (by simp) (within_of_eq (by simp)) h.1)
      (countChanged_trigger hn)

theorem readPhases_owing (h : s.Owing) (f : FrontEnd) : (s.readPhases f).Owing :=
  countChanged_owing (owing_of_calm (modMtr_calm _) rfl rfl rfl rfl rfl h) _

theorem readZones_owing (h : s.Owing) (t : ZoneTemps) : (s.readZones t).Owing :=
  owing_of_calm (readZones_calm t) (by simp) (by simp) (by simp) (by simp) (by simp) h

theorem offerChange_owing (h : s.Backed) (was is : Bool) : (s.offerChange was is).trigger.Owing := by
  refine owing_of_trigger ?_ rfl
  rcases offerChange_cases was is s with ⟨-, hsame⟩ | henter
  · rw [hsame]; exact h
  · rw [henter]; exact (enterInlet_owing h _).1

theorem pilotWindow_owing (h : s.Allowed) (w : PilotWindow) : (s.pilotWindow w).Owing := by
  rw [pilotWindow_eq]
  split
  · exact owing_of_allowed h
  · exact offerChange_owing (s := s.modInl (Inlet.takeWindow w)) h.1 _ _

/-! ### A wake, a plug, an unplug -/

/-- R199: a wake keeps the charger as it stands in Keep-Warm, and off from Dormant. -/
theorem wake_backed (h : s.Backed) (hparked : s.parked = true) (c : WakeCause) (f : FrontEnd) :
    (s.wake c f).Backed := by
  obtain ⟨hone, hresuming, hrun, hbacked⟩ := h
  have hstate := (parked_iff s).1 hparked
  have hfalse : s.pwc.resuming = false := by
    cases hr : s.pwc.resuming
    · rfl
    · rw [hresuming hr] at hstate
      simp at hstate
  have halc : (s.wake c f).alc.commands = s.alc.commands := by
    simp only [State.wake]
    split
    · simp [State.startPasses, Alloc.commands]
    all_goals rfl
  obtain ⟨hcmd, hforce⟩ := commands_eq.1 halc
  refine ⟨by simpa using hone, fun _ => wake_power s c f, fun h => ?_,
    by simpa only [Alloc.backed, hcmd, hforce] using hbacked⟩
  rw [hcmd] at h
  have hruns := hrun h
  rcases hstate with hwarm | hdormant
  · simp [State.blocksRun, State.wake, hwarm, Power.unpark, hfalse]
  · simp [State.blocksRun, hdormant] at hruns

theorem wake_trigger_of_warm (hwarm : s.pwc.state = .keepWarm) (c : WakeCause) (f : FrontEnd) :
    (s.wake c f).work.trigger = true := by
  simp only [State.wake, hwarm]
  exact startCycleIfDue_calm.trigger rfl

theorem wake_owing (h : s.Allowed) (hparked : s.parked = true) (c : WakeCause) (f : FrontEnd) :
    (s.wake c f).Owing := by
  have hbacked := wake_backed h.1 hparked c f
  rcases (parked_iff s).1 hparked with hwarm | hdormant
  · exact owing_of_trigger hbacked (wake_trigger_of_warm hwarm c f)
  · have h0 : s.alc.chargerCmd = 0 := off_of_still h.1 (by simp [State.blocksRun, hdormant])
    refine owing_of_allowed (allowed_of_off hbacked.1 hbacked.2.1 ?_)
    simpa [State.wake, hdormant] using h0

theorem plugOrWake_owing (h : s.Allowed) (k : CableClass) (f : FrontEnd) : (s.plugOrWake k f).Owing := by
  unfold State.plugOrWake
  split
  next hparked =>
    exact enterInlet_owing (s := (s.wake .plug f).modInl fun i => { i with cls := some k })
      (wake_backed h.1 hparked _ _) _
  next => exact enterInlet_owing (s := s.modInl fun i => { i with cls := some k }) h.1 _

/-- R155: a suspension activates no account. -/
theorem autoSuspend_within (r : SuspendReason) (e : AcctEvent) (s : State) :
    s.act.Within (s.autoSuspend r e).act := by
  unfold State.autoSuspend
  split
  · exact fun _ => id
  next i _ =>
    have hact : ((s.suspendSlot i r).raise .account (.account (s.act.handle i) e)).act =
        (s.modAccount i fun a => { a with state := .suspended, reason := some r }).act := by
      simp [State.suspendSlot]
    rw [hact]
    exact within_modAccount fun a _ hstate => AcctState.noConfusion hstate

theorem unplug_owing (h : s.Allowed) : s.unplug.Owing := by
  have hact : s.act.Within s.unplug.act := by
    have hsame : s.unplug.act =
        (((s.modInl fun i => { i with cls := none, pilot := false, duty := 0, offered := 0 }).modAlc fun a =>
          { a with chargerCmd := 0 }).autoSuspend .unplug .suspendedUnplug).act := by simp [State.unplug]
    rw [hsame]
    exact autoSuspend_within _ _ _
  refine owing_of_allowed (allowed_of_off (oneActive_of_within hact h.1.1) ?_ ?_)
  · simpa [State.unplug] using h.1.2.1
  · simp [State.unplug]

theorem readProximity_owing (h : s.Allowed) (ohms : Nat) (f : FrontEnd) : (s.readProximity ohms f).Owing := by
  have hcount : (s.modInl (Inlet.countBand (bandOf ohms))).Allowed := by
    refine allowed_congr (sameCharge_of_calm (modInl_calm _) ?_ (follows_of_eq rfl) rfl rfl rfl) h
    show (s.inl.countBand _).state = _
    unfold Inlet.countBand
    split <;> rfl
  simp only [State.readProximity]
  split
  · have haccept : ((s.modInl (Inlet.countBand (bandOf ohms))).modInl fun i =>
        { i with accepted := bandOf ohms }).Allowed := hcount
    unfold State.bandAccepted
    split
    · exact plugOrWake_owing haccept _ _
    · exact unplug_owing haccept
    · exact owing_of_trigger haccept.1 rfl
    · exact owing_of_allowed haccept
  · exact owing_of_allowed hcount

/-! ### A stop -/

/-- R114: a stop triggers its pass. -/
theorem takeStop_owing (h : s.Backed) (c : StopCause) : (s.takeStop c).Owing := by
  refine owing_of_trigger (backed_congr (by simp) (by simp) ?_ h) rfl
  have hact : (s.takeStop c).act = ((s.bankStop c).autoSuspend .stop .suspendedStop).act := by
    simp [State.takeStop]
  have hwithin := autoSuspend_within .stop .suspendedStop (s.bankStop c)
  rw [hact]
  simpa using hwithin

/-! ### Measurement -/

theorem completeBase_owing (h : s.Allowed) : s.completeBase.Owing :=
  owing_of_trigger (windowEnd_allowed (s := s.modImon Insulation.takeBase) h).1 rfl

theorem passAndStop_allowed (h : s.Owing) (fault : Bool) : (s.passAndStop fault).Allowed := by
  have hchoice : s.nextChoice.Owing := h
  unfold State.passAndStop
  (repeat' split)
  · exact settle_allowed (takeStop_owing (settle_allowed hchoice).1 _)
  · exact settle_allowed (owing_of_trigger (settle_allowed (takeStop_owing hchoice.1 _)).1 rfl)
  · exact settle_allowed h

theorem handOn_trigger {bp bn : Severity} (h : bp ≠ s.imon.pos.severity ∨ bn ≠ s.imon.neg.severity) :
    (s.handOn bp bn).work.trigger = true := by
  simp only [State.handOn, if_pos h]
  exact (stepLocating_calm _ _).trigger ((locateSeverity_calm _ _ _).trigger
    ((locateSeverity_calm _ _ _).trigger rfl))

/-- R79: a Compute that changes no severity leaves the conditions, and one that does triggers a pass. -/
theorem handOn_owing {u : State} (hu : u.Allowed) (hinl : s.inl = u.inl) (halc : s.alc = u.alc)
    (hact : s.act = u.act) (hrqp : s.rqp = u.rqp) (hpwc : s.pwc = u.pwc) :
    (s.handOn u.imon.pos.severity u.imon.neg.severity).Owing := by
  have hbacked : s.Backed := backed_congr (by rw [halc]) hpwc (within_of_eq hact) hu.1
  by_cases hsame : u.imon.pos.severity ≠ s.imon.pos.severity ∨ u.imon.neg.severity ≠ s.imon.neg.severity
  · exact owing_of_trigger (backed_congr (by simp) (by simp) (within_of_eq (by simp)) hbacked)
      (handOn_trigger hsame)
  · simp only [not_or, not_not] at hsame
    have hs : s.Allowed := allowed_congr ⟨by rw [hinl], follows_of_eq hact, hsame.1.symm,
      hsame.2.symm, by rw [hrqp], by rw [halc], hpwc⟩ hu
    exact owing_of_calm (handOn_calm _ _) (by simp) (by simp) (by simp) (by simp) (by simp)
      (owing_of_allowed hs)

theorem completeShift_allowed (h : s.Allowed) : s.completeShift.Allowed := by
  have hend : s.endCycle.windowEnd.Allowed := windowEnd_allowed (s := s.endCycle) h
  have hpoles : s.endCycle.windowEnd.imon.pos = s.imon.pos ∧ s.endCycle.windowEnd.imon.neg = s.imon.neg := by
    rw [(windowEnd_frame _).1]
    exact ⟨rfl, rfl⟩
  unfold State.completeShift
  dsimp only
  refine passAndStop_allowed ?_ _
  rw [← hpoles.1, ← hpoles.2]
  exact owing_of_calm nextCycle_calm (by simp) (by simp) (by simp) (by simp) (by simp)
    (handOn_owing hend rfl rfl rfl rfl rfl)

theorem polesUnknown_allowed (h : s.Allowed) : s.polesUnknown.Allowed := by
  refine ⟨h.1, (chargerSafe_iff _).2 fun hcmd => ?_⟩
  obtain ⟨hdraw, hpaying, -, -, hsup⟩ := (mayCharge_iff s).1 ((chargerSafe_iff s).1 h.2 hcmd)
  exact (mayCharge_iff _).2 ⟨hdraw, hpaying, by simp [State.polesUnknown, PoleRec.reset],
    by simp [State.polesUnknown, PoleRec.reset], hsup⟩

theorem noBus_owing (h : s.Allowed) (up un : Nat) : (s.noBus up un).Owing := by
  have hunknown := polesUnknown_allowed (s := s.endCycle.modImon fun m =>
    { m with uP0 := up, uN0 := un, vbus := up + un, outcome := .noBus, endTime := s.now }) h
  have hended := allowed_congr (sameCharge_of_calm (poleConditionsEnd_calm.trans abandonLocating_calm)
    (by simp) (follows_of_eq (by simp)) (by simp) (by simp) (by simp)) hunknown
  refine owing_of_trigger ?_ rfl
  unfold State.noBus
  dsimp only
  split
  · exact backed_congr (by simp) (by simp) (within_of_eq (by simp)) (windowEnd_allowed hended).1
  · exact backed_congr (by simp) (by simp) (within_of_eq (by simp)) hended.1

theorem poleReading_owing (h : s.Allowed) (up un : Nat) : (s.poleReading up un).Owing := by
  unfold State.poleReading
  (repeat' split)
  · exact noBus_owing h _ _
  · exact owing_of_allowed h
  · exact owing_of_allowed h

/-! ### The clock (R132, R159 to R164) -/

theorem deliver_standing (total heat price fee grace : Nat) (idle : Bool) (a : Account) :
    (a.deliver total heat price fee grace idle).state = a.state := by
  simp only [Account.deliver, Account.takeIdle, Account.idleMinute]
  (repeat' split) <;> rfl

theorem newlySet_trigger {b a : Bool} {h : Handle} {e : AcctEvent}
    (hnew : (a && !b) = true ∨ s.work.trigger = true) : (s.newlySet b a h e).work.trigger = true := by
  unfold State.newlySet
  split
  · rfl
  next hoff => exact hnew.resolve_left hoff

/-- R163, R164: a delivery that newly caps or saturates an account triggers a pass. -/
theorem deliverTo_owing {i : Fin 16} (h : s.Owing) (total heat t : Nat) :
    (s.deliverTo i total heat t).Owing := by
  unfold State.deliverTo
  split
  · exact h
  next a ha =>
    dsimp only
    generalize hb : a.deliver total heat (bandPrice (s.tariff a.tariff).bands (minuteOfDay (t - 1) s.tck.offset))
      (s.tariff a.tariff).idleFee (s.tariff a.tariff).grace s.inl.state.idles = b
    have hstate : b.state = a.state := by rw [← hb]; exact deliver_standing ..
    have hmod : (s.modAccount i fun _ => b).Backed := by
      refine backed_congr (s := s) rfl rfl (within_modAccount fun x hx hactive => ?_) h.1
      cases ha.symm.trans hx
      exact hstate ▸ hactive
    by_cases hnew : (b.satTotal && !a.satTotal) = true ∨ (b.satEnergy && !a.satEnergy) = true ∨
        (b.satIdle && !a.satIdle) = true ∨ (b.capReached && !a.capReached) = true
    · refine owing_of_trigger (backed_congr (by simp) (by simp) (within_of_eq (by simp)) hmod) ?_
      rcases hnew with h1 | h2 | h3 | h4
      · exact newlySet_trigger (.inr (newlySet_trigger (.inr (newlySet_trigger (.inr
          (newlySet_trigger (.inl h1)))))))
      · exact newlySet_trigger (.inr (newlySet_trigger (.inr (newlySet_trigger (.inl h2)))))
      · exact newlySet_trigger (.inr (newlySet_trigger (.inl h3)))
      · exact newlySet_trigger (.inl h4)
    · simp only [not_or, Bool.and_eq_true, Bool.not_eq_true', not_and, Bool.not_eq_false] at hnew
      have hfollows : s.act.Follows (s.modAccount i fun _ => b).act := by
        refine follows_modAccount (fun x hx => ?_) fun x hx hcap hsat => ?_
        · cases ha.symm.trans hx
          exact hstate
        · cases ha.symm.trans hx
          simp only [Account.saturated, Bool.or_eq_false_iff] at hsat ⊢
          grind
      exact owing_congr (sameCharge_of_calm ((((modAccount_calm i _).trans (newlySet_calm _ _ _ _)).trans
        (newlySet_calm _ _ _ _)).trans ((newlySet_calm _ _ _ _).trans (newlySet_calm _ _ _ _)))
        (by simp) (by simpa using hfollows) (by simp) (by simp) (by simp)) (by
          exact ((((modAccount_calm i _).trans (newlySet_calm _ _ _ _)).trans
            (newlySet_calm _ _ _ _)).trans ((newlySet_calm _ _ _ _).trans (newlySet_calm _ _ _ _))).trigger) h

end

end Sys2Proof.Machine
end

section
/-! The charger command through the clock, the power states, the requests and every command: O30. -/

namespace Sys2Proof.Machine

section

variable {s t : State}

/-! ### The clock -/

theorem switchSlot_follows (i : Fin 16) : s.act.Follows (s.switchSlot i).act := by
  unfold State.switchSlot
  (repeat' split)
  · exact follows_of_eq rfl
  · exact follows_of_eq rfl
  next b _ _ =>
    have hmod : s.act.Follows (s.modAccount i fun x => { x with tariff := b, pending := none }).act :=
      follows_modAccount (fun _ _ => rfl) fun _ _ hcap hsat => ⟨hcap, hsat⟩
    simpa using hmod
  · exact follows_of_eq rfl

theorem switchTariffs_owing (h : s.Owing) : s.switchTariffs.Owing := by
  unfold State.switchTariffs
  induction fins 16 generalizing s with
  | nil => exact h
  | cons i rest ih =>
    exact ih (owing_congr (sameCharge_of_calm (switchSlot_calm i) (by simp) (switchSlot_follows i) (by simp)
      (by simp) (by simp)) (switchSlot_calm i).trigger h)

theorem deliver_owing (h : s.Owing) (total heat t : Nat) : (s.deliver total heat t).Owing := by
  unfold State.deliver
  split
  · exact deliverTo_owing h _ _ _
  · exact h

theorem meterTick_owing (h : s.Owing) (t : Nat) : (s.meterTick t).Owing := by
  unfold State.meterTick
  dsimp only
  split
  · exact deliver_owing (switchTariffs_owing (by exact h)) _ _ _
  · exact deliver_owing (by exact h) _ _ _

theorem allowanceExhausted_owing (h : s.Owing) : s.allowanceExhausted.Owing :=
  owing_of_trigger h.1 rfl

theorem debitAllowance_owing (h : s.Owing) : s.debitAllowance.Owing := by
  unfold State.debitAllowance
  dsimp only
  (repeat' split)
  · exact allowanceExhausted_owing (by exact h)
  · exact h
  · exact h

theorem advanceClock_owing (h : s.Owing) : s.advanceClock.Owing := by
  unfold State.advanceClock
  dsimp only
  (repeat' split)
  · exact debitAllowance_owing (meterTick_owing (by exact h) _)
  · exact meterTick_owing (by exact h) _
  · exact debitAllowance_owing (by exact h)
  · exact h

theorem secondExpires_owing (h : s.Owing) (e : PhaseEnergy) : (s.secondExpires e).Owing := by
  unfold State.secondExpires
  dsimp only
  (repeat' split)
  · exact advanceClock_owing (by exact h)
  · exact h
  · exact advanceClock_owing (by exact h)
  · exact h

/-! ### Power states -/

theorem suspendAtReset_within (s : State) : s.act.Within s.suspendAtReset.act := by
  unfold State.suspendAtReset
  split
  · exact fun _ => id
  next i _ =>
    have hact : (s.suspendSlot i .portReset).act =
        (s.modAccount i fun a => { a with state := .suspended, reason := some .portReset }).act := by
      simp [State.suspendSlot]
    simp only [modAtn_act, hact]
    exact within_modAccount fun a _ hstate => AcctState.noConfusion hstate

/-- R42, R200: a port reset stands the charger off. -/
theorem portReset_allowed (h : s.Allowed) (c : ResetCauses) : (s.portReset c).Allowed := by
  refine allowed_of_off (oneActive_of_within ?_ h.1.1) ?_ ?_
  · unfold State.portReset
    dsimp only
    refine fun i hi => ?_
    simpa using suspendAtReset_within _ i hi
  · simp [State.portReset, Power.portReset]
  · simp [State.portReset, Alloc.portReset]

theorem supplyReset_allowed : s.supplyReset.Allowed :=
  allowed_of_off (by rw [show s.supplyReset.act = Accounts.reset from rfl]; decide)
    (fun h => absurd h Bool.false_ne_true) rfl

theorem enterKeepWarm_allowed (h0 : s.alc.chargerCmd = 0) (hone : s.act.oneActive = true)
    (hresuming : s.pwc.resuming = false) : s.enterKeepWarm.Allowed := by
  refine allowed_of_off (by simpa using hone) (fun h => ?_)
    (by simpa [State.enterKeepWarm, State.startPasses] using h0)
  have hsame : s.enterKeepWarm.pwc.resuming = s.pwc.resuming := by
    simp [State.enterKeepWarm, State.setPower]
  rw [hsame, hresuming] at h
  cases h

theorem enterDormant_allowed (hone : s.act.oneActive = true) (hresuming : s.pwc.resuming = false) :
    s.enterDormant.Allowed := by
  refine allowed_of_off (by simpa using hone) (fun h => ?_) (by simp [State.enterDormant])
  have hsame : s.enterDormant.pwc.resuming = s.pwc.resuming := by
    unfold State.enterDormant
    dsimp only
    split <;> simp [State.setPower]
  rw [hsame, hresuming] at h
  cases h

/-- R196: a Park is taken Unplugged alone, so that the charger stands off. -/
theorem takePark_allowed (h : s.Allowed) (hpark : s.parkRefused = false) (mode : ParkMode) (n : Nat) :
    (s.takePark mode n).Allowed := by
  simp only [State.parkRefused, Bool.or_eq_false_iff, decide_eq_false_iff_not, not_not] at hpark
  obtain ⟨⟨hunplugged, -⟩, hresuming⟩ := hpark
  have h0 := off_of_not_drawing h (by rw [hunplugged]; exact InletState.noConfusion)
  have hset : (s.modPwc (Power.setPark mode (min Config.maxWakeMinutes n) s.rqp.config.sense)).Allowed := h
  unfold State.takePark State.enterMode
  (repeat' split)
  · exact hset
  · exact settle_allowed (owing_of_allowed (enterKeepWarm_allowed (by exact h0) hset.1.1 (by exact hresuming)))
  · exact enterDormant_allowed hset.1.1 (by exact hresuming)
  · exact hset

theorem endResumption_owing (h : s.Backed) (hresuming : s.pwc.resuming = true) (f : FrontEnd)
    (t : ZoneTemps) : (s.endResumption f t).Owing := by
  have hstill : s.blocksRun = false := by simp [State.blocksRun, h.2.1 hresuming, hresuming]
  refine owing_of_allowed (allowed_of_off (by simpa using h.1) (fun hr => ?_) ?_)
  · simp [State.endResumption] at hr
  · simpa [State.endResumption, State.startPasses] using off_of_still h hstill

theorem endStarting_owing (h : s.Backed) (hstarting : s.pwc.state = .starting) (ohms : Nat) (f : FrontEnd)
    (t : ZoneTemps) : (s.endStarting ohms f t).Owing := by
  have hstill : s.blocksRun = false := by simp [State.blocksRun, hstarting]
  refine owing_of_allowed (allowed_of_off (by simpa using h.1) (fun _ => ?_) ?_)
  · simp [State.endStarting, State.setPower]
  · simpa [State.endStarting, State.startPasses] using off_of_still h hstill

/-! ### Supervision and accounts -/

/-- R188: supervision renewed does not stand Expired. -/
theorem sameCharge_of_armed {sup : Supervision} (hsup : sup ≠ .expired) (h : s.Allowed) :
    (s.modRqp fun p => { p with sup := sup }).Allowed := by
  refine ⟨h.1, (chargerSafe_iff _).2 fun hcmd => ?_⟩
  obtain ⟨hdraw, hpaying, hpos, hneg, -⟩ := (mayCharge_iff s).1 ((chargerSafe_iff s).1 h.2 hcmd)
  exact (mayCharge_iff _).2 ⟨hdraw, hpaying, hpos, hneg, hsup⟩

theorem heartbeat_owing (h : s.Allowed) : s.heartbeat.Owing := by
  unfold State.heartbeat
  dsimp only
  (repeat' split)
  · exact owing_of_allowed h
  · exact owing_of_allowed (sameCharge_of_armed (by simp) h)
  · exact owing_of_trigger h.1 rfl
  · exact owing_of_trigger h.1 rfl

theorem activateSlot_owing (h : s.Backed) (hnone : s.act.activeSlot = none) (i : Fin 16) :
    (s.activateSlot i).Owing := by
  obtain ⟨-, hresuming, hrun, hbacked⟩ := h
  have hpwc : (s.activateSlot i).pwc = s.pwc := by simp
  refine owing_of_trigger ⟨activateSlot_oneActive hnone i, by simpa using hresuming, ?_, ?_⟩ rfl
  · rw [(runs_congr hpwc).1]
    simpa using hrun
  · simpa [Alloc.backed] using hbacked

theorem suspendSlot_owing (h : s.Backed) (i : Fin 16) (r : SuspendReason) : (s.suspendSlot i r).Owing := by
  refine owing_of_trigger (backed_congr (by simp) (by simp) ?_ h) rfl
  have hact : (s.suspendSlot i r).act =
      (s.modAccount i fun a => { a with state := .suspended, reason := some r }).act := by
    simp [State.suspendSlot]
  rw [hact]
  exact within_modAccount fun a _ hstate => AcctState.noConfusion hstate

/-- R156: the Close of an Active account leaves Active, and that of another is no charge's concern. -/
theorem closeSlot_owing {i : Fin 16} {a : Account} (h : s.Allowed)
    (ha : (s.act.slots.get i).acct = some a) : (s.closeSlot i a).Owing := by
  have hwithin : s.act.Within (s.modAccount i fun x => x.close s.now).act :=
    within_modAccount fun x _ hstate => AcctState.noConfusion hstate
  unfold State.closeSlot
  dsimp only
  split
  · exact owing_of_trigger (backed_congr (by simp) (by simp) (by simpa using hwithin) h.1) rfl
  next hother =>
    have hclosed : s.act.Alike (s.modAccount i fun x => x.close s.now).act := modAccount_alike fun x hx => by
      cases ha.symm.trans hx
      simp [Slot.billing, Account.close, hother]
    exact owing_of_allowed (allowed_congr (sameCharge_of_calm ((modAccount_calm i _).trans (releasePending_calm _))
      (by simp) (follows_of_alike (by simpa using hclosed)) (by simp) (by simp) (by simp)) h)

/-! ### The requests -/

theorem request_allowed {codes : Byte → Bool} {owner : List Byte → State → State × Reply}
    (h : Keeps State.Allowed owner) (hs : s.Allowed) : (s.runRequest codes owner).Allowed :=
  request_keeps (fun _ _ ht => ht) h hs

theorem report_request_allowed {codes : Byte → Bool} (f : State → List Byte) (hs : s.Allowed) :
    (s.runRequest codes (noPayload (report f))).Allowed :=
  request_allowed (keeps_noPayload (keeps_report f)) hs

/-- An event that only triggers a pass, and leaves what the backing reads. -/
theorem settle_trigger_allowed (h : s.Backed) : s.trigger.settle.Allowed :=
  settle_allowed (owing_of_trigger h rfl)

theorem ownConfigure_allowed : Keeps State.Allowed ownConfigure := by
  intro p s h
  unfold ownConfigure
  (repeat' split)
  · exact h
  · exact settle_trigger_allowed (by exact h.1)
  · exact h

theorem ownPark_allowed : Keeps State.Allowed ownPark := by
  intro p s h
  unfold ownPark
  (repeat' split)
  · exact h
  · exact h
  next hpark => exact takePark_allowed h (Bool.not_eq_true _ ▸ hpark) _ _
  · exact h

theorem ownSetChargeLimits_allowed : Keeps State.Allowed ownSetChargeLimits := by
  intro p s h
  unfold ownSetChargeLimits
  split
  · exact settle_trigger_allowed (by exact h.1)
  · exact h

theorem ownReportBattery_allowed : Keeps State.Allowed ownReportBattery := by
  intro p s h
  unfold ownReportBattery
  split
  · exact settle_trigger_allowed (by exact h.1)
  · exact h

theorem ownWriteCurve_allowed : Keeps State.Allowed ownWriteCurve := by
  intro p s h
  unfold ownWriteCurve
  (repeat' split)
  · exact h
  · exact h
  · exact h
  · exact settle_trigger_allowed (by exact h.1)
  · exact h

theorem ownWriteZone_allowed : Keeps State.Allowed ownWriteZone := by
  intro p s h
  unfold ownWriteZone
  (repeat' split)
  · exact h
  · exact h
  · exact settle_trigger_allowed (by exact h.1)
  · exact h

theorem ownReadZone_allowed : Keeps State.Allowed ownReadZone := by
  intro p s h
  unfold ownReadZone
  (repeat' split) <;> exact h

theorem resetZone_owing (h : s.Owing) (i : Fin 6) : (s.resetZone i).Owing := by
  have hreset : (s.modZone i fun z => { z.toOff with enabled := false }).trigger.Owing :=
    owing_of_trigger h.1 rfl
  unfold State.resetZone
  dsimp only
  split
  · exact owing_of_calm (conditionEnds_calm _) (by simp) (by simp) (by simp) (by simp) (by simp) hreset
  · exact hreset

theorem ownResetZone_allowed : Keeps State.Allowed ownResetZone := by
  intro p s h
  unfold ownResetZone
  (repeat' split)
  · exact h
  · exact h
  · exact h
  · exact settle_allowed (resetZone_owing (owing_of_allowed h) _)
  · exact h

theorem setAllowance_owing (h : s.Allowed) (wh : Nat) : (s.setAllowance wh).Owing := by
  unfold State.setAllowance
  dsimp only
  (repeat' split)
  · exact owing_of_trigger h.1 rfl
  · exact owing_of_trigger h.1 rfl
  · exact owing_of_allowed h

theorem ownSetAllowance_allowed : Keeps State.Allowed ownSetAllowance := by
  intro p s h
  unfold ownSetAllowance
  split
  · exact settle_allowed (setAllowance_owing h _)
  · exact h

theorem ownSetThresholds_allowed : Keeps State.Allowed ownSetThresholds := by
  intro p s h
  unfold ownSetThresholds
  dsimp only
  (repeat' split) <;> exact h

theorem ownReadFault_allowed (n : Nat) (s : State) (h : s.Allowed) : (ownReadFault n s).1.Allowed := by
  unfold ownReadFault
  split <;> exact h

theorem ownAcknowledgeFault_allowed (n : Nat) (s : State) (h : s.Allowed) :
    (ownAcknowledgeFault n s).1.Allowed := by
  unfold ownAcknowledgeFault
  (repeat' split) <;> exact h

theorem ownRetireFault_allowed (n : Nat) (s : State) (h : s.Allowed) : (ownRetireFault n s).1.Allowed := by
  unfold ownRetireFault
  (repeat' split) <;> exact h

theorem restore_frame (c : Context) (s : State) : (s.restore c).alc.commands = s.alc.commands ∧
    (s.restore c).act = s.act ∧ (s.restore c).pwc = s.pwc := by
  have key : ∀ (l : List (Fin 6)) (t : State), (l.foldl (State.restoreZone c) t).alc = t.alc ∧
      (l.foldl (State.restoreZone c) t).act = t.act ∧ (l.foldl (State.restoreZone c) t).pwc = t.pwc := by
    intro l
    induction l with
    | nil => exact fun t => ⟨rfl, rfl, rfl⟩
    | cons i rest ih => intro t; simpa [State.restoreZone] using ih (t.restoreZone c i)
  obtain ⟨halc, hact, hpwc⟩ := key (fins 6) s
  exact ⟨(congrArg Alloc.commands halc :), hact, hpwc⟩

/-- R111: a Resume activates an account only where none is Active. -/
theorem reactivate_backed (h : s.Backed) (x : Option Handle) : (s.reactivate x).Backed := by
  unfold State.reactivate
  (repeat' split)
  · exact h
  next y hresumed =>
    refine (activateSlot_owing h ?_ _).1
    unfold State.resumeOutcome at hresumed
    (repeat' split at hresumed) <;> simp_all
  · exact h

theorem ownResume_allowed (s : State) (h : s.Allowed) : (ownResume s).1.Allowed := by
  unfold ownResume
  (repeat' split)
  · exact h
  · exact h
  next c _ _ =>
    obtain ⟨halc, hact, hpwc⟩ := restore_frame c s
    have hrestored : (s.restore c).Backed := backed_congr halc hpwc (within_of_eq hact) h.1
    exact settle_trigger_allowed (by exact reactivate_backed hrestored c.handle)

theorem ownDiscardSnapshot_allowed (s : State) (h : s.Allowed) : (ownDiscardSnapshot s).1.Allowed := by
  unfold ownDiscardSnapshot
  split <;> exact h

theorem ownSetClock_allowed : Keeps State.Allowed ownSetClock := by
  intro p s h
  unfold ownSetClock
  split <;> exact h

theorem ownWriteTariff_allowed : Keeps State.Allowed ownWriteTariff := by
  intro p s h
  unfold ownWriteTariff
  dsimp only
  (repeat' split) <;> exact h

theorem ownReadTariff_allowed (n : Nat) (s : State) (h : s.Allowed) : (ownReadTariff n s).1.Allowed := by
  unfold ownReadTariff
  split <;> exact h

/-- R148: the account that an Open fills a Free slot with is not Active. -/
theorem fillSlot_allowed {i : Fin 16} (h : s.Allowed) (hfree : s.act.freeSlot = some i) {a : Account}
    (ha : a.state ≠ .active) (tariff : Fin 8) : ((s.fillSlot i a).takeRef tariff).Allowed := by
  have hnone : (s.act.slots.get i).acct = none := by simpa using Table.find_some hfree
  have halike : s.act.Alike (s.fillSlot i a).act := alike_modify (by simp [Slot.billing, hnone, ha])
  exact allowed_congr (sameCharge_of_calm ((modAct_calm _).trans (modTariff_calm _ _)) rfl
    (follows_of_alike halike) rfl rfl rfl) h

theorem ownOpenAccount_allowed : Keeps State.Allowed ownOpenAccount := by
  intro p s h
  unfold ownOpenAccount
  (repeat' split)
  · exact h
  · exact h
  · exact h
  · exact h
  next hfree _ => exact fillSlot_allowed h hfree AcctState.noConfusion _
  · exact h
  · exact h

theorem ownFindAccount_allowed : Keeps State.Allowed ownFindAccount := by
  intro p s h
  unfold ownFindAccount
  (repeat' split) <;> exact h

/-- The account that a handle names stands in its slot. -/
theorem keeps_withHandle_of_standing {P : State → Prop} {length : Nat} {free : List Byte}
    {owner : Fin 16 → Account → List Byte → State → State × Reply}
    (h : ∀ i a p s, (s.act.slots.get i).acct = some a → P s → P (owner i a p s).1) :
    Keeps P (withHandle length free owner) := by
  intro p s hs
  unfold withHandle
  (repeat' split)
  · exact hs
  · exact hs
  · exact hs
  next ha => exact h _ _ _ _ ha hs
  · exact hs

theorem ownReadAccount_allowed (i : Fin 16) (a : Account) (p : List Byte) (s : State) (h : s.Allowed) :
    (ownReadAccount i a p s).1.Allowed := by
  unfold ownReadAccount
  (repeat' split) <;> exact h

theorem amendRefs_frame {before after : Option (Fin 8)} (h : s.amendRefs before after = some t) :
    t.inl = s.inl ∧ t.alc = s.alc ∧ t.hzc = s.hzc ∧ t.imon = s.imon ∧ t.stu = s.stu ∧ t.mtr = s.mtr ∧
    t.act = s.act ∧ t.atn = s.atn ∧ t.rqp = s.rqp ∧ t.pwc = s.pwc ∧ t.work = s.work := by
  unfold State.amendRefs at h
  (repeat' split at h) <;> cases h <;> simp

/-- R152: an Amend of the Active account that changes CapReached triggers a pass. -/
theorem amendTo_allowed (pending : Option (Fin 8)) (i : Fin 16) (a : Account) (p : List Byte) (s : State)
    (ha : (s.act.slots.get i).acct = some a) (h : s.Allowed) : (amendTo pending i a p s).1.Allowed := by
  unfold amendTo
  split
  · exact h
  split
  · exact h
  next u hrefs =>
    dsimp only
    obtain ⟨hinl, halc, -, himon, -, -, hact, -, hrqp, hpwc, -⟩ := amendRefs_frame hrefs
    have hu : u.Allowed := allowed_congr ⟨by rw [hinl], follows_of_eq hact, by rw [himon], by rw [himon],
      by rw [hrqp], by rw [halc], hpwc⟩ h
    have hau : (u.act.slots.get i).acct = some a := by rw [hact]; exact ha
    have hcalm : u.Calm (u.modAccount i fun _ => a.amend p pending) := modAccount_calm i _
    have hsame : (a.state = .active → (a.amend p pending).capReached = a.capReached) →
        (u.modAccount i fun _ => a.amend p pending).Allowed := fun hcap =>
      allowed_congr (sameCharge_of_calm hcalm rfl (follows_of_alike (modAccount_alike fun x hx => by
        cases hau.symm.trans hx
        by_cases hactive : a.state = .active
        · have hb : (a.amend p pending).state = .active := hactive
          have hsat : (a.amend p pending).saturated = a.saturated := rfl
          simp [Slot.billing, hactive, hb, hcap hactive, hsat]
        · have hb : (a.amend p pending).state ≠ .active := hactive
          simp [Slot.billing, hactive, hb])) rfl rfl rfl) hu
    refine settle_allowed ?_
    split
    next hactive =>
      unfold State.capChange
      (repeat' split)
      next hcap => exact owing_of_allowed (hsame fun _ => hcap)
      all_goals
        refine owing_of_trigger (backed_congr (s := u) rfl rfl (within_modAccount fun x hx _ => ?_) hu.1) rfl
        cases hau.symm.trans hx
        exact hactive
    next hother => exact owing_of_allowed (hsame fun h => absurd h hother)

theorem ownAmendAccount_allowed (i : Fin 16) (a : Account) (p : List Byte) (s : State)
    (ha : (s.act.slots.get i).acct = some a) (h : s.Allowed) : (ownAmendAccount i a p s).1.Allowed := by
  unfold ownAmendAccount
  (repeat' split)
  · exact h
  · exact amendTo_allowed _ _ _ _ _ ha h
  · exact amendTo_allowed _ _ _ _ _ ha h

theorem activateFailure_none {a : Account} (h : s.activateFailure a = 0) : s.act.activeSlot = none := by
  unfold State.activateFailure at h
  (repeat' split at h) <;> simp_all

theorem ownActivateAccount_allowed (i : Fin 16) (a : Account) (p : List Byte) (s : State) (h : s.Allowed) :
    (ownActivateAccount i a p s).1.Allowed := by
  unfold ownActivateAccount
  split
  next hnone => exact settle_allowed (activateSlot_owing h.1 (activateFailure_none hnone) _)
  · exact h

theorem ownSuspendAccount_allowed (i : Fin 16) (a : Account) (p : List Byte) (s : State) (h : s.Allowed) :
    (ownSuspendAccount i a p s).1.Allowed := by
  unfold ownSuspendAccount
  split
  · exact settle_allowed (suspendSlot_owing h.1 _ _)
  · exact h

theorem ownCloseAccount_allowed (i : Fin 16) (a : Account) (p : List Byte) (s : State)
    (ha : (s.act.slots.get i).acct = some a) (h : s.Allowed) : (ownCloseAccount i a p s).1.Allowed := by
  unfold ownCloseAccount
  split
  · exact h
  · exact settle_allowed (closeSlot_owing h ha)

/-- R158: a retired account was Closed. -/
theorem ownRetireAccount_allowed (i : Fin 16) (a : Account) (p : List Byte) (s : State)
    (ha : (s.act.slots.get i).acct = some a) (h : s.Allowed) : (ownRetireAccount i a p s).1.Allowed := by
  unfold ownRetireAccount
  split
  next hclosed =>
    have halike : s.act.Alike { s.act with slots := s.act.slots.modify i Slot.retire } :=
      alike_modify (by simp [Slot.billing, Slot.retire, ha, hclosed])
    exact allowed_congr (sameCharge_of_calm ((modAct_calm _).trans (modTariff_calm _ _)) rfl
      (follows_of_alike halike) rfl rfl rfl) h
  · exact h

theorem ownTakeAttention_allowed (s : State) (h : s.Allowed) : (ownTakeAttention s).1.Allowed := by
  unfold ownTakeAttention
  (repeat' split) <;> exact h

theorem ownReleaseAttention_allowed (s : State) (h : s.Allowed) : (ownReleaseAttention s).1.Allowed := by
  unfold ownReleaseAttention
  split <;> exact h

theorem ownSetAttentionSource_allowed : Keeps State.Allowed ownSetAttentionSource := by
  intro p s h
  unfold ownSetAttentionSource
  (repeat' split) <;> exact h

end

/-- R183: a transaction moves the queue and the last drop alone. -/
theorem endTransaction_frame (carries : Bool) (clocked : List Byte) (p : Port) :
    (p.endTransaction carries clocked).sup = p.sup ∧ (p.endTransaction carries clocked).config = p.config ∧
    (p.endTransaction carries clocked).configured = p.configured := by
  simp only [Port.endTransaction, Port.takeFrame, Port.enqueue, Port.drop, Port.collect, Port.dropShown]
  (repeat' split) <;> exact ⟨rfl, rfl, rfl⟩

/-! ### Every command -/

/-- O30 for one command: by the operations of its event, or by its owner. -/
theorem exec_allowed {c : Instr} {s t : State} (h : s.Allowed) (ht : exec c s = .next t) : t.Allowed := by
  have howing := owing_of_allowed h
  cases c <;> cases ht
  case identify => exact report_request_allowed _ h
  case configure => exact request_allowed ownConfigure_allowed h
  case heartbeat =>
    exact request_allowed (keeps_noPayload fun _ hs => settle_allowed (heartbeat_owing hs)) h
  case restart => exact request_allowed (keeps_noPayload fun _ hs => portReset_allowed hs _) h
  case park => exact request_allowed ownPark_allowed h
  case readResetCauses => exact report_request_allowed _ h
  case clearResetCauses => exact request_allowed (keeps_noPayload fun _ hs => hs) h
  case readInlet => exact report_request_allowed _ h
  case setChargeLimits => exact request_allowed ownSetChargeLimits_allowed h
  case reportBattery => exact request_allowed ownReportBattery_allowed h
  case writeCurve => exact request_allowed ownWriteCurve_allowed h
  case readCurve => exact report_request_allowed _ h
  case readAllocation => exact request_allowed (keeps_oneByte fun _ _ hs => hs) h
  case writeZone => exact request_allowed ownWriteZone_allowed h
  case readZone => exact request_allowed ownReadZone_allowed h
  case resetZone => exact request_allowed ownResetZone_allowed h
  case setAllowance => exact request_allowed ownSetAllowance_allowed h
  case readAllowance => exact report_request_allowed _ h
  case readInsulation => exact report_request_allowed _ h
  case setThresholds => exact request_allowed ownSetThresholds_allowed h
  case readFault => exact request_allowed (keeps_oneByte ownReadFault_allowed) h
  case acknowledgeFault => exact request_allowed (keeps_oneByte ownAcknowledgeFault_allowed) h
  case retireFault => exact request_allowed (keeps_oneByte ownRetireFault_allowed) h
  case stop =>
    exact request_allowed (keeps_noPayload fun _ hs => settle_allowed (takeStop_owing hs.1 _)) h
  case resume => exact request_allowed (keeps_noPayload ownResume_allowed) h
  case discardSnapshot => exact request_allowed (keeps_noPayload ownDiscardSnapshot_allowed) h
  case readSnapshot => exact report_request_allowed _ h
  case readMeter => exact request_allowed (keeps_oneByte fun _ _ hs => hs) h
  case clearUnbilled => exact request_allowed (keeps_noPayload fun _ hs => hs) h
  case setClock => exact request_allowed ownSetClock_allowed h
  case readClock => exact report_request_allowed _ h
  case writeTariff => exact request_allowed ownWriteTariff_allowed h
  case readTariff => exact request_allowed (keeps_oneByte ownReadTariff_allowed) h
  case openAccount => exact request_allowed ownOpenAccount_allowed h
  case findAccount => exact request_allowed ownFindAccount_allowed h
  case listAccounts => exact report_request_allowed _ h
  case readAccount => exact request_allowed (keeps_withHandle ownReadAccount_allowed) h
  case amendAccount => exact request_allowed (keeps_withHandle_of_standing ownAmendAccount_allowed) h
  case activateAccount => exact request_allowed (keeps_withHandle ownActivateAccount_allowed) h
  case suspendAccount => exact request_allowed (keeps_withHandle ownSuspendAccount_allowed) h
  case closeAccount => exact request_allowed (keeps_withHandle_of_standing ownCloseAccount_allowed) h
  case retireAccount => exact request_allowed (keeps_withHandle_of_standing ownRetireAccount_allowed) h
  case takeAttention => exact request_allowed (keeps_noPayload ownTakeAttention_allowed) h
  case releaseAttention => exact request_allowed (keeps_noPayload ownReleaseAttention_allowed) h
  case setAttentionSource => exact request_allowed ownSetAttentionSource_allowed h
  case unknownRequest => exact request_allowed (fun _ _ hs => hs) h
  case transactionStart => split <;> exact h
  case transactionEnd clocked =>
    split
    · exact h
    next tr _ =>
      exact allowed_congr (sameCharge_of_calm (modRqp_calm _) rfl (follows_of_eq rfl)
        (endTransaction_frame _ _ _).1 rfl rfl) h
  case proximityReading ohms f =>
    split
    · exact settle_allowed (readProximity_owing h ohms f)
    · exact h
  case pilotWindowEnd w =>
    split
    · exact settle_allowed (pilotWindow_owing h w)
    · exact h
  case idleTimerExpiry =>
    split
    · exact settle_allowed (enterInlet_owing h.1 _)
    · exact h
  case pausingTimerExpiry =>
    split
    · exact settle_allowed (enterInlet_owing h.1 _)
    · exact h
  case quickReading f =>
    split
    · exact settle_allowed (readPhases_owing howing f)
    · exact h
  case periodicPass =>
    split
    · exact settle_allowed (owing_of_trigger h.1 rfl)
    · exact h
  case batteryReportStale =>
    split
    · exact settle_trigger_allowed (by exact h.1)
    · exact h
  case zoneSensorReading temps =>
    split
    · exact settle_allowed (readZones_owing howing temps)
    · exact h
  case clockAdvance e =>
    split
    · exact settle_allowed (secondExpires_owing howing e)
    · exact h
  case poleVoltageReading up un =>
    split
    · exact h
    · exact settle_allowed (poleReading_owing h _ _)
  case cyclePeriodExpiry =>
    split
    · exact allowed_congr (sameCharge_of_calm startCycleIfDue_calm (by simp) (follows_of_eq (by simp))
        (by simp) (by simp) (by simp)) h
    · exact h
  case baseSettleEnd => split <;> exact h
  case baseSampleEnd =>
    split
    · exact settle_allowed (completeBase_owing h)
    · exact h
  case shiftSettleEnd => split <;> exact h
  case shiftSampleEnd =>
    split
    · exact completeShift_allowed h
    · exact h
  case supervisionExpiry =>
    split
    · exact settle_allowed (owing_of_trigger h.1 rfl)
    · exact h
  case wakeLineEdge e f =>
    split
    next hparked => exact settle_allowed (wake_owing h (Bool.and_eq_true .. ▸ hparked).1 _ _)
    · exact h
  case wakeTimerExpiry f =>
    split
    next hparked => exact settle_allowed (wake_owing h (Bool.and_eq_true .. ▸ hparked).1 _ _)
    · exact h
  case resumptionEnd f temps =>
    split
    next hresuming => exact settle_allowed (endResumption_owing h.1 hresuming.2 _ _)
    · exact h
  case startingEnd ohms f temps =>
    split
    next hstarting => exact settle_allowed (endStarting_owing h.1 hstarting.1 _ _ _)
    · exact h
  case supplyReset => exact supplyReset_allowed
  case resetPin =>
    split
    · exact h
    · exact portReset_allowed h _
  case resetPinRelease => exact h

/-- Settles O30: the invariant stands through a ms and through every command. -/
theorem chargerRunsOnlyWhenAllowed : Obligations.ChargerRunsOnlyWhenAllowed := by
  rintro s t ⟨hsafe, hone, hresuming, hcmd⟩ hstep
  have hs : s.Allowed :=
    ⟨⟨hone, hresuming, fun h => (hcmd h).1, fun h => (hcmd h).2⟩, hsafe⟩
  have ht : t.Allowed := by
    unfold step at hstep
    split at hstep
    · cases hstep
      exact tick_allowed hs
    next _ rest _ => exact exec_allowed (s := s.withPending rest) hs hstep
  obtain ⟨⟨hone', hresuming', hruns', hbacked'⟩, hsafe'⟩ := ht
  exact ⟨hsafe', hone', hresuming', fun h => ⟨hruns' h, hbacked' h⟩⟩

end Sys2Proof.Machine
end

section
/-! What only certain commands change (O59): the settings as a list, who writes each, and the operations that leave
them all. -/

namespace Sys2Proof.Machine

/-! ### The settings -/

/-- The items of O59. -/
inductive Setting where
  | thresholds | config | clock | wall | tariffs | curve | limits | ceiling | zones | targets | allowance
  | unbilled | epoch | sources | stack | flags

/-- R136: the definition of a tariff, without its reference count. -/
def Tariff.definition (t : Tariff) := (t.bands, t.idleFee, t.grace)

/-- What it is for an item to stand from `s` to `t`. -/
def Setting.stands (k : Setting) (s t : State) : Prop :=
  match k with
  | .thresholds => t.imon.warnTh = s.imon.warnTh ∧ t.imon.faultTh = s.imon.faultTh
  | .config => t.rqp.config = s.rqp.config ∧ t.rqp.configured = s.rqp.configured
  | .clock => t.tck.offset = s.tck.offset ∧ t.tck.isSet = s.tck.isSet
  | .wall => t.tck.wall = s.tck.wall ∧ t.tck.secondMs = s.tck.secondMs
  | .tariffs => ∀ i, (t.tck.tariffs.get i).definition = (s.tck.tariffs.get i).definition
  | .curve => t.alc.curve = s.alc.curve
  | .limits => t.alc.heatLimit = s.alc.heatLimit ∧ t.alc.mask = s.alc.mask
  | .ceiling => t.alc.ceiling = s.alc.ceiling ∧ t.alc.share = s.alc.share
  | .zones => ∀ i, (t.zone i).gain = (s.zone i).gain ∧ (t.zone i).pMax = (s.zone i).pMax ∧
      (t.zone i).priority = (s.zone i).priority
  | .targets => ∀ i, (t.zone i).target = (s.zone i).target
  | .allowance => t.hzc.allowWh = s.hzc.allowWh ∧ t.hzc.allowJ = s.hzc.allowJ
  | .unbilled => t.mtr.unbilledWh = s.mtr.unbilledWh ∧ t.mtr.unbilledJ = s.mtr.unbilledJ ∧
      t.mtr.last = s.mtr.last
  | .epoch => t.stu.epoch = s.stu.epoch
  | .sources => ∀ i, (t.atn.sources.get i).level = (s.atn.sources.get i).level ∧
      (t.atn.sources.get i).id = (s.atn.sources.get i).id
  | .stack => t.atn.stack = s.atn.stack
  | .flags => ∀ i, (s.atn.sources.get i).flag = true → (t.atn.sources.get i).flag = true

/-- The commands that change an item, besides a supply reset. -/
def Setting.writtenBy (k : Setting) (c : Instr) : Prop :=
  match k with
  | .thresholds => c = .setThresholds
  | .config => c = .configure
  | .clock => c = .setClock
  | .wall => c = .setClock ∨ ∃ e, c = .clockAdvance e
  | .tariffs => c = .writeTariff
  | .curve => c = .writeCurve
  | .limits => c = .setChargeLimits
  | .ceiling => c = .setChargeLimits ∨ c = .resume
  | .zones => c = .writeZone
  | .targets => c = .writeZone ∨ c = .resume
  | .allowance => c = .setAllowance ∨ ∃ e, c = .clockAdvance e
  | .unbilled => c = .clearUnbilled ∨ ∃ e, c = .clockAdvance e
  | .epoch => c = .stop ∨ c = .shiftSampleEnd
  | .sources => c = .setAttentionSource
  | .stack => c = .restart ∨ c = .resetPin ∨ c = .takeAttention ∨ c = .releaseAttention
  | .flags => c = .restart ∨ c = .resetPin ∨ c = .takeAttention

theorem Setting.stands_refl (k : Setting) (s : State) : k.stands s s := by
  cases k <;> simp [Setting.stands]

theorem Setting.stands_trans {k : Setting} {s t u : State} (h : k.stands s t) (h' : k.stands t u) :
    k.stands s u := by
  cases k
  case curve | epoch | stack => exact Eq.trans h' h
  case thresholds | config | clock | wall | limits | ceiling | allowance =>
    exact ⟨h'.1.trans h.1, h'.2.trans h.2⟩
  case unbilled => exact ⟨h'.1.trans h.1, h'.2.1.trans h.2.1, h'.2.2.trans h.2.2⟩
  case tariffs | targets => exact fun i => (h' i).trans (h i)
  case zones => exact fun i => ⟨(h' i).1.trans (h i).1, (h' i).2.1.trans (h i).2.1, (h' i).2.2.trans (h i).2.2⟩
  case sources => exact fun i => ⟨(h' i).1.trans (h i).1, (h' i).2.trans (h i).2⟩
  case flags => exact fun i hi => h' i (h i hi)

/-- Every item stands. -/
def State.Stands (s t : State) : Prop := ∀ k : Setting, k.stands s t

/-- Every item stands but those that `c` writes. -/
def State.StandsBut (c : Instr) (s t : State) : Prop := ∀ k : Setting, ¬ k.writtenBy c → k.stands s t

section

variable {s t u : State} {c : Instr}

theorem State.Stands.refl (s : State) : s.Stands s := fun k => k.stands_refl s

theorem State.Stands.trans (h : s.Stands t) (h' : t.Stands u) : s.Stands u := fun k =>
  Setting.stands_trans (h k) (h' k)

/-- `State.Stands.trans` from its last step. -/
theorem stands_after (h' : t.Stands u) (h : s.Stands t) : s.Stands u := h.trans h'

theorem State.Stands.but (h : s.Stands t) : State.StandsBut c s t := fun k _ => h k

theorem State.StandsBut.trans (h : State.StandsBut c s t) (h' : State.StandsBut c t u) :
    State.StandsBut c s u := fun k hk => Setting.stands_trans (h k hk) (h' k hk)

theorem State.StandsBut.refl (s : State) : State.StandsBut c s s := (State.Stands.refl s).but

/-! ### What leaves every item -/

/-- R18, R30: ALC's items. -/
def Alloc.written (a : Alloc) := (a.curve, a.heatLimit, a.mask, a.ceiling, a.share)

/-- R126, R124: MTR's items. -/
def Meter.kept (m : Meter) := (m.unbilledWh, m.unbilledJ, m.last)

/-- R191: RQP's items. -/
def Port.setup (p : Port) := (p.config, p.configured)

/-- R131, R136: TCK's items. -/
def Clock.written (c : Clock) := (c.wall, c.offset, c.isSet, c.secondMs, c.tariffs.map Tariff.definition)

theorem written_of_settings {a b : Alloc} (h : b.settings = a.settings) : b.written = a.written := by
  simp only [Alloc.settings, Prod.mk.injEq] at h
  obtain ⟨hceiling, hshare, hheat, hmask, hcurve, -⟩ := h
  simp [Alloc.written, hceiling, hshare, hheat, hmask, hcurve]

theorem Attention.Rises.sources {a b : Attention} (h : a.Rises b) (i : Fin 11) :
    (b.sources.get i).level = (a.sources.get i).level ∧ (b.sources.get i).id = (a.sources.get i).id := by
  have hsources : (b.sources.map fun r => (r.level, r.id)) = a.sources.map fun r => (r.level, r.id) :=
    congrArg Prod.snd h.settings
  have hi := congrArg (fun x => x.get i) hsources
  simpa using hi

/-- The items, block by block. -/
theorem stands_of_parts (himon : t.imon.warnTh = s.imon.warnTh ∧ t.imon.faultTh = s.imon.faultTh)
    (htuning : ∀ i, (t.zone i).tuning = (s.zone i).tuning)
    (hallow : t.hzc.allowWh = s.hzc.allowWh ∧ t.hzc.allowJ = s.hzc.allowJ) (hatn : s.atn.Rises t.atn)
    (halc : t.alc.written = s.alc.written) (hmtr : t.mtr.kept = s.mtr.kept)
    (htck : t.tck.written = s.tck.written) (hrqp : t.rqp.setup = s.rqp.setup)
    (hstu : t.stu.epoch = s.stu.epoch) : s.Stands t := by
  simp only [Alloc.written, Prod.mk.injEq] at halc
  obtain ⟨hcurve, hheat, hmask, hceiling, hshare⟩ := halc
  simp only [Clock.written, Prod.mk.injEq] at htck
  obtain ⟨hwall, hoffset, hset, hsecond, htariffs⟩ := htck
  simp only [Meter.kept, Port.setup, Prod.mk.injEq] at hmtr hrqp
  simp only [Zone.tuning, Prod.mk.injEq] at htuning
  intro k
  cases k
  case thresholds => exact himon
  case config => exact hrqp
  case clock => exact ⟨hoffset, hset⟩
  case wall => exact ⟨hwall, hsecond⟩
  case tariffs => exact fun i => by simpa using congrArg (fun x => x.get i) htariffs
  case curve => exact hcurve
  case limits => exact ⟨hheat, hmask⟩
  case ceiling => exact ⟨hceiling, hshare⟩
  case zones => exact fun i => (htuning i).2
  case targets => exact fun i => (htuning i).1
  case allowance => exact hallow
  case unbilled => exact hmtr
  case epoch => exact hstu
  case sources => exact hatn.sources
  case stack => exact congrArg Prod.fst hatn.settings
  case flags => exact hatn.flags

theorem stands_of_calm (h : s.Calm t) (halc : t.alc.written = s.alc.written)
    (hmtr : t.mtr.kept = s.mtr.kept) (htck : t.tck.written = s.tck.written)
    (hrqp : t.rqp.setup = s.rqp.setup) (hstu : t.stu.epoch = s.stu.epoch) : s.Stands t := by
  have hjudged := h.judged
  simp only [Insulation.judged, Prod.mk.injEq] at hjudged
  obtain ⟨hwarn, hfault, -⟩ := hjudged
  exact stands_of_parts ⟨hwarn, hfault⟩ h.tuning h.allowance h.atn halc hmtr htck hrqp hstu

/-! The updates of one block. -/

theorem modInl_stands (f : Inlet → Inlet) : s.Stands (s.modInl f) := State.Stands.refl s
theorem modAct_stands (f : Accounts → Accounts) : s.Stands (s.modAct f) := State.Stands.refl s
theorem modPwc_stands (f : Power → Power) : s.Stands (s.modPwc f) := State.Stands.refl s
theorem modWork_stands (f : Work → Work) : s.Stands (s.modWork f) := State.Stands.refl s

theorem modAlc_stands {f : Alloc → Alloc} (h : ∀ a, (f a).written = a.written) : s.Stands (s.modAlc f) :=
  stands_of_calm (modAlc_calm f) (h _) rfl rfl rfl rfl

theorem modStu_stands {f : Stops → Stops} (h : ∀ x, (f x).epoch = x.epoch) : s.Stands (s.modStu f) :=
  stands_of_calm (modStu_calm f) rfl rfl rfl rfl (h _)

theorem modMtr_stands {f : Meter → Meter} (h : ∀ m, (f m).kept = m.kept) : s.Stands (s.modMtr f) :=
  stands_of_calm (modMtr_calm f) rfl (h _) rfl rfl rfl

theorem modRqp_stands {f : Port → Port} (h : ∀ p, (f p).setup = p.setup) : s.Stands (s.modRqp f) :=
  stands_of_calm (modRqp_calm f) rfl rfl rfl (h _) rfl

theorem modImon_stands {f : Insulation → Insulation}
    (h : ∀ m, (f m).warnTh = m.warnTh ∧ (f m).faultTh = m.faultTh) : s.Stands (s.modImon f) :=
  stands_of_parts (h _) (fun _ => rfl) ⟨rfl, rfl⟩ (.refl _) rfl rfl rfl rfl rfl

theorem modTariff_stands {i : Fin 8} {f : Tariff → Tariff} (h : ∀ x, (f x).definition = x.definition) :
    s.Stands (s.modTariff i f) := by
  refine stands_of_calm (modTariff_calm i f) rfl rfl ?_ rfl rfl
  have htariffs : (s.tck.tariffs.modify i f).map Tariff.definition = s.tck.tariffs.map Tariff.definition :=
    Table.ext_get fun j => by
      rw [Table.get_map, Table.get_map, Table.get_modify]
      split
      · exact h _
      · rfl
  simp [Clock.written, State.modTariff, htariffs]

theorem mapZones_stands {f : Zone → Zone} (h : ∀ z, (f z).tuning = z.tuning) :
    s.Stands (s.modHzc fun x => { x with zones := x.zones.map f }) :=
  stands_of_calm (mapZones_calm h) rfl rfl rfl rfl rfl

theorem startCycle_stands : s.Stands s.startCycle := stands_of_calm startCycle_calm rfl rfl rfl rfl rfl
theorem endCycle_stands : s.Stands s.endCycle := stands_of_calm endCycle_calm rfl rfl rfl rfl rfl

theorem answer_stands (r : Reply) : s.Stands (s.answer r) := modRqp_stands fun _ => rfl

theorem takeRef_stands (i : Fin 8) : s.Stands (s.takeRef i) := modTariff_stands fun _ => rfl
theorem releaseRef_stands (i : Fin 8) : s.Stands (s.releaseRef i) := modTariff_stands fun _ => rfl

theorem releasePending_stands (p : Option (Fin 8)) : s.Stands (s.releasePending p) := by
  unfold State.releasePending
  split
  · exact .refl s
  · exact releaseRef_stands _

theorem nextChoice_stands : s.Stands s.nextChoice := State.Stands.refl s

theorem raise_stands (src : Source) (d : Detail) : s.Stands (s.raise src d) :=
  stands_of_calm (raise_calm src d) rfl rfl rfl rfl rfl

theorem trigger_stands : s.Stands s.trigger := State.Stands.refl s
theorem triggerSafety_stands : s.Stands s.triggerSafety := State.Stands.refl s

/-! ### The passes of an event -/

theorem pass_stands : s.Stands s.pass :=
  stands_of_parts (by simp) (fun i => tuning_of_settings (pass_zone_settings s i)) (pass_allowance s)
    ⟨pass_atn s, fun _ => pass_flag⟩ (written_of_settings (pass_alc s)) (by simp) (by simp) (by simp) (by simp)

theorem zonesInLine_stands : s.Stands s.zonesInLine :=
  stands_of_calm zonesInLine_calm (by simp) (by simp) (by simp) (by simp) (by simp)

theorem stands_survives (s : State) : Survives s.Stands where
  pass _ h := h.trans pass_stands
  inLine _ h := h.trans zonesInLine_stands
  work _ _ h := h
  choice _ h := h
  unheld _ h := h
  restart _ _ h := h

theorem settle_stands : s.Stands s.settle := settle_survives (stands_survives s) (.refl s)

theorem windowEnd_stands : s.Stands s.windowEnd := windowEnd_survives (stands_survives s) (.refl s)

/-! ### Events -/

theorem armSupervision_stands : s.Stands s.armSupervision := by
  refine stands_of_calm armSupervision_calm (by simp) (by simp) (by simp) ?_ (by simp)
  unfold State.armSupervision
  split <;> rfl

theorem disarmSupervision_stands : s.Stands s.disarmSupervision := by
  refine stands_of_calm disarmSupervision_calm (by simp) (by simp) (by simp) ?_ (by simp)
  rw [disarmSupervision_rqp]
  rfl

theorem activateSlot_stands (i : Fin 16) : s.Stands (s.activateSlot i) :=
  (modAct_stands _).trans (armSupervision_stands.trans trigger_stands)

theorem suspendSlot_stands (i : Fin 16) (r : SuspendReason) : s.Stands (s.suspendSlot i r) :=
  (modAct_stands _).trans (disarmSupervision_stands.trans trigger_stands)

theorem autoSuspend_stands (r : SuspendReason) (e : AcctEvent) : s.Stands (s.autoSuspend r e) := by
  unfold State.autoSuspend
  split
  · exact .refl s
  · exact (suspendSlot_stands _ _).trans (raise_stands _ _)

theorem enterInlet_stands (st : InletState) : s.Stands (s.enterInlet st) :=
  stands_of_calm (enterInlet_calm st) rfl rfl rfl rfl rfl

theorem countChanged_stands (n : Nat) : s.Stands (s.countChanged n) :=
  stands_of_calm (countChanged_calm n) (by simp) (by simp) (by simp) (by simp) (by simp)

theorem readPhases_stands (f : FrontEnd) : s.Stands (s.readPhases f) :=
  (modMtr_stands fun _ => rfl).trans (countChanged_stands _)

theorem stopMeter_stands : s.Stands s.stopMeter := (modMtr_stands fun _ => rfl).trans (countChanged_stands _)

theorem startMeter_stands (f : FrontEnd) : s.Stands (s.startMeter f) :=
  (modMtr_stands fun _ => rfl).trans (readPhases_stands f)

theorem readZones_stands (t : ZoneTemps) : s.Stands (s.readZones t) :=
  stands_of_calm (readZones_calm t) (by simp) (by simp) (by simp) (by simp) (by simp)

theorem startPasses_stands : s.Stands s.startPasses := State.Stands.refl s

theorem startCycleIfDue_stands : s.Stands s.startCycleIfDue :=
  stands_of_calm startCycleIfDue_calm (by simp) (by simp) (by simp) (by simp) (by simp)

theorem pilotWindow_stands (w : PilotWindow) : s.Stands (s.pilotWindow w) := by
  rw [pilotWindow_eq]
  split
  · exact modInl_stands _
  · refine stands_after trigger_stands (stands_after ?_ (modInl_stands (Inlet.takeWindow w)))
    rcases offerChange_cases s.inl.offerValid (s.inl.takeWindow w).offerValid
      (s.modInl (Inlet.takeWindow w)) with ⟨-, hsame⟩ | henter
    · rw [hsame]; exact .refl _
    · rw [henter]; exact enterInlet_stands _

theorem wake_stands (c : WakeCause) (f : FrontEnd) : s.Stands (s.wake c f) := by
  have hraise : s.Stands ((s.modPwc Power.unpark).raise .wake (.wake c s.pwc.state)) :=
    (modPwc_stands _).trans (raise_stands _ _)
  simp only [State.wake]
  split
  · exact hraise.trans ((startMeter_stands f).trans (startPasses_stands.trans startCycleIfDue_stands))
  · exact hraise
  all_goals exact hraise

theorem unplug_stands : s.Stands s.unplug :=
  stands_after triggerSafety_stands (stands_after (enterInlet_stands _) (stands_after (autoSuspend_stands _ _)
    (stands_after (modAlc_stands (by exact fun _ => rfl)) (modInl_stands _))))

theorem plugOrWake_stands (k : CableClass) (f : FrontEnd) : s.Stands (s.plugOrWake k f) := by
  unfold State.plugOrWake
  split
  · exact (wake_stands _ _).trans ((modInl_stands _).trans (enterInlet_stands _))
  · exact (modInl_stands _).trans (enterInlet_stands _)

theorem readProximity_stands (ohms : Nat) (f : FrontEnd) : s.Stands (s.readProximity ohms f) := by
  simp only [State.readProximity]
  split
  · refine State.Stands.trans (t := (s.modInl (Inlet.countBand (bandOf ohms))).modInl fun i =>
      { i with accepted := bandOf ohms }) (modInl_stands _) ?_
    unfold State.bandAccepted
    split
    · exact plugOrWake_stands _ _
    · exact unplug_stands
    · exact stands_after trigger_stands (stands_after (raise_stands _ _) (modInl_stands _))
    · exact .refl _
  · exact modInl_stands _

theorem modStu_standsBut (h : Setting.epoch.writtenBy c) (f : Stops → Stops) :
    State.StandsBut c s (s.modStu f) := by
  intro k hk
  cases k
  case epoch => exact absurd h hk
  all_goals simp [Setting.stands, State.zone]

theorem takeStop_standsBut (h : Setting.epoch.writtenBy c) (cause : StopCause) :
    State.StandsBut c s (s.takeStop cause) := by
  have hbank : State.StandsBut c s (s.bankStop cause) := by
    unfold State.bankStop
    split <;> exact modStu_standsBut h _
  have hcalm : (s.bankStop cause).Calm (s.takeStop cause) :=
    (autoSuspend_calm _ _).trans ((abandonLocating_calm.trans zonesStop_calm).trans
      (withdrawEnable_calm.trans ((raise_calm _ _).trans triggerSafety_calm)))
  have hrqp : (s.takeStop cause).rqp.setup = ((s.bankStop cause).autoSuspend .stop .suspendedStop).rqp.setup := by
    simp [State.takeStop]
  have hport : ((s.bankStop cause).autoSuspend .stop .suspendedStop).rqp.setup = (s.bankStop cause).rqp.setup :=
    (Prod.ext (autoSuspend_stands (s := s.bankStop cause) .stop .suspendedStop .config).1
      (autoSuspend_stands (s := s.bankStop cause) .stop .suspendedStop .config).2)
  exact hbank.trans (stands_of_calm hcalm (by simp) (by simp) (by simp) (hrqp.trans hport)
    (by simp [State.takeStop])).but

theorem completeBase_stands : s.Stands s.completeBase :=
  stands_after trigger_stands (stands_after windowEnd_stands (modImon_stands fun _ => ⟨rfl, rfl⟩))

theorem passAndStop_standsBut (h : Setting.epoch.writtenBy c) (fault : Bool) :
    State.StandsBut c s (s.passAndStop fault) := by
  have hsettle : ∀ u : State, State.StandsBut c u u.settle := fun u => settle_stands.but
  unfold State.passAndStop
  (repeat' split)
  · exact (nextChoice_stands.but.trans (hsettle _)).trans ((takeStop_standsBut h _).trans (hsettle _))
  · exact (nextChoice_stands.but.trans (takeStop_standsBut h _)).trans ((hsettle _).trans
      (trigger_stands.but.trans (hsettle _)))
  · exact hsettle _

theorem handOn_stands (bp bn : Severity) : s.Stands (s.handOn bp bn) :=
  stands_of_calm (handOn_calm bp bn) (by simp) (by simp) (by simp) (by simp) (by simp)

theorem completeShift_standsBut (h : Setting.epoch.writtenBy c) : State.StandsBut c s s.completeShift := by
  have hend : s.Stands s.endCycle.windowEnd := endCycle_stands.trans windowEnd_stands
  have hnext : ∀ u : State, u.Stands u.nextCycle := fun u =>
    stands_of_calm nextCycle_calm (by simp) (by simp) (by simp) (by simp) (by simp)
  unfold State.completeShift
  dsimp only
  refine State.StandsBut.trans (State.Stands.but ?_) (passAndStop_standsBut h _)
  exact stands_after (hnext _) (stands_after (handOn_stands _ _)
    (stands_after (modImon_stands (by exact fun _ => ⟨rfl, rfl⟩)) hend))

theorem locatingEnds_stands : s.Stands s.poleConditionsEnd.abandonLocating :=
  stands_of_calm (poleConditionsEnd_calm.trans abandonLocating_calm) (by simp) (by simp) (by simp) (by simp)
    (by simp)

theorem noBus_stands (up un : Nat) : s.Stands (s.noBus up un) := by
  have hunknown : s.Stands (s.endCycle.modImon fun m =>
      { m with uP0 := up, uN0 := un, vbus := up + un, outcome := .noBus,
               endTime := s.now }).polesUnknown :=
    stands_after (modImon_stands (by exact fun _ => ⟨rfl, rfl⟩))
      (stands_after (modImon_stands (by exact fun _ => ⟨rfl, rfl⟩)) endCycle_stands)
  have hended := hunknown.trans locatingEnds_stands
  unfold State.noBus
  dsimp only
  split
  · exact (hended.trans windowEnd_stands).trans (startCycleIfDue_stands.trans trigger_stands)
  · exact hended.trans (startCycleIfDue_stands.trans trigger_stands)

theorem poleReading_stands (up un : Nat) : s.Stands (s.poleReading up un) := by
  unfold State.poleReading
  (repeat' split)
  · exact noBus_stands _ _
  · exact modImon_stands fun _ => ⟨rfl, rfl⟩
  · exact .refl s

/-! ### Power states -/

theorem setPower_stands (st : PowerState) : s.Stands (s.setPower st) := modPwc_stands _

theorem enterKeepWarm_stands : s.Stands s.enterKeepWarm :=
  stands_after startCycleIfDue_stands (stands_after startPasses_stands (stands_after (setPower_stands _)
    stopMeter_stands))

theorem enterDormant_stands : s.Stands s.enterDormant := by
  have hsleep : s.Stands (s.poleConditionsEnd.abandonLocating.modImon Insulation.sleep) :=
    stands_after (modImon_stands (by exact fun _ => ⟨rfl, rfl⟩)) locatingEnds_stands
  have hdown : ∀ v : State, v.Stands (((((v.modHzc fun h =>
      { h with zones := h.zones.map Zone.sleep }).modAlc fun a =>
        { a with force := Figures.zero, held := false, chargerCmd := 0 }).stopMeter.setPower
        .dormant).modRqp fun p => { p with txn := none }).clearWork) := fun v =>
    stands_after (modWork_stands fun _ => Work.clear) (stands_after (modRqp_stands (by exact fun _ => rfl))
      (stands_after (setPower_stands _) (stands_after stopMeter_stands
        (stands_after (modAlc_stands (by exact fun _ => rfl)) (mapZones_stands fun _ => rfl)))))
  unfold State.enterDormant
  dsimp only
  split
  · exact (hsleep.trans zonesInLine_stands).trans (hdown _)
  · exact hsleep.trans (hdown _)

theorem takePark_stands (mode : ParkMode) (n : Nat) : s.Stands (s.takePark mode n) := by
  have hset : s.Stands (s.modPwc (Power.setPark mode (min Config.maxWakeMinutes n) s.rqp.config.sense)) :=
    modPwc_stands _
  unfold State.takePark State.enterMode
  (repeat' split)
  · exact hset
  · exact hset.trans (enterKeepWarm_stands.trans settle_stands)
  · exact hset.trans enterDormant_stands
  · exact hset

theorem endResumption_stands (f : FrontEnd) (t : ZoneTemps) : s.Stands (s.endResumption f t) :=
  stands_after startPasses_stands (stands_after startCycle_stands (stands_after (startMeter_stands f)
    (stands_after (readZones_stands t) (stands_after (mapZones_stands (by exact fun _ => rfl))
      (modPwc_stands _)))))

theorem raiseOwed_stands : s.Stands s.raiseOwed := by
  unfold State.raiseOwed
  split
  · exact .refl s
  · exact raise_stands _ _

theorem deriveInlet_stands (b : Option CableClass) : s.Stands (s.deriveInlet b) := by
  have hset : s.Stands ((s.modInl fun i =>
      { i with cls := b, accepted := b, runBand := b, runCount := 1 }).setInlet (derivedState b s.mtr.n)) :=
    State.Stands.refl s
  unfold State.deriveInlet
  dsimp only
  split
  · exact hset
  · exact hset.trans ((raise_stands _ _).trans trigger_stands)

theorem endStarting_stands (ohms : Nat) (f : FrontEnd) (t : ZoneTemps) :
    s.Stands (s.endStarting ohms f t) :=
  stands_after startPasses_stands (stands_after startCycle_stands (stands_after (readZones_stands t)
    (stands_after (deriveInlet_stands _) (stands_after (startMeter_stands f)
      (stands_after (setPower_stands _) raiseOwed_stands)))))

end

end Sys2Proof.Machine
end

section
/-! What only certain commands change (O59): the clock, the resets, the requests and every command. -/

namespace Sys2Proof.Machine

section

variable {s t u : State} {c : Instr}

/-! ### The clock -/

theorem newlySet_stands (b a : Bool) (h : Handle) (e : AcctEvent) : s.Stands (s.newlySet b a h e) := by
  unfold State.newlySet
  split
  · exact (raise_stands _ _).trans triggerSafety_stands
  · exact .refl s

theorem switchSlot_stands (i : Fin 16) : s.Stands (s.switchSlot i) := by
  unfold State.switchSlot
  (repeat' split)
  · exact .refl s
  · exact .refl s
  · exact stands_after (raise_stands _ _) (stands_after (releaseRef_stands _) (modAct_stands _))
  · exact .refl s

theorem switchTariffs_stands : s.Stands s.switchTariffs := by
  unfold State.switchTariffs
  induction fins 16 generalizing s with
  | nil => exact .refl s
  | cons i rest ih => exact (switchSlot_stands i).trans ih

theorem deliverTo_stands (i : Fin 16) (total heat t : Nat) : s.Stands (s.deliverTo i total heat t) := by
  unfold State.deliverTo
  split
  · exact .refl s
  · exact stands_after (newlySet_stands _ _ _ _) (stands_after (newlySet_stands _ _ _ _)
      (stands_after (newlySet_stands _ _ _ _) (stands_after (newlySet_stands _ _ _ _) (modAct_stands _))))

/-- The writer of the Unbilled register and the last tick record may change MTR. -/
theorem modMtr_standsBut (h : Setting.unbilled.writtenBy c) (f : Meter → Meter) :
    State.StandsBut c s (s.modMtr f) := by
  intro k hk
  cases k
  case unbilled => exact absurd h hk
  all_goals simp [Setting.stands, State.zone]

theorem deliver_standsBut (h : Setting.unbilled.writtenBy c) (total heat t : Nat) :
    State.StandsBut c s (s.deliver total heat t) := by
  unfold State.deliver
  split
  · exact (deliverTo_stands _ _ _ _).but
  · exact modMtr_standsBut h _

theorem meterTick_standsBut (h : Setting.unbilled.writtenBy c) (t : Nat) :
    State.StandsBut c s (s.meterTick t) := by
  unfold State.meterTick
  dsimp only
  split
  · exact ((modMtr_standsBut h _).trans switchTariffs_stands.but).trans (deliver_standsBut h _ _ _)
  · exact (modMtr_standsBut h _).trans (deliver_standsBut h _ _ _)

/-- R60: a write of the allowance leaves every other item. -/
theorem writeAllowance_standsBut (h : Setting.allowance.writtenBy c) {f : Heater → Heater}
    (hzones : ∀ x, (f x).zones = x.zones) : State.StandsBut c s (s.modHzc f) := by
  intro k hk
  cases k
  case allowance => exact absurd h hk
  all_goals simp [Setting.stands, State.zone, hzones]

theorem allowanceExhausted_stands : s.Stands s.allowanceExhausted :=
  (raise_stands _ _).trans trigger_stands

theorem debitAllowance_standsBut (h : Setting.allowance.writtenBy c) :
    State.StandsBut c s s.debitAllowance := by
  have hdebit : State.StandsBut c s (s.modHzc (Heater.debit s.alc.force.hGrant)) :=
    writeAllowance_standsBut h fun _ => rfl
  unfold State.debitAllowance
  dsimp only
  (repeat' split)
  · exact hdebit.trans allowanceExhausted_stands.but
  · exact hdebit
  · exact .refl s

/-- R132: the writers of the wall clock may change its seconds. -/
theorem writeWall_standsBut (h : Setting.wall.writtenBy c) (wall ms : Nat) :
    State.StandsBut c s (s.modTck fun x => { x with wall := wall, secondMs := ms }) := by
  intro k hk
  cases k
  case wall => exact absurd h hk
  all_goals simp [Setting.stands, State.zone]

theorem secondExpires_standsBut (e : PhaseEnergy) : State.StandsBut (.clockAdvance e) s (s.secondExpires e) := by
  have hwall : Setting.wall.writtenBy (.clockAdvance e) := .inr ⟨e, rfl⟩
  have hmtr : Setting.unbilled.writtenBy (.clockAdvance e) := .inr ⟨e, rfl⟩
  have hallow : Setting.allowance.writtenBy (.clockAdvance e) := .inr ⟨e, rfl⟩
  have hadvance : ∀ u : State, State.StandsBut (.clockAdvance e) u u.advanceClock := fun u => by
    have htick : State.StandsBut (.clockAdvance e) u (u.modTck fun x => { x with wall := x.wall + 1 }) :=
      writeWall_standsBut hwall _ _
    unfold State.advanceClock
    dsimp only
    (repeat' split)
    · exact (htick.trans (meterTick_standsBut hmtr _)).trans (debitAllowance_standsBut hallow)
    · exact htick.trans (meterTick_standsBut hmtr _)
    · exact htick.trans (debitAllowance_standsBut hallow)
    · exact htick
  have hzero : State.StandsBut (.clockAdvance e) s (s.modTck fun x => { x with secondMs := 0 }) :=
    writeWall_standsBut hwall _ _
  unfold State.secondExpires
  dsimp only
  (repeat' split)
  · exact (hzero.trans (modMtr_standsBut hmtr _)).trans (hadvance _)
  · exact hzero.trans (modMtr_standsBut hmtr _)
  · exact hzero.trans (hadvance _)
  · exact hzero

/-! ### Resets -/

theorem suspendAtReset_stands : s.Stands s.suspendAtReset := by
  unfold State.suspendAtReset
  split
  · exact .refl s
  · exact (suspendSlot_stands _ _).trans (.refl _)

/-- R179: a port reset empties the floor stack and clears the request flags; the levels and IDs are kept. -/
theorem clearAttention_standsBut (hstack : Setting.stack.writtenBy c) (hflags : Setting.flags.writtenBy c) :
    State.StandsBut c s (s.modAtn Attention.portReset) := by
  intro k hk
  cases k
  case stack => exact absurd hstack hk
  case flags => exact absurd hflags hk
  all_goals simp [Setting.stands, State.zone, Attention.portReset]

/-- R200: a port reset keeps the settings; the floor stack and the request flags are ATN's to clear. -/
theorem portReset_standsBut (hstack : Setting.stack.writtenBy c) (hflags : Setting.flags.writtenBy c)
    (causes : ResetCauses) : State.StandsBut c s (s.portReset causes) := by
  have himon : s.Stands (s.abandonRecord.poleConditionsEnd.modImon Insulation.portReset) :=
    stands_after (modImon_stands (by exact fun _ => ⟨rfl, rfl⟩))
      (stands_of_calm (abandonRecord_calm.trans poleConditionsEnd_calm) (by simp) (by simp) (by simp) (by simp)
        (by simp))
  have hheat : ∀ v : State, v.Stands (((v.modInl (Inlet.portReset v.now)).modAlc Alloc.portReset).modHzc fun h =>
      { h with zones := h.zones.map Zone.portReset }) := fun v =>
    stands_after (mapZones_stands stopped_tuning) (stands_after (modAlc_stands (by exact fun _ => rfl))
      (modInl_stands _))
  have hmeter : ∀ v : State, v.Stands ((v.modStu fun x => { x with bank := none, overflow := false }).modMtr
      Meter.portReset) := fun v =>
    stands_after (modMtr_stands (by exact fun _ => rfl)) (modStu_stands (by exact fun _ => rfl))
  have hport : ∀ v : State, v.Stands ((v.modRqp Port.portReset).modPwc
      (Power.portReset causes s.rqp.config.sense)).suspendAtReset.clearWork := fun v =>
    stands_after (modWork_stands fun _ => Work.clear) (stands_after suspendAtReset_stands
      (stands_after (modPwc_stands _) (modRqp_stands (by exact fun _ => rfl))))
  exact (((himon.trans (hheat _)).trans (hmeter _)).but.trans (clearAttention_standsBut hstack hflags)).trans
    (hport _).but

/-! ### The owners of the requests -/

theorem heartbeat_stands : s.Stands s.heartbeat := by
  have hsup : ∀ v : Supervision, s.Stands (s.modRqp fun p => { p with sup := v }) := fun _ =>
    modRqp_stands fun _ => rfl
  unfold State.heartbeat
  dsimp only
  (repeat' split)
  · exact .refl s
  · exact hsup _
  · exact (hsup _).trans trigger_stands
  · exact (hsup _).trans trigger_stands

theorem ownConfigure_standsBut (p : List Byte) (s : State) :
    State.StandsBut .configure s (ownConfigure p s).1 := by
  have hwrite : State.StandsBut .configure s
      (s.modRqp fun q => { q with config := configOf p, configured := true }) := by
    intro k hk
    cases k
    case config => exact absurd rfl hk
    all_goals simp [Setting.stands, State.zone]
  unfold ownConfigure
  (repeat' split)
  · exact .refl s
  · exact hwrite.trans (trigger_stands.trans settle_stands).but
  · exact .refl s

theorem ownPark_standsBut (p : List Byte) (s : State) : State.StandsBut .park s (ownPark p s).1 := by
  unfold ownPark
  (repeat' split)
  · exact .refl s
  · exact .refl s
  · exact (takePark_stands _ _).but
  · exact .refl s

theorem ownSetChargeLimits_standsBut (p : List Byte) (s : State) :
    State.StandsBut .setChargeLimits s (ownSetChargeLimits p s).1 := by
  have hwrite : State.StandsBut .setChargeLimits s (s.modAlc (Alloc.writeLimits p)) := by
    intro k hk
    cases k
    case limits => exact absurd rfl hk
    case ceiling => exact absurd (.inl rfl) hk
    all_goals simp [Setting.stands, State.zone, Alloc.writeLimits]
  unfold ownSetChargeLimits
  split
  · exact hwrite.trans (trigger_stands.trans settle_stands).but
  · exact .refl s

theorem ownReportBattery_standsBut (p : List Byte) (s : State) :
    State.StandsBut .reportBattery s (ownReportBattery p s).1 := by
  have hwrite : s.Stands (s.modAlc (Alloc.takeReport s.now p)) := modAlc_stands fun _ => rfl
  unfold ownReportBattery
  split
  · exact (hwrite.trans (trigger_stands.trans settle_stands)).but
  · exact .refl s

theorem ownWriteCurve_standsBut (p : List Byte) (s : State) :
    State.StandsBut .writeCurve s (ownWriteCurve p s).1 := by
  have hwrite : ∀ l, State.StandsBut .writeCurve s (s.modAlc fun a => { a with curve := l }) := by
    intro l k hk
    cases k
    case curve => exact absurd rfl hk
    all_goals simp [Setting.stands, State.zone]
  unfold ownWriteCurve
  (repeat' split)
  · exact .refl s
  · exact .refl s
  · exact .refl s
  · exact (hwrite _).trans (trigger_stands.trans settle_stands).but
  · exact .refl s

/-- R62: the settings of a zone after a write. -/
theorem write_tuning (live window enabled : Bool) (target : Int) (gain pMax priority : Nat) (z : Zone) :
    (z.write live window enabled target gain pMax priority).tuning = (target, gain, pMax, priority) := by
  have hmoved : ∀ y : Zone, (y.inLine live).recompute.tuning = y.tuning := fun y => inLine_tuning live y
  unfold Zone.write
  dsimp only
  (repeat' split)
  · rfl
  · exact hmoved _
  · rfl
  · exact hmoved _
  · rfl
  · exact hmoved _
  · rfl
  · exact hmoved _
  · rfl
  · rfl

theorem writeZone_tuning (i j : Fin 6) (enabled : Bool) (target : Int) (gain pMax priority : Nat) (s : State) :
    ((s.writeZone i enabled target gain pMax priority).zone j).tuning =
      if j = i then (target, gain, pMax, priority) else (s.zone j).tuning := by
  change ((s.modZone i _).zone j).tuning = _
  rw [zone_modZone]
  split
  · exact write_tuning ..
  · rfl

/-- R62: what a zone's write leaves. -/
theorem writeZone_standsBut {i : Fin 6} {enabled : Bool} {target : Int} {gain pMax priority : Nat}
    (hzones : Setting.zones.writtenBy c ∨
      (gain, pMax, priority) = ((s.zone i).gain, (s.zone i).pMax, (s.zone i).priority))
    (htargets : Setting.targets.writtenBy c) :
    State.StandsBut c s (s.writeZone i enabled target gain pMax priority) := by
  intro k hk
  cases k
  case targets => exact absurd htargets hk
  case zones =>
    intro j
    have htuning := writeZone_tuning i j enabled target gain pMax priority s
    simp only [Zone.tuning] at htuning
    split at htuning
    next hj => simpa [hzones.resolve_left hk, hj] using (Prod.mk.inj htuning).2
    next => simpa using (Prod.mk.inj htuning).2
  all_goals simp [Setting.stands, State.writeZone, State.modZone]

end

end Sys2Proof.Machine
end

section
/-! What only certain commands change (O59): the other requests and every command. -/

namespace Sys2Proof.Machine

section

variable {s t u : State} {c : Instr}

/-! ### Zones, allowance, thresholds, fault table -/

theorem ownWriteZone_standsBut (p : List Byte) (s : State) :
    State.StandsBut .writeZone s (ownWriteZone p s).1 := by
  unfold ownWriteZone
  (repeat' split)
  · exact .refl s
  · exact .refl s
  · exact (writeZone_standsBut (.inl rfl) (.inl rfl)).trans settle_stands.but
  · exact .refl s

theorem ownReadZone_standsBut (p : List Byte) (s : State) :
    State.StandsBut c s (ownReadZone p s).1 := by
  unfold ownReadZone
  (repeat' split) <;> exact .refl s

theorem resetZone_stands (i : Fin 6) : s.Stands (s.resetZone i) := by
  have hreset : s.Stands (s.modZone i fun z => { z.toOff with enabled := false }).trigger :=
    stands_of_calm (State.Calm.trans (modZone_calm (by exact fun _ => rfl) i) trigger_calm) rfl rfl rfl rfl rfl
  unfold State.resetZone
  dsimp only
  split
  · exact hreset.trans (stands_of_calm (conditionEnds_calm _) (by simp) (by simp) (by simp) (by simp)
      (by simp))
  · exact hreset

theorem ownResetZone_standsBut (p : List Byte) (s : State) :
    State.StandsBut c s (ownResetZone p s).1 := by
  unfold ownResetZone
  (repeat' split)
  · exact .refl s
  · exact .refl s
  · exact .refl s
  · exact ((resetZone_stands _).trans settle_stands).but
  · exact .refl s

theorem setAllowance_standsBut (h : Setting.allowance.writtenBy c) (wh : Nat) :
    State.StandsBut c s (s.setAllowance wh) := by
  have hwrite : State.StandsBut c s (s.modHzc fun x => { x with allowWh := wh, allowJ := 0 }) :=
    writeAllowance_standsBut h fun _ => rfl
  unfold State.setAllowance
  dsimp only
  (repeat' split)
  · exact hwrite.trans trigger_stands.but
  · exact hwrite.trans allowanceExhausted_stands.but
  · exact hwrite

theorem ownSetAllowance_standsBut (p : List Byte) (s : State) :
    State.StandsBut .setAllowance s (ownSetAllowance p s).1 := by
  unfold ownSetAllowance
  split
  · exact (setAllowance_standsBut (.inl rfl) _).trans settle_stands.but
  · exact .refl s

theorem ownSetThresholds_standsBut (p : List Byte) (s : State) :
    State.StandsBut .setThresholds s (ownSetThresholds p s).1 := by
  unfold ownSetThresholds
  dsimp only
  (repeat' split)
  · intro k hk
    cases k
    case thresholds => exact absurd rfl hk
    all_goals simp [Setting.stands, State.zone]
  · exact .refl s
  · exact .refl s

theorem ownReadFault_standsBut (n : Nat) (s : State) : State.StandsBut c s (ownReadFault n s).1 := by
  unfold ownReadFault
  split <;> exact .refl s

theorem ownAcknowledgeFault_standsBut (n : Nat) (s : State) :
    State.StandsBut c s (ownAcknowledgeFault n s).1 := by
  unfold ownAcknowledgeFault
  (repeat' split)
  · exact .refl s
  · exact (modImon_stands (by exact fun _ => ⟨rfl, rfl⟩)).but
  · exact .refl s

theorem ownRetireFault_standsBut (n : Nat) (s : State) :
    State.StandsBut c s (ownRetireFault n s).1 := by
  unfold ownRetireFault
  (repeat' split)
  · exact .refl s
  · exact (modImon_stands (by exact fun _ => ⟨rfl, rfl⟩)).but
  · exact .refl s

/-! ### Stop and resume -/

/-- R110: the banked settings are the zones' targets, the ceiling and the share. -/
theorem restore_standsBut (banked : Context) : State.StandsBut .resume s (s.restore banked) := by
  have hzones : State.StandsBut .resume s ((fins 6).foldl (State.restoreZone banked) s) := by
    induction fins 6 generalizing s with
    | nil => exact .refl s
    | cons i rest ih => exact (writeZone_standsBut (.inr rfl) (.inr rfl)).trans ih
  refine hzones.trans fun k hk => ?_
  cases k
  case ceiling => exact absurd (.inr rfl) hk
  all_goals simp [Setting.stands, State.zone, State.restore]

theorem reactivate_stands (x : Option Handle) : s.Stands (s.reactivate x) := by
  unfold State.reactivate
  (repeat' split)
  · exact .refl s
  · exact activateSlot_stands _
  · exact .refl s

theorem emptyBank_stands : s.Stands (s.modStu fun x => { x with bank := none, overflow := false }) :=
  modStu_stands fun _ => rfl

theorem ownResume_standsBut (s : State) : State.StandsBut .resume s (ownResume s).1 := by
  unfold ownResume
  (repeat' split)
  · exact .refl s
  · exact .refl s
  · exact (restore_standsBut _).trans (State.Stands.but (stands_after settle_stands
      (stands_after trigger_stands (stands_after emptyBank_stands (reactivate_stands _)))))

theorem ownDiscardSnapshot_standsBut (s : State) : State.StandsBut c s (ownDiscardSnapshot s).1 := by
  unfold ownDiscardSnapshot
  split
  · exact .refl s
  · exact emptyBank_stands.but

/-! ### Clock and tariffs -/

theorem ownSetClock_standsBut (p : List Byte) (s : State) :
    State.StandsBut .setClock s (ownSetClock p s).1 := by
  unfold ownSetClock
  split
  · refine State.StandsBut.trans (t := s.modTck fun x => { x with
        wall := field p 0 4, offset := clampInt (-720) 840 (fieldInt p 4 2), isSet := true, secondMs := 0 })
      (fun k hk => ?_) (State.Stands.but (modMtr_stands (by exact fun _ => rfl)))
    cases k
    case clock => exact absurd rfl hk
    case wall => exact absurd (.inl rfl) hk
    all_goals simp [Setting.stands, State.zone]
  · exact .refl s

theorem ownWriteTariff_standsBut (p : List Byte) (s : State) :
    State.StandsBut .writeTariff s (ownWriteTariff p s).1 := by
  have hwrite : ∀ (i : Fin 8) (f : Tariff → Tariff), State.StandsBut .writeTariff s (s.modTariff i f) := by
    intro i f k hk
    cases k
    case tariffs => exact absurd rfl hk
    all_goals simp [Setting.stands, State.zone, State.modTariff]
  unfold ownWriteTariff
  dsimp only
  (repeat' split)
  case h_2.isFalse.isFalse.isFalse.isFalse.isTrue => exact hwrite _ _
  all_goals exact .refl s

theorem ownReadTariff_standsBut (n : Nat) (s : State) : State.StandsBut c s (ownReadTariff n s).1 := by
  unfold ownReadTariff
  split <;> exact .refl s

theorem ownClearUnbilled_standsBut (s : State) :
    State.StandsBut .clearUnbilled s (ownClearUnbilled s).1 := modMtr_standsBut (.inl rfl) _

/-! ### Accounts -/

theorem ownOpenAccount_standsBut (p : List Byte) (s : State) :
    State.StandsBut c s (ownOpenAccount p s).1 := by
  have hfill : ∀ (i : Fin 16) (a : Account) (tariff : Fin 8),
      s.Stands ((s.fillSlot i a).takeRef tariff) := fun _ _ _ =>
    (modAct_stands _).trans (takeRef_stands _)
  unfold ownOpenAccount
  (repeat' split)
  · exact .refl s
  · exact .refl s
  · exact .refl s
  · exact .refl s
  · exact (hfill _ _ _).but
  · exact .refl s
  · exact .refl s

theorem ownFindAccount_standsBut (p : List Byte) (s : State) :
    State.StandsBut c s (ownFindAccount p s).1 := by
  unfold ownFindAccount
  (repeat' split) <;> exact .refl s

theorem ownReadAccount_standsBut (i : Fin 16) (a : Account) (p : List Byte) (s : State) :
    State.StandsBut c s (ownReadAccount i a p s).1 := by
  unfold ownReadAccount
  (repeat' split) <;> exact .refl s

theorem amendRefs_stands {before after : Option (Fin 8)} (h : s.amendRefs before after = some t) :
    s.Stands t := by
  unfold State.amendRefs at h
  (repeat' split at h) <;> cases h
  · exact .refl s
  · exact releasePending_stands _
  · exact (takeRef_stands _).trans (releasePending_stands _)

theorem capChange_stands (before after : Bool) : s.Stands (s.capChange before after) := by
  unfold State.capChange
  (repeat' split)
  · exact .refl s
  · exact triggerSafety_stands
  · exact trigger_stands

theorem amendTo_standsBut (pending : Option (Fin 8)) (i : Fin 16) (a : Account) (p : List Byte) (s : State) :
    State.StandsBut c s (amendTo pending i a p s).1 := by
  unfold amendTo
  split
  · exact .refl s
  split
  · exact .refl s
  next u hrefs =>
    have hamended : s.Stands (u.modAccount i fun _ => a.amend p pending) :=
      (amendRefs_stands hrefs).trans (modAct_stands _)
    dsimp only
    split
    · exact ((hamended.trans (capChange_stands _ _)).trans settle_stands).but
    · exact (hamended.trans settle_stands).but

theorem ownAmendAccount_standsBut (i : Fin 16) (a : Account) (p : List Byte) (s : State) :
    State.StandsBut c s (ownAmendAccount i a p s).1 := by
  unfold ownAmendAccount
  (repeat' split)
  · exact .refl s
  · exact amendTo_standsBut _ _ _ _ _
  · exact amendTo_standsBut _ _ _ _ _

theorem ownActivateAccount_standsBut (i : Fin 16) (a : Account) (p : List Byte) (s : State) :
    State.StandsBut c s (ownActivateAccount i a p s).1 := by
  unfold ownActivateAccount
  split
  · exact ((activateSlot_stands _).trans settle_stands).but
  · exact .refl s

theorem ownSuspendAccount_standsBut (i : Fin 16) (a : Account) (p : List Byte) (s : State) :
    State.StandsBut c s (ownSuspendAccount i a p s).1 := by
  unfold ownSuspendAccount
  split
  · exact ((suspendSlot_stands _ _).trans settle_stands).but
  · exact .refl s

theorem leaveActive_stands : s.Stands s.leaveActive := disarmSupervision_stands.trans trigger_stands

theorem closeSlot_stands (i : Fin 16) (a : Account) : s.Stands (s.closeSlot i a) := by
  have hclosed : s.Stands ((s.modAccount i fun x => x.close s.now).releasePending a.pending) :=
    (modAct_stands _).trans (releasePending_stands _)
  unfold State.closeSlot
  dsimp only
  split
  · exact hclosed.trans leaveActive_stands
  · exact hclosed

theorem ownCloseAccount_standsBut (i : Fin 16) (a : Account) (p : List Byte) (s : State) :
    State.StandsBut c s (ownCloseAccount i a p s).1 := by
  unfold ownCloseAccount
  split
  · exact .refl s
  · exact ((closeSlot_stands _ _).trans settle_stands).but

theorem ownRetireAccount_standsBut (i : Fin 16) (a : Account) (p : List Byte) (s : State) :
    State.StandsBut c s (ownRetireAccount i a p s).1 := by
  unfold ownRetireAccount
  split
  · exact (State.Stands.trans (modAct_stands _) (releaseRef_stands _)).but
  · exact .refl s

/-! ### Attention -/

/-- R174: a Take clears one flag and pushes one level. -/
theorem ownTakeAttention_standsBut (s : State) :
    State.StandsBut .takeAttention s (ownTakeAttention s).1 := by
  have htake : ∀ i, State.StandsBut .takeAttention s (s.modAtn (Attention.take i)) := by
    intro i k hk
    cases k
    case stack => exact absurd (.inr (.inr (.inl rfl))) hk
    case flags => exact absurd (.inr (.inr rfl)) hk
    case sources =>
      intro j
      simp only [modAtn_atn, Attention.take, Table.get_modify]
      split <;> exact ⟨rfl, rfl⟩
    all_goals simp [Setting.stands, State.zone]
  unfold ownTakeAttention
  (repeat' split)
  · exact .refl s
  · exact .refl s
  · exact htake _

theorem ownReleaseAttention_standsBut (s : State) :
    State.StandsBut .releaseAttention s (ownReleaseAttention s).1 := by
  unfold ownReleaseAttention
  split
  · exact .refl s
  · intro k hk
    cases k
    case stack => exact absurd (.inr (.inr (.inr rfl))) hk
    all_goals simp [Setting.stands, State.zone]

theorem ownSetAttentionSource_standsBut (p : List Byte) (s : State) :
    State.StandsBut .setAttentionSource s (ownSetAttentionSource p s).1 := by
  have hwrite : ∀ i level id, State.StandsBut .setAttentionSource s (s.writeSource i level id) := by
    intro i level id k hk
    cases k
    case sources => exact absurd rfl hk
    case flags =>
      intro j hj
      simp only [State.writeSource, modAtn_atn, Table.get_modify]
      split <;> exact hj
    all_goals simp [Setting.stands, State.zone, State.writeSource]
  unfold ownSetAttentionSource
  (repeat' split)
  · exact .refl s
  · exact hwrite _ _ _
  · exact .refl s

/-! ### The transactions of the port -/

theorem transactionStart_stands :
    s.Stands (if s.portRuns = true ∧ s.rqp.txn = none then
      s.modRqp fun p => { p with txn := some s.outgoing } else s) := by
  split
  · exact modRqp_stands fun _ => rfl
  · exact .refl s

/-! ### Every command -/

theorem request_standsBut {codes : Byte → Bool} {owner : List Byte → State → State × Reply}
    (h : ∀ p s, State.StandsBut c s (owner p s).1) (s : State) :
    State.StandsBut c s (s.runRequest codes owner) :=
  request_keeps (P := State.StandsBut c s) (fun _ r ht => ht.trans (answer_stands r).but)
    (fun p _ ht => ht.trans (h p _)) (.refl s)

theorem report_standsBut (f : State → List Byte) (s : State) : State.StandsBut c s (report f s).1 := .refl s

theorem noPayload_standsBut {owner : State → State × Reply} (h : ∀ s, State.StandsBut c s (owner s).1)
    (p : List Byte) (s : State) : State.StandsBut c s (noPayload owner p s).1 :=
  keeps_noPayload (P := State.StandsBut c s) (fun _ ht => ht.trans (h _)) p s (.refl s)

theorem oneByte_standsBut {limit : Nat} {owner : Nat → State → State × Reply}
    (h : ∀ n s, State.StandsBut c s (owner n s).1) (p : List Byte) (s : State) :
    State.StandsBut c s (oneByte limit owner p s).1 :=
  keeps_oneByte (P := State.StandsBut c s) (fun _ _ ht => ht.trans (h _ _)) p s (.refl s)

theorem withHandle_standsBut {length : Nat} {free : List Byte}
    {owner : Fin 16 → Account → List Byte → State → State × Reply}
    (h : ∀ i a p s, State.StandsBut c s (owner i a p s).1) (p : List Byte) (s : State) :
    State.StandsBut c s (withHandle length free owner p s).1 :=
  keeps_withHandle (P := State.StandsBut c s) (fun _ _ _ _ ht => ht.trans (h _ _ _ _)) p s (.refl s)

/-- A report request writes no item. -/
theorem reportRequest_standsBut {codes : Byte → Bool} (f : State → List Byte) (s : State) :
    State.StandsBut c s (s.runRequest codes (noPayload (report f))) :=
  request_standsBut (noPayload_standsBut (report_standsBut f)) s

end

/-- O59 for one command, item by item: by the operations of its event, or by its owner. -/
theorem exec_standsBut {c : Instr} {s t : State} (ht : exec c s = .next t) (hc : c ≠ .supplyReset) :
    State.StandsBut c s t := by
  cases c <;> cases ht
  case identify => exact reportRequest_standsBut _ s
  case configure => exact request_standsBut ownConfigure_standsBut s
  case heartbeat =>
    exact request_standsBut (noPayload_standsBut fun _ => (heartbeat_stands.trans settle_stands).but) s
  case restart =>
    exact request_standsBut (noPayload_standsBut fun _ => portReset_standsBut (.inl rfl) (.inl rfl) _) s
  case park => exact request_standsBut ownPark_standsBut s
  case readResetCauses => exact reportRequest_standsBut _ s
  case clearResetCauses => exact request_standsBut (noPayload_standsBut fun _ => (modPwc_stands _).but) s
  case readInlet => exact reportRequest_standsBut _ s
  case setChargeLimits => exact request_standsBut ownSetChargeLimits_standsBut s
  case reportBattery => exact request_standsBut ownReportBattery_standsBut s
  case writeCurve => exact request_standsBut ownWriteCurve_standsBut s
  case readCurve => exact reportRequest_standsBut _ s
  case readAllocation => exact request_standsBut (oneByte_standsBut fun _ => report_standsBut _) s
  case writeZone => exact request_standsBut ownWriteZone_standsBut s
  case readZone => exact request_standsBut ownReadZone_standsBut s
  case resetZone => exact request_standsBut ownResetZone_standsBut s
  case setAllowance => exact request_standsBut ownSetAllowance_standsBut s
  case readAllowance => exact reportRequest_standsBut _ s
  case readInsulation => exact reportRequest_standsBut _ s
  case setThresholds => exact request_standsBut ownSetThresholds_standsBut s
  case readFault => exact request_standsBut (oneByte_standsBut ownReadFault_standsBut) s
  case acknowledgeFault => exact request_standsBut (oneByte_standsBut ownAcknowledgeFault_standsBut) s
  case retireFault => exact request_standsBut (oneByte_standsBut ownRetireFault_standsBut) s
  case stop =>
    exact request_standsBut (noPayload_standsBut fun _ =>
      (takeStop_standsBut (.inl rfl) _).trans settle_stands.but) s
  case resume => exact request_standsBut (noPayload_standsBut ownResume_standsBut) s
  case discardSnapshot => exact request_standsBut (noPayload_standsBut ownDiscardSnapshot_standsBut) s
  case readSnapshot => exact reportRequest_standsBut _ s
  case readMeter => exact request_standsBut (oneByte_standsBut fun _ => report_standsBut _) s
  case clearUnbilled => exact request_standsBut (noPayload_standsBut ownClearUnbilled_standsBut) s
  case setClock => exact request_standsBut ownSetClock_standsBut s
  case readClock => exact reportRequest_standsBut _ s
  case writeTariff => exact request_standsBut ownWriteTariff_standsBut s
  case readTariff => exact request_standsBut (oneByte_standsBut ownReadTariff_standsBut) s
  case openAccount => exact request_standsBut ownOpenAccount_standsBut s
  case findAccount => exact request_standsBut ownFindAccount_standsBut s
  case listAccounts => exact reportRequest_standsBut _ s
  case readAccount => exact request_standsBut (withHandle_standsBut ownReadAccount_standsBut) s
  case amendAccount => exact request_standsBut (withHandle_standsBut ownAmendAccount_standsBut) s
  case activateAccount => exact request_standsBut (withHandle_standsBut ownActivateAccount_standsBut) s
  case suspendAccount => exact request_standsBut (withHandle_standsBut ownSuspendAccount_standsBut) s
  case closeAccount => exact request_standsBut (withHandle_standsBut ownCloseAccount_standsBut) s
  case retireAccount => exact request_standsBut (withHandle_standsBut ownRetireAccount_standsBut) s
  case takeAttention => exact request_standsBut (noPayload_standsBut ownTakeAttention_standsBut) s
  case releaseAttention => exact request_standsBut (noPayload_standsBut ownReleaseAttention_standsBut) s
  case setAttentionSource => exact request_standsBut ownSetAttentionSource_standsBut s
  case unknownRequest => exact request_standsBut (fun _ => .refl) s
  case transactionStart => exact transactionStart_stands.but
  case transactionEnd clocked =>
    split
    · exact .refl s
    · exact (modRqp_stands fun p => Prod.ext (endTransaction_frame _ _ p).2.1 (endTransaction_frame _ _ p).2.2).but
  case proximityReading ohms f =>
    split
    · exact ((readProximity_stands ohms f).trans settle_stands).but
    · exact .refl s
  case pilotWindowEnd w =>
    split
    · exact ((pilotWindow_stands w).trans settle_stands).but
    · exact .refl s
  case idleTimerExpiry =>
    split
    · exact ((enterInlet_stands _).trans settle_stands).but
    · exact .refl s
  case pausingTimerExpiry =>
    split
    · exact ((enterInlet_stands _).trans settle_stands).but
    · exact .refl s
  case quickReading f =>
    split
    · exact ((readPhases_stands f).trans settle_stands).but
    · exact .refl s
  case periodicPass =>
    split
    · exact (startPasses_stands.trans settle_stands).but
    · exact .refl s
  case batteryReportStale =>
    split
    · exact (State.Stands.trans (modAlc_stands (by exact fun _ => rfl)) (trigger_stands.trans settle_stands)).but
    · exact .refl s
  case zoneSensorReading temps =>
    split
    · exact ((readZones_stands temps).trans settle_stands).but
    · exact .refl s
  case clockAdvance e =>
    split
    · exact (secondExpires_standsBut e).trans settle_stands.but
    · exact .refl s
  case poleVoltageReading up un =>
    split
    · exact .refl s
    · exact ((poleReading_stands _ _).trans settle_stands).but
  case cyclePeriodExpiry =>
    split
    · exact startCycleIfDue_stands.but
    · exact .refl s
  case baseSettleEnd =>
    split
    · exact (modImon_stands fun _ => ⟨rfl, rfl⟩).but
    · exact .refl s
  case baseSampleEnd =>
    split
    · exact (completeBase_stands.trans settle_stands).but
    · exact .refl s
  case shiftSettleEnd =>
    split
    · exact (modImon_stands fun _ => ⟨rfl, rfl⟩).but
    · exact .refl s
  case shiftSampleEnd =>
    split
    · exact completeShift_standsBut (.inr rfl)
    · exact .refl s
  case supervisionExpiry =>
    split
    · exact State.Stands.but (stands_after settle_stands (stands_after triggerSafety_stands
        (stands_after (raise_stands _ _) (modRqp_stands (by exact fun _ => rfl)))))
    · exact .refl s
  case wakeLineEdge e f =>
    split
    · exact ((wake_stands _ _).trans settle_stands).but
    · exact .refl s
  case wakeTimerExpiry f =>
    split
    · exact ((wake_stands _ _).trans settle_stands).but
    · exact .refl s
  case resumptionEnd f temps =>
    split
    · exact ((endResumption_stands _ _).trans settle_stands).but
    · exact .refl s
  case startingEnd ohms f temps =>
    split
    · exact ((endStarting_stands _ _ _).trans settle_stands).but
    · exact .refl s
  case supplyReset => exact absurd rfl hc
  case resetPin =>
    split
    · exact .refl s
    · exact (portReset_standsBut (.inr (.inl rfl)) (.inr (.inl rfl)) _).trans (modPwc_stands _).but
  case resetPinRelease => exact (modPwc_stands _).but

/-- Settles O59: what the statement says of each item is `State.StandsBut` for it. -/
theorem settingsChangeOnlyByTheirCommands : Obligations.SettingsChangeOnlyByTheirCommands := by
  intro c s t ht hc
  have h : State.StandsBut c s t := exec_standsBut ht hc
  refine ⟨fun h1 => h .thresholds h1, fun h1 => h .config h1, fun h1 => ?_, fun h1 i => ?_,
    fun h1 => h .curve h1, fun h1 => ?_, fun h1 i => ?_, fun h1 h2 => ?_, fun h1 h2 => ?_, fun h1 h2 => ?_,
    fun h1 => h .sources h1, fun h1 h2 => ⟨fun h3 h4 => ?_, fun h3 => ?_⟩⟩
  · obtain ⟨hoffset, hset⟩ := h .clock h1
    exact ⟨hoffset, hset, fun h2 => h .wall (not_or.2 ⟨h1, not_exists.2 h2⟩)⟩
  · simpa [Tariff.definition] using h .tariffs h1 i
  · obtain ⟨hheat, hmask⟩ := h .limits h1
    exact ⟨hheat, hmask, fun h2 => h .ceiling (not_or.2 ⟨h1, h2⟩)⟩
  · obtain ⟨hgain, hpMax, hpriority⟩ := h .zones h1 i
    exact ⟨hgain, hpMax, hpriority, fun h2 => h .targets (not_or.2 ⟨h1, h2⟩) i⟩
  · exact h .allowance (not_or.2 ⟨h1, not_exists.2 h2⟩)
  · exact h .unbilled (not_or.2 ⟨h1, not_exists.2 h2⟩)
  · exact h .epoch (not_or.2 ⟨h1, h2⟩)
  · exact h .stack (by simp only [Setting.writtenBy, h1, h2, h3, h4, or_self, not_false_eq_true])
  · exact h .flags (by simp only [Setting.writtenBy, h1, h2, h3, or_self, not_false_eq_true])

end Sys2Proof.Machine
end

section
/-! The acceptance curve (R30): its sections, and the lookup between two neighbouring points (O29). -/

namespace Sys2Proof.Machine

section

variable {p q : CurvePoint} {rest before after : List CurvePoint} {t : Int}

/-! ### One section -/

/-- A section starts at its first point. -/
theorem interpolate_start (h : p.temp < q.temp) : interpolate p q p.temp = p.amps := by
  have hspan : (q.temp - p.temp).toNat - 1 < (q.temp - p.temp).toNat := by omega
  unfold interpolate
  dsimp only
  split
  · simp
  · simp [Nat.div_eq_of_lt hspan]

/-- Rounding down a falling line rounds its fall up. -/
theorem neg_mul_ediv (k d : Nat) {w : Nat} (hw : 0 < w) :
    -((k : Int) * d) / w = -(((k * d + (w - 1)) / w : Nat) : Int) := by
  have hdiv : (w : Int) * ((k * d + (w - 1)) / w : Nat) + ((k * d + (w - 1)) % w : Nat) = k * d + (w - 1) := by
    have := Nat.div_add_mod (k * d + (w - 1)) w
    rw [← Nat.cast_mul, ← Nat.cast_add, this]
    push_cast [Nat.one_le_of_lt hw]
    rfl
  have hmod : (((k * d + (w - 1)) % w : Nat) : Int) < w := by exact_mod_cast Nat.mod_lt _ hw
  rw [Int.ediv_eq_iff_of_pos (by exact_mod_cast hw)]
  constructor <;> linarith [Int.natCast_nonneg ((k * d + (w - 1)) % w)]

/-- The fall of a section is at most the distance of its points. -/
theorem fall_le {k d w : Nat} (hw : 0 < w) (hd : d ≤ w) : (k * d + (w - 1)) / w ≤ k := by
  rw [Nat.div_le_iff_le_mul_add_pred hw]
  exact Nat.add_le_add_right (Nat.mul_comm w k ▸ Nat.mul_le_mul_left k hd) _

/-- R30: a section is the straight line between its points, rounded down, rising or falling. -/
theorem interpolate_eq (h : p.temp < q.temp) (hstart : p.temp ≤ t) (hend : t ≤ q.temp) :
    (interpolate p q t : Int) =
      p.amps + ((q.amps : Int) - p.amps) * (t - p.temp) / (q.temp - p.temp) := by
  obtain ⟨d, hd⟩ := Int.eq_ofNat_of_zero_le (Int.sub_nonneg.2 hstart)
  obtain ⟨w, hw⟩ := Int.eq_ofNat_of_zero_le (Int.sub_nonneg.2 h.le)
  unfold interpolate
  simp only [hd, hw, Int.toNat_natCast]
  split
  next hrise =>
    obtain ⟨k, hk⟩ := Nat.exists_eq_add_of_le hrise
    simp [hk]
  next hfall =>
    obtain ⟨k, hk⟩ := Nat.exists_eq_add_of_le (Nat.le_of_not_le hfall)
    have hfallen : (k * d + (w - 1)) / w ≤ k := fall_le (by omega) (by omega)
    have hslope : ((q.amps : Int) - p.amps) * d = -((k : Int) * d) := by
      rw [hk]; push_cast; ring
    rw [hslope, neg_mul_ediv k d (by omega), hk]
    simp only [Nat.add_sub_cancel_left]
    omega

/-- A section lies between the currents of its points. -/
theorem interpolate_within (h : p.temp < q.temp) (hend : t ≤ q.temp) :
    min p.amps q.amps ≤ interpolate p q t ∧ interpolate p q t ≤ max p.amps q.amps := by
  have hspan : 0 < (q.temp - p.temp).toNat := by omega
  have hdx : (t - p.temp).toNat ≤ (q.temp - p.temp).toNat := by omega
  unfold interpolate
  dsimp only
  split
  next hrise =>
    have hrisen : (q.amps - p.amps) * (t - p.temp).toNat / (q.temp - p.temp).toNat ≤ q.amps - p.amps :=
      Nat.div_le_of_le_mul (by rw [Nat.mul_comm]; exact Nat.mul_le_mul_right _ hdx)
    generalize (_ / _ : Nat) = rise at hrisen ⊢
    omega
  next hfall =>
    have hfallen := fall_le (k := p.amps - q.amps) hspan hdx
    generalize (_ / _ : Nat) = fall at hfallen ⊢
    omega

/-- A section ends at its second point. -/
theorem interpolate_end (h : p.temp < q.temp) : interpolate p q q.temp = q.amps := by
  have hspan : (q.temp : Int) - p.temp ≠ 0 := by omega
  have hline := interpolate_eq h h.le (le_refl q.temp)
  rw [Int.mul_ediv_cancel _ hspan] at hline
  omega

/-! ### The whole curve -/

/-- R39 step 4: the temperatures ascend throughout. -/
theorem pairwise_of_ascending : {l : List CurvePoint} → ascending l = true →
    l.Pairwise fun p q => p.temp < q.temp
  | [], _ => .nil
  | [_], _ => List.pairwise_singleton _ _
  | p :: q :: rest, h => by
    obtain ⟨hpq, hrest⟩ := Bool.and_eq_true .. ▸ h
    have ih := pairwise_of_ascending hrest
    refine .cons (fun r hr => ?_) ih
    rcases List.mem_cons.1 hr with rfl | hr
    · exact of_decide_eq_true hpq
    · exact (of_decide_eq_true hpq).trans (List.rel_of_pairwise_cons ih hr)

/-- The lookup passes every point below the temperature. -/
theorem curveFrom_append (first : CurvePoint) (hp : p.temp ≤ t) :
    (∀ r ∈ before, r.temp < p.temp) → curveFrom first (before ++ p :: after) t = curveFrom p after t := by
  induction before generalizing first with
  | nil => exact fun _ => if_neg (by omega)
  | cons r rest ih =>
    intro hbelow
    have hr := hbelow r List.mem_cons_self
    rw [← ih r fun x hx => hbelow x (List.mem_cons_of_mem r hx)]
    exact if_neg (by omega)

/-- The lookup at or above a point starts at that point. -/
theorem curveAt_of_ge (h : ascending (before ++ p :: after) = true) (hp : p.temp ≤ t)
    (hstart : curveFrom p after p.temp = p.amps) :
    curveAt (before ++ p :: after) t = curveFrom p after t := by
  cases before with
  | nil =>
    change (if t ≤ p.temp then p.amps else curveFrom p after t) = _
    split
    next hle => rw [le_antisymm hle hp, hstart]
    next => rfl
  | cons first rest =>
    obtain ⟨-, -, hcross⟩ := List.pairwise_append.1 (pairwise_of_ascending h)
    have hfirst := hcross first List.mem_cons_self p List.mem_cons_self
    change (if t ≤ first.temp then first.amps else curveFrom first (rest ++ p :: after) t) = _
    rw [if_neg (by omega)]
    exact curveFrom_append first hp fun r hr =>
      hcross r (List.mem_cons_of_mem first hr) p List.mem_cons_self

/-- Above a point the temperatures ascend. -/
theorem ascending_next (h : ascending (before ++ p :: q :: rest) = true) : p.temp < q.temp :=
  List.rel_of_pairwise_cons (List.pairwise_append.1 (pairwise_of_ascending h)).2.1 List.mem_cons_self

theorem curveFrom_start (h : ascending (before ++ p :: after) = true) :
    curveFrom p after p.temp = p.amps := by
  cases after with
  | nil => rfl
  | cons q rest =>
    have hpq := ascending_next h
    exact (if_pos hpq).trans (interpolate_start hpq)

/-- Between two neighbouring points the lookup is their section, at the second point too. -/
theorem curveFrom_section (h : ascending (before ++ p :: q :: rest) = true) (hq : t ≤ q.temp) :
    curveFrom p (q :: rest) t = interpolate p q t := by
  change (if t < q.temp then interpolate p q t else curveFrom q rest t) = _
  split
  next => rfl
  next hge =>
    have hlast : ascending ((before ++ [p]) ++ q :: rest) = true := by simpa using h
    rw [le_antisymm hq (not_lt.1 hge), curveFrom_start hlast, interpolate_end (ascending_next h)]

end

/-- Settles O29: a lookup at or above a point starts there, and runs along the section up to the next. -/
theorem curveIsReadBetweenItsPoints : Obligations.CurveIsReadBetweenItsPoints := by
  refine ⟨fun _ => rfl, fun before after p h => ?_⟩
  have hstart := curveFrom_start h
  refine ⟨(curveAt_of_ge h le_rfl hstart).trans hstart, ?_, ?_, ?_⟩
  · rintro rfl t ht
    exact if_pos ht
  · rintro rfl t ht
    exact curveAt_of_ge h ht hstart
  · rintro q rest t rfl hp hq
    have hpq := ascending_next h
    obtain ⟨hlow, hhigh⟩ := interpolate_within (t := t) hpq hq
    rw [curveAt_of_ge h hp hstart, curveFrom_section h hq]
    exact ⟨hlow, hhigh, interpolate_eq hpq hp hq⟩

end Sys2Proof.Machine
end

section
/-! The zone grants (R29): handing out in a strict order, and the service order of the priorities (O28). -/

namespace Sys2Proof.Machine

section

variable {demand : Fin 6 → Nat} {l : List (Fin 6)} {left : Nat} {grants : Table 6 Nat} {i : Fin 6}

/-! ### Handing out -/

theorem foldl_add (v : Fin 6 → Nat) (l : List (Fin 6)) : l.foldl (fun a i => a + v i) 0 = (l.map v).sum := by
  rw [← List.foldl_map, List.sum_eq_foldl]

/-- A zone that is not served keeps its grant. -/
theorem handOut_of_not_mem (h : i ∉ l) : (handOut demand l left grants).get i = grants.get i := by
  induction l generalizing left grants with
  | nil => rfl
  | cons z rest ih =>
    obtain ⟨hz, hrest⟩ := not_or.1 (List.mem_cons.not.1 h)
    exact (ih hrest).trans (Table.get_set_ne _ _ hz)

/-- R29: served in a strict order, a zone receives its demand, or what those before it have left. -/
theorem handOut_get {before : Fin 6 → Fin 6 → Bool} (hirrefl : ∀ i, before i i = false)
    (hasymm : ∀ i j, before i j = true → before j i = false) (hl : l.Pairwise fun i j => before i j = true)
    (hi : i ∈ l) : (handOut demand l left grants).get i =
      min (demand i) (left - ((l.filter fun j => before j i).map demand).sum) := by
  induction l generalizing left grants with
  | nil => cases hi
  | cons z rest ih =>
    obtain ⟨hz, hrest⟩ := List.pairwise_cons.1 hl
    change (handOut demand rest _ _).get i = _
    rcases List.mem_cons.1 hi with rfl | hi
    · have hself : i ∉ rest := fun h => by simpa [hirrefl i] using hz i h
      have hnone : (i :: rest).filter (fun j => before j i) = [] :=
        List.filter_eq_nil_iff.2 fun j hj => by
          rcases List.mem_cons.1 hj with rfl | hj
          · simp [hirrefl]
          · simp [hasymm i j (hz j hj)]
      rw [handOut_of_not_mem hself, hnone]
      simp
    · have hserved : (z :: rest).filter (fun j => before j i) = z :: rest.filter fun j => before j i :=
        List.filter_cons_of_pos (hz i hi)
      rw [ih hrest hi, hserved, List.map_cons, List.sum_cons]
      congr 1
      omega

/-- R29: together the zones receive what is there, or all they ask for. -/
theorem handOut_sum (hl : l.Nodup) :
    (l.map (handOut demand l left grants).get).sum = min left (l.map demand).sum := by
  induction l generalizing left grants with
  | nil => simp
  | cons z rest ih =>
    obtain ⟨hz, hrest⟩ := List.nodup_cons.1 hl
    change ((z :: rest).map (handOut demand rest (left - min (demand z) left) _).get).sum = _
    rw [List.map_cons, List.sum_cons, ih hrest, handOut_of_not_mem hz, Table.get_set_self, List.map_cons,
      List.sum_cons]
    omega

/-! ### The service order -/

/-- R29: zone `j` is served before zone `i`. -/
def servedBefore (prio : Table 6 Nat) (j i : Fin 6) : Bool :=
  decide (prio.get i < prio.get j) || (decide (prio.get j = prio.get i) && decide (j < i))

variable {prio : Table 6 Nat}

theorem servedBefore_irrefl (i : Fin 6) : servedBefore prio i i = false := by simp [servedBefore]

theorem servedBefore_asymm (i j : Fin 6) (h : servedBefore prio i j = true) :
    servedBefore prio j i = false := by
  simp only [servedBefore, Bool.or_eq_true, Bool.and_eq_true, decide_eq_true_eq, Bool.or_eq_false_iff,
    Bool.and_eq_false_iff, decide_eq_false_iff_not] at *
  omega

theorem serviceOrder_pairwise (prio : Table 6 Nat) :
    (serviceOrder prio).Pairwise fun i j => servedBefore prio i j = true := by
  refine List.pairwise_flatMap.2 ⟨fun p _ => ?_, ?_⟩
  · have hclass : ∀ i ∈ (fins 6).filter fun i => decide (prio.get i = p), prio.get i = p := fun i hi =>
      of_decide_eq_true (List.mem_filter.1 hi).2
    exact ((fins_pairwise 6).filter _).imp_of_mem fun ha hb hab => by
      simp [servedBefore, hclass _ ha, hclass _ hb, hab]
  · have hfalls : [7, 6, 5, 4, 3, 2, 1, 0].Pairwise fun p q : Nat => q < p := by decide
    refine hfalls.imp fun {p q} hpq i hi j hj => ?_
    have hp : prio.get i = p := of_decide_eq_true (List.mem_filter.1 hi).2
    have hq : prio.get j = q := of_decide_eq_true (List.mem_filter.1 hj).2
    simp [servedBefore, hp, hq, hpq]

theorem mem_serviceOrder (h : ∀ i, prio.get i ≤ 7) (i : Fin 6) : i ∈ serviceOrder prio := by
  refine List.mem_flatMap.2 ⟨prio.get i, ?_, List.mem_filter.2 ⟨mem_fins i, by simp⟩⟩
  have := h i
  simp only [List.mem_cons, List.not_mem_nil, or_false]
  omega

theorem serviceOrder_nodup (prio : Table 6 Nat) : (serviceOrder prio).Nodup :=
  (serviceOrder_pairwise prio).imp fun {i j} h hij => by
    subst hij
    exact absurd h (by simp [servedBefore_irrefl])

/-- The service order holds each zone once. -/
theorem serviceOrder_perm (h : ∀ i, prio.get i ≤ 7) : (serviceOrder prio).Perm (fins 6) :=
  (List.perm_ext_iff_of_nodup (serviceOrder_nodup prio) ((fins_pairwise 6).imp ne_of_lt)).2 fun i =>
    iff_of_true (mem_serviceOrder h i) (mem_fins i)

end

/-- Settles O28: the zones are handed their grants in the service order. -/
theorem zoneGrantsFollowPriority : Obligations.ZoneGrantsFollowPriority := by
  intro x prio h hprio before sum
  have hperm := serviceOrder_perm hprio
  refine ⟨fun i => ?_, ?_⟩
  · refine (handOut_get servedBefore_irrefl servedBefore_asymm (serviceOrder_pairwise prio)
      (mem_serviceOrder hprio i)).trans ?_
    rw [((hperm.filter _).map _).sum_eq, ← foldl_add]
    rfl
  · dsimp only [sum]
    rw [foldl_add, List.filter_true, ← (hperm.map _).sum_eq]
    refine (handOut_sum (serviceOrder_nodup prio)).trans ?_
    rw [(hperm.map _).sum_eq, PassInputs.hReq, foldl_add]

end Sys2Proof.Machine
end

section
/-! A pass stage by stage (R21 to R28): its causes, and the limits of the grid grants (O27). -/

namespace Sys2Proof.Machine

/-! ### Cause sets -/

theorem bit_lt (c : Cause) : c.bit < 18 := by cases c <;> decide

theorem bit_injective {c d : Cause} : c.bit = d.bit → c = d := by
  cases c <;> cases d <;> decide

theorem has_or (a b : CauseSet) (c : Cause) : (a ||| b).has c = (a.has c || b.has c) := BitVec.getLsbD_or

theorem has_zero (c : Cause) : (0 : CauseSet).has c = false := BitVec.getLsbD_zero

theorem has_only (c d : Cause) : c.only.has d = decide (c = d) := by
  have hd := bit_lt d
  by_cases h : c = d
  · subst h
    simp [CauseSet.has, Cause.only, bit_lt]
  · have hbits : c.bit ≠ d.bit := fun e => h (bit_injective e)
    simp only [CauseSet.has, Cause.only, BitVec.getLsbD_shiftLeft, BitVec.getLsbD_one, h, decide_false,
      Bool.and_eq_false_iff, decide_eq_false_iff_not]
    simp
    omega

theorem has_causeIf (b : Bool) (c d : Cause) : (causeIf b c).has d = (b && decide (c = d)) := by
  cases b
  · exact has_zero d
  · simpa [causeIf] using has_only c d

section

variable {x : PassInputs} {wired : Nat} {curve : List CurvePoint} {prio : Table 6 Nat}

/-- Section 2.7: what each cause says of a pass. -/
def PassInputs.shows (x : PassInputs) (wired : Nat) (curve : List CurvePoint) : Cause → Bool
  | .offer => decide (x.offered = x.leastLimit)
  | .cable => decide (x.cable = x.leastLimit)
  | .ceiling => decide (x.ceiling = x.leastLimit)
  | .chargerAc => decide (x.acMax = x.leastLimit)
  | .derate => x.anyFault || x.anyWarning
  | .belowMin => decide (x.derated < Config.minAmps)
  | .noAc => x.noAc
  | .chargerDc => !x.busOut && decide (x.dcTerm ≤ x.acTerm wired)
  | .busRange => x.busOut
  | .noAccount => !x.acctExists
  | .cap => x.capReached
  | .saturated => x.saturated
  | .supervision => x.supExpired
  | .staleBattery => x.stale
  | .accept => x.accepts wired curve
  | .heatShort => decide ((if x.inlet = .drawing then (x.grid wired curve).hGrant else x.batteryHeat) < x.hReq)
  | .batterySource => decide (x.inlet ≠ .drawing) && decide (0 < x.batteryHeat)
  | .allowance => decide (x.inlet ≠ .drawing) && x.allowanceZero

/-- Section 2.7: the causes of a pass are those that its inputs show. -/
theorem causes_has (c : Cause) : (x.causes wired curve).has c = x.shows wired curve c := by
  have hbus : ∀ d, (x.causes3 wired).has d =
      (if x.busOut then Cause.busRange.only else causeIf (decide (x.dcTerm ≤ x.acTerm wired)) .chargerDc).has d :=
    fun _ => rfl
  by_cases hdraw : x.inlet = .drawing <;> cases hout : x.busOut <;> cases c <;>
    simp [PassInputs.causes, PassInputs.causes1, PassInputs.causes4, PassInputs.causes568, PassInputs.shows,
      has_or, has_causeIf, has_only, hbus, hdraw, hout]

/-! ### The stages in the words of chapter 2 -/

/-- R22: a pole at confirmed Fault. -/
theorem anyFault_iff : x.anyFault = true ↔ x.sevPos = .fault ∨ x.sevNeg = .fault := by
  simp [PassInputs.anyFault]

/-- R22: a pole at confirmed Warning. -/
theorem anyWarning_iff : x.anyWarning = true ↔ x.sevPos = .warning ∨ x.sevNeg = .warning := by
  simp [PassInputs.anyWarning]

theorem noAc_iff : x.noAc = true ↔ x.n = 0 ∧ x.nominal = false := by simp [PassInputs.noAc]

theorem busOut_iff : x.busOut = true ↔ x.vbus < 2000 ∨ 5000 < x.vbus := by
  rw [PassInputs.busOut, Bool.or_eq_true, decide_eq_true_eq, decide_eq_true_eq]
  rfl

theorem supExpired_iff : x.supExpired = true ↔ x.sup = .expired := by simp [PassInputs.supExpired]

theorem gated_iff : x.gated = true ↔
    x.acctExists = false ∨ x.capReached = true ∨ x.saturated = true ∨ x.sup = .expired := by
  simp [PassInputs.gated, supExpired_iff, or_assoc]

/-- R24: gated or outside the charger window, there is no DC budget. -/
theorem pDc_eq : x.pDc wired =
    if x.gated = true ∨ x.busOut = true then 0 else min (x.acTerm wired) x.dcTerm := by
  unfold PassInputs.pDc PassInputs.budget
  cases x.gated <;> cases x.busOut <;> rfl

theorem asks_eq (z : ZoneInput) :
    z.asks = if z.state = .requested ∨ z.state = .heating then z.demand else 0 := by
  unfold ZoneInput.asks
  cases z.state <;> rfl

theorem hReq_eq : x.hReq = (x.zones.get 0).asks + (x.zones.get 1).asks + (x.zones.get 2).asks +
    (x.zones.get 3).asks + (x.zones.get 4).asks + (x.zones.get 5).asks := by
  change 0 + _ + _ + _ + _ + _ + _ = _
  rw [Nat.zero_add]
  rfl

/-! ### The limits of the grid grants -/

/-- R22: the limit is 0 or a current that the charger takes. -/
theorem iLim_range : x.iLim = 0 ∨ 60 ≤ x.iLim := by
  unfold PassInputs.iLim
  (repeat' split)
  · exact .inl rfl
  · exact .inl rfl
  next hmin => exact .inr (not_lt.1 hmin)

theorem iLim_le_derated : x.iLim ≤ x.derated := by
  unfold PassInputs.iLim
  (repeat' split)
  · exact Nat.zero_le _
  · exact Nat.zero_le _
  · exact le_rfl

theorem derated_le : x.derated ≤ x.leastLimit := by
  unfold PassInputs.derated
  (repeat' split) <;> omega

/-- R22: a Warning halves the limit. -/
theorem derated_of_warning (h : x.anyWarning = true) : 2 * x.derated ≤ x.leastLimit := by
  unfold PassInputs.derated
  rw [if_pos h]
  split <;> omega

/-- R26: the two grants share the DC budget. -/
theorem grants_le {hReq pDc share bReq : Nat} (h : share ≤ 1000) :
    batteryGrant bReq pDc (heatGuarantee hReq pDc share) + heatGrant hReq pDc (heatGuarantee hReq pDc share)
      (batteryGrant bReq pDc (heatGuarantee hReq pDc share)) ≤ pDc := by
  have hguarantee : heatGuarantee hReq pDc share ≤ pDc :=
    (min_le_right _ _).trans (Nat.div_le_of_le_mul (by rw [Nat.mul_comm]; exact Nat.mul_le_mul_right _ h))
  unfold heatGrant batteryGrant
  omega

theorem pDc_le : x.pDc wired ≤ x.acTerm wired ∧ x.pDc wired ≤ x.dcTerm := by
  rw [pDc_eq]
  split <;> omega

end

/-- Settles O27: the stages as chapter 2 writes them, then the bounds of section 2.6 from the split of the
budget. -/
theorem gridGrantsStayWithinTheLimits : Obligations.GridGrantsStayWithinTheLimits := by
  intro x wired curve prio f
  refine ⟨?_, ?_⟩
  · intro n volts least fault warning derated noAc iLim pAc outside acTerm dcTerm gated pDc asks hReq bReq
      guarantee battery heat budget warmth has
    have hderated : x.derated = derated := by
      simp only [PassInputs.derated, anyFault_iff, anyWarning_iff]
      rfl
    have hlim : x.iLim = iLim := by
      simp only [PassInputs.iLim, noAc_iff, hderated]
      rfl
    have hac : x.pAc wired = pAc := by
      simp only [PassInputs.pAc, hlim]
      rfl
    have hacTerm : x.acTerm wired = acTerm := by
      simp only [PassInputs.acTerm, hac]
      rfl
    have hdc : x.pDc wired = pDc := by
      simp only [pDc_eq, gated_iff, busOut_iff, hacTerm]
      rfl
    have hheat : x.hReq = hReq := by
      simp only [hReq_eq, asks_eq]
      rfl
    have hbudget : x.batteryBudget = budget := by
      simp only [PassInputs.batteryBudget, Bool.or_eq_true, supExpired_iff]
      rfl
    have hwarmth : x.batteryHeat = warmth := by
      simp only [PassInputs.batteryHeat, hheat, hbudget]
      rfl
    have hgrid : x.grid wired curve = ⟨iLim, pAc, pDc, battery, heat⟩ := by
      simp only [PassInputs.grid, hlim, hac, hdc, hheat]
      rfl
    have hhas : ∀ c : Cause, has c.bit ↔ x.shows wired curve c = true := fun c => by
      rw [← causes_has]
      rfl
    refine ⟨hgrid, fun hdraw => (if_pos hdraw).trans (by rw [hgrid]; rfl), fun hdraw => (if_neg hdraw).trans
      (by rw [hwarmth]), (hhas .offer).trans decide_eq_true_iff, (hhas .cable).trans decide_eq_true_iff,
      (hhas .ceiling).trans decide_eq_true_iff, (hhas .chargerAc).trans decide_eq_true_iff,
      (hhas .derate).trans (Bool.or_eq_true_iff.trans (or_congr anyFault_iff anyWarning_iff)),
      (hhas .belowMin).trans ?_, (hhas .noAc).trans noAc_iff, (hhas .chargerDc).trans ?_,
      (hhas .busRange).trans busOut_iff, (hhas .noAccount).trans (Bool.not_eq_true' _).to_iff, hhas .cap,
      hhas .saturated, (hhas .supervision).trans supExpired_iff, hhas .staleBattery, (hhas .accept).trans ?_,
      (hhas .heatShort).trans ?_, (hhas .batterySource).trans ?_, (hhas .allowance).trans ?_⟩
    · rw [PassInputs.shows, decide_eq_true_eq, hderated]
      rfl
    · rw [PassInputs.shows, Bool.and_eq_true, Bool.not_eq_true', ← Bool.not_eq_true, busOut_iff,
        decide_eq_true_eq, hacTerm]
      rfl
    · rw [PassInputs.shows, PassInputs.accepts, Bool.and_eq_true, decide_eq_true_eq, decide_eq_true_eq, hdc,
        hheat]
      rfl
    · rw [PassInputs.shows, decide_eq_true_eq, hgrid, hwarmth, hheat]
    · rw [PassInputs.shows, Bool.and_eq_true, decide_eq_true_eq, decide_eq_true_eq, hwarmth]
    · rw [PassInputs.shows, Bool.and_eq_true, decide_eq_true_eq]
  · intro hshare hdraw hnominal
    have hfig : f = ⟨.grid, (x.grid wired curve).bGrant, (x.grid wired curve).hGrant,
        x.zoneGrants prio (x.grid wired curve).hGrant, chargerSetpoint (x.grid wired curve) x.vbus⟩ :=
      if_pos hdraw
    have hsplit : (x.grid wired curve).bGrant + (x.grid wired curve).hGrant ≤ x.pDc wired := grants_le hshare
    obtain ⟨hacTerm, hdcTerm⟩ := pDc_le (x := x) (wired := wired)
    have hac : x.acTerm wired = x.n * x.vph * x.iLim / 100 * x.eff / 1000 := by
      simp [PassInputs.acTerm, PassInputs.pAc, PassInputs.nUsed, PassInputs.vphUsed, hnominal]
    have hdc : x.dcTerm * 100 ≤ x.vbus * x.dcMax := Nat.div_mul_le_self _ _
    have hleast : x.leastLimit = min (min x.offered x.cable) (min x.ceiling x.acMax) := rfl
    have hlim := iLim_le_derated (x := x)
    have hderated := derated_le (x := x)
    rw [hfig]
    dsimp only
    refine ⟨rfl, by omega, by omega, iLim_range, by omega, by omega, by omega, by omega, fun hwarning => ?_,
      fun hfault => iLim_of_fault (anyFault_iff.2 hfault), fun hgated => ?_⟩
    · have hhalf := derated_of_warning (anyWarning_iff.2 hwarning)
      omega
    · have hzero : x.pDc wired = 0 := by rw [pDc_eq, if_pos (.inl (gated_iff.2 hgated))]
      have hsetpoint : chargerSetpoint (x.grid wired curve) x.vbus = 0 := if_neg (by simp [PassInputs.grid, hzero])
      omega

end Sys2Proof.Machine
end

section
/-! The record that the passes of a triggered event leave (R17, R21), and the settings that a pass reads (O25). -/

namespace Sys2Proof.Machine

section

variable {s t : State}

/-! ### What a pass writes in the allocation record -/

/-- R17: the inputs used, the prospective figures and the causes of ALC's record. -/
def Alloc.record (a : Alloc) := (a.inputs, a.grid, a.causes, a.prevCauses)

theorem takeFigures_record (f : Figures) (held safety : Bool) (s : State) :
    (s.takeFigures f held safety).alc.record = s.alc.record := by
  simp only [State.takeFigures]
  (repeat' split) <;> simp [State.applyFigures, Alloc.record]

/-- R17, R35: every pass writes its record. -/
theorem pass_record (s : State) :
    s.pass.alc.record = (s.passInputs, s.passGrid, s.passCauses, s.alc.causes) := by
  simp only [State.pass, enableDecision_frame, raiseCauses_frame, stickCauses_frame, takeFigures_record]
  rfl

/-- The items that a pass reads and that no pass changes. -/
def State.fed (s : State) := (s.alc.settings, s.rqp, s.mtr, s.imon.vbus, s.priorities)

theorem priorities_of_settings (h : ∀ i, (t.zone i).settings = (s.zone i).settings) :
    t.priorities = s.priorities :=
  Table.ext_get fun i => by
    have hi := h i
    simp only [Zone.settings, Prod.mk.injEq] at hi
    obtain ⟨-, -, -, -, hpriority, -⟩ := hi
    simpa [State.priorities, State.zone] using hpriority

theorem fed_congr (halc : t.alc.settings = s.alc.settings) (hrqp : t.rqp = s.rqp) (hmtr : t.mtr = s.mtr)
    (himon : t.imon = s.imon) (hzones : ∀ i, (t.zone i).settings = (s.zone i).settings) : t.fed = s.fed := by
  simp only [State.fed, halc, hrqp, hmtr, himon, priorities_of_settings hzones]

theorem fed_survives (s : State) : Survives fun t => t.fed = s.fed where
  pass t h := (fed_congr (pass_alc t) (by simp) (by simp) (by simp) (pass_zone_settings t)).trans h
  inLine t h := (fed_congr (by simp) (by simp) (by simp) (by simp) (zonesInLine_zone_settings t)).trans h
  work _ _ h := h
  choice _ h := h
  unheld _ h := h
  restart _ _ h := h

/-- R17, R21: a pass's record of the inputs `x`, which are as they stand in `s`. -/
structure State.Recorded (s : State) (x : PassInputs) (g : GridFigures) (c : CauseSet) : Prop where
  ceiling   : x.ceiling = s.alc.ceiling
  share     : x.share = s.alc.share
  heatLimit : x.heatLimit = s.alc.heatLimit
  temp      : x.temp = s.alc.repTemp
  bms       : x.bms = s.alc.repBms
  stale     : x.stale = s.alc.repStale
  vbus      : x.vbus = s.imon.vbus
  n         : x.n = s.mtr.n
  sup       : x.sup = s.rqp.sup
  grid      : g = x.grid s.rqp.config.wired s.alc.curve
  causes    : c = x.causes s.rqp.config.wired s.alc.curve

theorem passInputs_recorded (h : t.fed = s.fed) : s.Recorded t.passInputs t.passGrid t.passCauses := by
  simp only [State.fed, Alloc.settings, Prod.mk.injEq] at h
  obtain ⟨⟨hceiling, hshare, hheat, -, hcurve, htemp, hbms, -, hstale, -⟩, hrqp, hmtr, hvbus, -⟩ := h
  constructor
  case grid => rw [← hrqp, ← hcurve]; rfl
  case causes => rw [← hrqp, ← hcurve]; rfl
  case n => exact congrArg Meter.n hmtr
  case sup => exact congrArg Port.sup hrqp
  all_goals assumption

theorem pass_recorded (h : t.fed = s.fed) :
    s.Recorded t.pass.alc.inputs t.pass.alc.grid t.pass.alc.causes := by
  have hrecord := pass_record t
  simp only [Alloc.record, Prod.mk.injEq] at hrecord
  obtain ⟨hinputs, hgrid, hcauses, -⟩ := hrecord
  rw [hinputs, hgrid, hcauses]
  exact passInputs_recorded h

theorem recorded_survives (s : State) :
    Survives fun t => t.fed = s.fed ∧ s.Recorded t.alc.inputs t.alc.grid t.alc.causes where
  pass t h := ⟨(fed_survives s).pass t h.1, pass_recorded h.1⟩
  inLine t h := ⟨(fed_survives s).inLine t h.1, by simpa using h.2⟩
  work _ _ h := h
  choice _ h := h
  unheld _ h := h
  restart _ _ h := h

/-- R20: where ALC runs, the passes of a triggered event leave a pass's record. -/
theorem settle_recorded (htrigger : s.work.trigger = true) (hruns : s.blocksRun = true) :
    s.Recorded s.settle.alc.inputs s.settle.alc.grid s.settle.alc.causes :=
  settle_establishes (Q := fun t => s.Recorded t.alc.inputs t.alc.grid t.alc.causes) (fed_survives s)
    (recorded_survives s) (fun _ => pass_recorded) rfl (.inr htrigger) hruns

/-! ### The requests of O25 -/

theorem readPoints_length : (k : Nat) → (p : List Byte) → (readPoints k p).length = k
  | 0, _ => rfl
  | k + 1, _ => congrArg (· + 1) (readPoints_length k _)

/-- R39 step 3: the points of a curve are clamped. -/
theorem readPoints_range : {k : Nat} → {p : List Byte} → ∀ q ∈ readPoints k p,
    -450 ≤ q.temp ∧ q.temp ≤ 900 ∧ q.amps ≤ 5000
  | 0, _, _, hq => by cases hq
  | k + 1, p, q, hq => by
    rcases List.mem_cons.1 hq with rfl | hq
    · simp only [clampInt]
      omega
    · exact readPoints_range q hq

/-- An event that writes ALC's settings alone and triggers a pass. -/
def State.rewriteAlc (f : Alloc → Alloc) (s : State) : State := (s.modAlc f).trigger.settle

theorem rewriteAlc_settings (f : Alloc → Alloc) (s : State) :
    (s.rewriteAlc f).alc.settings = (f s.alc).settings := settle_alc _

theorem rewriteAlc_frame (f : Alloc → Alloc) (s : State) : (s.rewriteAlc f).rqp = s.rqp ∧
    (s.rewriteAlc f).tck = s.tck ∧ (s.rewriteAlc f).mtr = s.mtr ∧ (s.rewriteAlc f).stu = s.stu ∧
    (s.rewriteAlc f).pwc = s.pwc := by
  simp [State.rewriteAlc]

theorem rewriteAlc_recorded {f : Alloc → Alloc} (h : s.blocksRun = true) :
    (s.modAlc f).trigger.Recorded (s.rewriteAlc f).alc.inputs (s.rewriteAlc f).alc.grid
      (s.rewriteAlc f).alc.causes := settle_recorded rfl h

end

/-- R184: a request that is served goes on as its owner says. -/
theorem next_of_serves {s t : State} {c : Byte} {p : List Byte} {r : Reply}
    {owner : List Byte → State → State × Reply} (h : s.serves c p) (hown : owner p s = (t, r)) :
    (.next (s.runRequest (isCode c) owner) : Host.Outcome State Fault Refusal) = .next (t.answer r) := by
  rw [runRequest_serves h, hown]

theorem be_one_toNat {k : Nat} (h : k < 256) : be 1 k = [BitVec.ofNat 8 k] ∧ (BitVec.ofNat 8 k).toNat = k := by
  simp [be, Nat.mod_eq_of_lt h]

/-- Settles O25: each request writes ALC's settings and triggers a pass, which records the new values. -/
theorem chargeSettingsAreStored : Obligations.ChargeSettingsAreStored := by
  intro s p
  refine ⟨fun hserves hlen => ?_, fun hserves hlen => ?_, fun k hserves hk hlen hascending => ?_⟩
  · have hown : ownSetChargeLimits p s = (s.rewriteAlc (Alloc.writeLimits p),
        ⟨.ok, limitsImage (s.rewriteAlc (Alloc.writeLimits p))⟩) := if_pos hlen
    have hset := rewriteAlc_settings (Alloc.writeLimits p) s
    simp only [Alloc.settings, Prod.mk.injEq] at hset
    obtain ⟨hceiling, hshare, hheat, hmask, hcurve, htemp, hbms, -⟩ := hset
    obtain ⟨hrqp, hframe⟩ := rewriteAlc_frame (Alloc.writeLimits p) s
    refine ⟨_, next_of_serves hserves hown, ?_⟩
    refine ⟨hceiling, hshare, hheat, hmask, hcurve, htemp, hbms, ?_, fun hruns => ?_, hframe⟩
    · simp only [State.answer, modRqp_rqp, hrqp, limitsImage, hceiling, hshare, hheat, hmask]
      rfl
    · have hrec := rewriteAlc_recorded (f := Alloc.writeLimits p) hruns
      exact ⟨hrec.ceiling, hrec.share, hrec.heatLimit, hrec.grid, hrec.causes⟩
  · have hown : ownReportBattery p s = (s.rewriteAlc (Alloc.takeReport s.now p), ⟨.ok,
        beInt 2 (s.rewriteAlc (Alloc.takeReport s.now p)).alc.repTemp ++
        be 2 (s.rewriteAlc (Alloc.takeReport s.now p)).alc.repBms⟩) := if_pos hlen
    have hset := rewriteAlc_settings (Alloc.takeReport s.now p) s
    simp only [Alloc.settings, Prod.mk.injEq] at hset
    obtain ⟨hceiling, hshare, -, -, hcurve, htemp, hbms, htime, hstale, hstaleMs, -⟩ := hset
    obtain ⟨hrqp, hframe⟩ := rewriteAlc_frame (Alloc.takeReport s.now p) s
    refine ⟨_, next_of_serves hserves hown, ?_⟩
    refine ⟨htemp, hbms, htime, hstale, hstaleMs, hcurve, hceiling, hshare, ?_, fun hruns => ?_, hframe⟩
    · simp only [State.answer, modRqp_rqp, hrqp, htemp, hbms]
      rfl
    · have hrec := rewriteAlc_recorded (f := Alloc.takeReport s.now p) hruns
      exact ⟨hrec.temp, hrec.bms, hrec.stale, hrec.grid, hrec.causes⟩
  · obtain ⟨hbyte, hnat⟩ := be_one_toNat (k := k) (by omega)
    rw [hbyte] at hserves
    have hown : ownWriteCurve (BitVec.ofNat 8 k :: p) s =
        (s.rewriteAlc fun a => { a with curve := readPoints k p }, ⟨.ok,
          be 1 (s.rewriteAlc fun a => { a with curve := readPoints k p }).alc.curve.length⟩) := by
      simp only [ownWriteCurve, hnat, if_neg (not_lt.2 hk), hlen, ne_eq, not_true_eq_false, if_false,
        hascending, if_true]
      rfl
    have hset := rewriteAlc_settings (fun a => { a with curve := readPoints k p }) s
    simp only [Alloc.settings, Prod.mk.injEq] at hset
    obtain ⟨hceiling, -, -, -, hcurve, htemp, -⟩ := hset
    obtain ⟨hrqp, hframe⟩ := rewriteAlc_frame (fun a => { a with curve := readPoints k p }) s
    refine ⟨_, next_of_serves hserves hown, ?_⟩
    have hstored := readPoints_length k p
    refine ⟨hcurve, (congrArg List.length hcurve).trans hstored, ?_, hceiling, htemp, ?_, fun hruns => ?_,
      hframe⟩
    · exact fun q hq => readPoints_range (k := k) (p := p) q (by rw [← hcurve]; exact hq)
    · simp only [State.answer, modRqp_rqp, hrqp, hcurve, hstored]
    · have hrec := rewriteAlc_recorded (f := fun a => { a with curve := readPoints k p }) hruns
      exact ⟨hrec.temp, hrec.ceiling, hrec.grid, hrec.causes⟩

end Sys2Proof.Machine
end

section
/-! One pass, block by block (R17, R32 to R36), and the inputs that it leaves as they were. -/

namespace Sys2Proof.Machine

section

variable {s t : State}

/-! ### The blocks after a pass -/

/-- R17, R32, R33: ALC after a pass. -/
theorem pass_alc_eq (s : State) : s.pass.alc =
    if s.passHeld then
      { s.alc with inputs := s.passInputs, grid := s.passGrid, causes := s.passCauses,
                   prevCauses := s.alc.causes, held := true }
    else
      { s.alc with inputs := s.passInputs, grid := s.passGrid, causes := s.passCauses,
                   prevCauses := s.alc.causes, force := s.passFigures, chargerCmd := s.passFigures.iChg,
                   held := !s.passSafety && s.alc.held } := by
  simp only [State.pass, enableDecision_frame, raiseCauses_frame, stickCauses_frame, State.takeFigures]
  split
  · rfl
  · cases s.passSafety <;> (repeat' split) <;> simp_all [State.applyFigures, State.recordPass]

theorem pass_hzc (s : State) : s.pass.hzc = if s.passHeld then s.hzc else
    { s.hzc with zones := Table.ofFn fun i => (s.hzc.zones.get i).drive (s.passFigures.zones.get i) } := by
  simp only [State.pass, enableDecision_frame, raiseCauses_frame, stickCauses_frame, takeFigures_hzc]
  rfl

/-- R35: the accounts after a pass. -/
theorem pass_act_eq (s : State) : s.pass.act = (s.stickCauses s.passCauses).act := by
  unfold State.pass State.stickCauses
  simp only [enableDecision_frame, raiseCauses_frame, takeFigures_frame, modWork_act, recordPass_frame]
  split <;> simp [State.modAccount]

/-! ### The flags of the event after a pass -/

/-- R34: a safety pass that changes the figures in a Sample phase is told to IMON. -/
def State.tellsChange (s : State) : Bool :=
  s.passSafety && s.sampleOpen && decide (s.passFigures ≠ s.alc.force)

/-- R49, R50: figures applied trigger a pass where a zone leaves Requested. -/
theorem applyFigures_work (f : Figures) (s : State) :
    (s.applyFigures f).work = { s.work with trigger := s.work.trigger || s.anyHeats f.zones } := by
  have hheats : ∀ t : State, (t.applyGrants f.zones).work =
      { t.work with trigger := t.work.trigger || t.anyHeats f.zones } := fun t => by
    unfold State.applyGrants
    dsimp only
    split
    next h => simp [State.trigger, h]
    next h => simp [h]
  exact hheats _

/-- R34, R49: the flags after figures are held or applied. -/
theorem takeFigures_work (f : Figures) (held safety : Bool) (s : State) :
    (s.takeFigures f held safety).work = if held then s.work else
      { s.work with trigger := s.work.trigger || s.anyHeats f.zones,
                    changed := s.work.changed || (safety && s.sampleOpen && decide (f ≠ s.alc.force)) } := by
  have hheats : ∀ t : State, t.hzc = s.hzc → t.anyHeats f.zones = s.anyHeats f.zones := fun t h => by
    unfold State.anyHeats State.zone
    rw [h]
  unfold State.takeFigures
  dsimp only
  split
  · rfl
  · rw [applyFigures_work, hheats _ (by (repeat' split) <;> rfl)]
    cases hnew : safety && s.sampleOpen && decide (f ≠ s.alc.force) <;> cases safety <;> simp

/-- R20, R34: what a pass has reported and triggered before its enable decision. -/
theorem passed_work (s : State) : s.passed.work =
    { trigger := !s.passHeld && s.anyHeats s.passFigures.zones, safety := false, opening := s.work.opening,
      changed := s.work.changed || (!s.passHeld && s.tellsChange) } := by
  simp only [State.passed, raiseCauses_frame, stickCauses_frame, takeFigures_work]
  cases s.passHeld
  · rfl
  · simp

/-- R8: an entry of the enable decision triggers a pass, and reports nothing. -/
theorem enableDecision_work (g : Nat) (s : State) :
    (s.enableDecision g).work = { s.work with trigger := (s.enableDecision g).work.trigger } := by
  unfold State.enableDecision
  (repeat' split) <;> rfl

theorem pass_reports (s : State) : s.pass.work.safety = false ∧ s.pass.work.opening = s.work.opening ∧
    s.pass.work.changed = (s.work.changed || (!s.passHeld && s.tellsChange)) := by
  rw [pass_eq, enableDecision_work, passed_work]
  exact ⟨rfl, rfl, rfl⟩

theorem pass_trigger_of_steady (h : s.inl.state.steady = true) :
    s.pass.work.trigger = (!s.passHeld && s.anyHeats s.passFigures.zones) := by
  rw [pass_of_steady h, passed_work]

/-! ### The inlet state after a pass -/

/-- R8: the state that INL goes on to from `st` at a prospective grid grant of `g` with `n` live phases. -/
def decided (g n : Nat) : InletState → InletState
  | .offered => if 0 < g then (if 0 < n then .drawing else .ready) else .offered
  | .ready => if 0 < g then .ready else .offered
  | .unplugged => .unplugged
  | .plugged => .plugged
  | .drawing => .drawing
  | .pausing => .pausing
  | .faulted => .faulted

theorem decided_twice (g n : Nat) (st : InletState) : decided g n (decided g n st) = decided g n st := by
  by_cases hg : 0 < g <;> by_cases hn : 0 < n <;> cases st <;> simp [decided, hg, hn]

theorem enableDecision_state (g : Nat) (s : State) :
    (s.enableDecision g).inl.state = decided g s.mtr.n s.inl.state := by
  unfold State.enableDecision
  cases hst : s.inl.state
  case offered =>
    change (if 0 < g then _ else s : State).inl.state = _
    simp only [decided]
    (repeat' split)
    · rfl
    · rfl
    · exact hst
  case ready =>
    change (if 0 < g then s else _ : State).inl.state = _
    simp only [decided]
    split
    · exact hst
    · rfl
  all_goals exact hst

theorem pass_state (s : State) : s.pass.inl.state = decided s.passGrid.grant s.mtr.n s.inl.state := by
  have hmtr : s.passed.mtr = s.mtr := by simp [State.passed]
  rw [pass_eq, enableDecision_state, passed_state, hmtr]

end

end Sys2Proof.Machine
end

section
/-! What the passes of an event ask for: the inputs that a pass leaves, and passes outside a Sample phase. -/

namespace Sys2Proof.Machine

/-! ### Inputs that ask for the same -/

/-- Inputs that differ in the inlet state, the nominal-AC flag and zone states that ask for the same alone. -/
def PassInputs.AsksAlike (x y : PassInputs) : Prop :=
  y = { x with zones := y.zones, inlet := y.inlet, nominal := y.nominal } ∧
  ∀ i, (y.zones.get i).asks = (x.zones.get i).asks

section

variable {x y z : PassInputs} {wired : Nat} {curve : List CurvePoint} {prio : Table 6 Nat}

theorem PassInputs.AsksAlike.refl (x : PassInputs) : x.AsksAlike x := ⟨rfl, fun _ => rfl⟩

theorem PassInputs.AsksAlike.trans (h : x.AsksAlike y) (h' : y.AsksAlike z) : x.AsksAlike z :=
  ⟨h'.1.trans (by rw [h.1]), fun i => (h'.2 i).trans (h.2 i)⟩

theorem grid_of_asksAlike (h : x.AsksAlike y) (hnominal : y.nominal = x.nominal) :
    y.grid wired curve = x.grid wired curve := by
  obtain ⟨heq, hasks⟩ := h
  have hreq : y.hReq = x.hReq := by simp only [hReq_eq, hasks]
  rw [hnominal] at heq
  unfold PassInputs.grid
  rw [hreq, heq]
  rfl

theorem figures_of_asksAlike (h : x.AsksAlike y) (hnominal : y.nominal = x.nominal) (hinlet : y.inlet = x.inlet) :
    y.figures wired curve prio = x.figures wired curve prio ∧ y.forceBudget wired = x.forceBudget wired ∧
    y.batteryHeat = x.batteryHeat := by
  have hgrid := grid_of_asksAlike (wired := wired) (curve := curve) h hnominal
  obtain ⟨heq, hasks⟩ := h
  have hreq : y.hReq = x.hReq := by simp only [hReq_eq, hasks]
  have hgrants : ∀ g, y.zoneGrants prio g = x.zoneGrants prio g := fun g => by
    simp only [PassInputs.zoneGrants, hasks]
  have hbudget : y.batteryBudget = x.batteryBudget := by rw [heq]; rfl
  have hheat : y.batteryHeat = x.batteryHeat := by simp only [PassInputs.batteryHeat, hreq, hbudget]
  have hvbus : y.vbus = x.vbus := by rw [heq]
  have hpDc : y.pDc wired = x.pDc wired := by rw [heq, hnominal]; rfl
  refine ⟨?_, ?_, hheat⟩
  · simp only [PassInputs.figures, hinlet, hgrid, hgrants, hheat, hvbus]
  · simp only [PassInputs.forceBudget, hinlet, hbudget, hpDc]

end

section

variable {s t : State}

/-- R50: a driven zone asks for what it asked for. -/
theorem drive_asks (g : Nat) (z : Zone) :
    (ZoneInput.mk (z.drive g).state (z.drive g).demand).asks = (ZoneInput.mk z.state z.demand).asks := by
  unfold Zone.drive
  split
  next hst =>
    by_cases hg : 0 < g <;> simp [ZoneInput.asks, ZoneState.asks, hst, hg]
  all_goals rfl

/-- Section 2.6: the flags of the Active account that a pass reads. -/
def Accounts.activeFlags (t : Accounts) : Option (Bool × Bool) :=
  t.active.map fun x => (x.2.capReached, x.2.saturated)

theorem activeFlags_eq (t : Accounts) : t.activeFlags = t.activeSlot.bind fun i =>
    ((t.slots.get i).acct.map Account.unstuck).map fun a => (a.capReached, a.saturated) := by
  cases h : t.activeSlot with
  | none => simp [Accounts.activeFlags, active_of_none h]
  | some i =>
    obtain ⟨a, ha, -⟩ := acct_of_activeSlot h
    simp only [Accounts.activeFlags, active_of_slot h ha, ha, Option.bind_some, Option.map_some]
    rfl

theorem pass_activeFlags (s : State) : s.pass.act.activeFlags = s.act.activeFlags := by
  simp only [activeFlags_eq, activeSlot_alike (pass_alike s), (pass_act s _).2]

theorem passInputs_flags (t : Accounts) : t.active.isSome = t.activeFlags.isSome ∧
    (t.active.map fun x => x.2.capReached).getD false = (t.activeFlags.map Prod.fst).getD false ∧
    (t.active.map fun x => x.2.saturated).getD false = (t.activeFlags.map Prod.snd).getD false := by
  unfold Accounts.activeFlags
  cases t.active <;> exact ⟨rfl, rfl, rfl⟩

/-- A pass leaves what the next one reads, but for the inlet state and zones that start to heat. -/
theorem pass_asksAlike (s : State) : s.passInputs.AsksAlike s.pass.passInputs := by
  have halc := pass_alc s
  have hinl := pass_inl s
  obtain ⟨hwh, hj⟩ := pass_allowance s
  simp only [Alloc.settings, Prod.mk.injEq] at halc
  simp only [Inlet.sensed, Prod.mk.injEq] at hinl
  constructor
  · simp [State.passInputs, passInputs_flags, pass_activeFlags, halc, hinl, Heater.allowance, hwh, hj]
  · intro i
    have hzone := pass_zone s i
    simp only [State.passInputs, Table.get_map]
    change (ZoneInput.mk (s.pass.zone i).state (s.pass.zone i).demand).asks =
      (ZoneInput.mk (s.zone i).state (s.zone i).demand).asks
    rw [hzone]
    split
    · rfl
    · exact drive_asks _ _

/-! ### Passes without a discard -/

/-- Where no report stands, the passes of an event are passes alone. -/
theorem passes_of_quiet {P : State → Prop} (hpass : ∀ t, P t → P t.pass) (hclear : ∀ t, P t → P t.clearWork)
    (hquiet : ∀ t, P t → t.work.opening = false ∧ t.work.changed = false) :
    (n : Nat) → {s : State} → P s → P (State.passes n s)
  | 0, s, hs => hclear s hs
  | n + 1, s, hs => by
    obtain ⟨hopening, hchanged⟩ := hquiet s hs
    have hreports : s.takeReports = s := by simp [State.takeReports, hopening, hchanged]
    simp only [State.passes, hreports]
    split
    · exact passes_of_quiet hpass hclear hquiet n (hpass s hs)
    · exact hclear s hs

theorem settle_eq_of_quiet (hopening : s.work.opening = false) (hchanged : s.work.changed = false)
    (htrigger : s.work.trigger = true) (hruns : s.blocksRun = true) :
    s.settle = State.passes 31 s.pass := by
  have hreports : s.takeReports = s := by simp [State.takeReports, hopening, hchanged]
  rw [settle_eq, hreports, htrigger, hruns]
  rfl

/-- An event whose first pass triggers and reports nothing runs that one alone. -/
theorem settle_eq_pass (hopening : s.work.opening = false) (hchanged : s.work.changed = false)
    (htrigger : s.work.trigger = true) (hruns : s.blocksRun = true) (hdone : s.pass.work = Work.clear) :
    s.settle = s.pass := by
  rw [settle_eq_of_quiet hopening hchanged htrigger hruns]
  have hclear : s.pass.clearWork = s.pass := by
    have hsame : { s.pass with work := s.pass.work } = s.pass := rfl
    rw [hdone] at hsame
    exact hsame
  have hreports : s.pass.takeReports = s.pass := by simp [State.takeReports, hdone, Work.clear]
  change (if _ then _ else _) = _
  simp only [hreports, hdone, hclear, Work.clear, Bool.false_and, Bool.false_eq_true, if_false]

/-! ### Passes outside a Sample phase -/

section

variable {P Q : State → Prop}

theorem takeReports_closed (h : s.sampleOpen = false) :
    ∃ f, s.takeReports = s.modWork f ∧ (f s.work).trigger = s.work.trigger := by
  unfold State.takeReports State.discardSample
  split
  · exact ⟨_, if_neg (by rw [modWork_sampleOpen, h]; exact Bool.false_ne_true), rfl⟩
  · exact ⟨id, rfl, rfl⟩

/-- Outside a Sample phase the passes of an event keep what each pass keeps. -/
theorem passes_closed (hpass : ∀ t, t.sampleOpen = false → P t → P t.pass)
    (hwork : ∀ t f, P t → P (t.modWork f)) :
    (n : Nat) → {s : State} → s.sampleOpen = false → P s → P (State.passes n s)
  | 0, s, _, hs => hwork s (fun _ => Work.clear) hs
  | n + 1, s, hopen, hs => by
    obtain ⟨f, hf, -⟩ := takeReports_closed hopen
    have hopen' : (s.modWork f).sampleOpen = false := hopen
    have hs' := hwork s f hs
    simp only [State.passes, hf]
    split
    · exact passes_closed hpass hwork n (by rw [sampleOpen_congr (s := s.modWork f) (by simp)]; exact hopen')
        (hpass _ hopen' hs')
    · exact hwork _ (fun _ => Work.clear) hs'

/-- Outside a Sample phase a triggered event ends with what each of its passes makes. -/
theorem settle_closed (hpass : ∀ t, t.sampleOpen = false → P t → P t.pass ∧ Q t.pass)
    (hP : ∀ t f, P t → P (t.modWork f)) (hQ : ∀ t f, Q t → Q (t.modWork f)) (hs : P s)
    (hopen : s.sampleOpen = false) (htrigger : s.work.trigger = true) (hruns : s.blocksRun = true) :
    Q s.settle := by
  obtain ⟨f, hf, hstill⟩ := takeReports_closed hopen
  have hopen' : (s.modWork f).sampleOpen = false := hopen
  have htrigger' : (s.modWork f).work.trigger = true := hstill.trans htrigger
  have hruns' : (s.modWork f).blocksRun = true := hruns
  have hfirst := hpass _ hopen' (hP s f hs)
  rw [settle_eq, hf, htrigger', hruns']
  exact (passes_closed (P := fun t => P t ∧ Q t) (fun t ht h => hpass t ht h.1)
    (fun t g h => ⟨hP t g h.1, hQ t g h.2⟩) 31 (by
      rw [sampleOpen_congr (s := s.modWork f) (by simp)]
      exact hopen') hfirst).2

end

end

end Sys2Proof.Machine
end

section
/-! The passes of a periodic event by the phase of the measurement (R32, R33, R34, R43). -/

namespace Sys2Proof.Machine

section

variable {s t : State}

/-! ### Figures in force (R32) -/

/-- R32: the figures in force are those of the inputs recorded, and the charger follows them. -/
def State.InForce (s : State) (a : Alloc) : Prop :=
  a.force = a.inputs.figures s.rqp.config.wired s.alc.curve s.priorities ∧ a.chargerCmd = a.force.iChg

theorem passHeld_of_closed (h : s.sampleOpen = false) : s.passHeld = false := by
  simp [State.passHeld, h]

theorem mtr_of_fed (h : t.fed = s.fed) : t.mtr = s.mtr := by
  simp only [State.fed, Prod.mk.injEq] at h
  obtain ⟨-, -, hmtr, -⟩ := h
  exact hmtr

theorem rqp_of_fed (h : t.fed = s.fed) : t.rqp = s.rqp := by
  simp only [State.fed, Prod.mk.injEq] at h
  obtain ⟨-, hrqp, -⟩ := h
  exact hrqp

theorem passFigures_of_fed (h : t.fed = s.fed) :
    t.passFigures = t.passInputs.figures s.rqp.config.wired s.alc.curve s.priorities := by
  simp only [State.fed, Alloc.settings, Prod.mk.injEq] at h
  obtain ⟨⟨-, -, -, -, hcurve, -⟩, hrqp, -, -, hprio⟩ := h
  rw [← hrqp, ← hcurve, ← hprio]
  rfl

theorem pass_inForce (hfed : t.fed = s.fed) (hheld : t.passHeld = false) : s.InForce t.pass.alc := by
  unfold State.InForce
  rw [pass_alc_eq, hheld]
  exact ⟨passFigures_of_fed hfed, rfl⟩

/-- R32: outside a Sample phase the figures of the last pass are in force. -/
theorem settle_inForce (hopen : s.sampleOpen = false) (htrigger : s.work.trigger = true)
    (hruns : s.blocksRun = true) : s.InForce s.settle.alc :=
  settle_closed (P := fun t => t.fed = s.fed) (Q := fun t => s.InForce t.alc)
    (fun t ht hfed => ⟨(fed_survives s).pass t hfed, pass_inForce hfed (passHeld_of_closed ht)⟩)
    (fun _ _ h => h) (fun _ _ h => h) rfl hopen htrigger hruns

/-! ### The enable decision (R8) -/

theorem nominal_eq (s : State) :
    s.passInputs.nominal = (decide (s.inl.state ≠ .drawing) && decide (s.mtr.n = 0)) := rfl

theorem passGrid_of_asksAlike (hasks : s.passInputs.AsksAlike t.passInputs) (hfed : t.fed = s.fed)
    (hnominal : t.passInputs.nominal = s.passInputs.nominal) : t.passGrid = s.passGrid := by
  simp only [State.fed, Alloc.settings, Prod.mk.injEq] at hfed
  obtain ⟨⟨-, -, -, -, hcurve, -⟩, hrqp, -⟩ := hfed
  unfold State.passGrid
  rw [hrqp, hcurve, grid_of_asksAlike hasks hnominal]

/-- R8: the decision draws only with AC present. -/
theorem decided_drawing {g n : Nat} {st : InletState} (h : st.steady = false)
    (hdraw : decided g n st = .drawing) : n ≠ 0 := by
  rintro rfl
  cases st <;> simp [decided, InletState.steady] at h hdraw
  · split at hdraw <;> cases hdraw
  · split at hdraw <;> cases hdraw

theorem decided_of_steady (g n : Nat) {st : InletState} (h : st.steady = true) : decided g n st = st := by
  cases st
  case offered | ready => cases h
  all_goals rfl

/-- R8: outside a Sample phase INL goes on as the first pass decides, and stays there. -/
theorem settle_decided (hopen : s.sampleOpen = false) (htrigger : s.work.trigger = true)
    (hruns : s.blocksRun = true) :
    s.settle.inl.state = decided s.passGrid.grant s.mtr.n s.inl.state := by
  cases hsteady : s.inl.state.steady
  case true => rw [settle_state_of_steady hsteady, decided_of_steady _ _ hsteady]
  case false =>
    have hdraws : s.inl.state ≠ .drawing := fun h => by rw [h] at hsteady; cases hsteady
    refine settle_closed (P := fun t => s.passInputs.AsksAlike t.passInputs ∧ t.fed = s.fed ∧
        (t.inl.state = s.inl.state ∨ t.inl.state = decided s.passGrid.grant s.mtr.n s.inl.state))
      (Q := fun t => t.inl.state = decided s.passGrid.grant s.mtr.n s.inl.state) ?_ (fun _ _ h => h)
      (fun _ _ h => h) ⟨.refl _, rfl, .inl rfl⟩ hopen htrigger hruns
    rintro t - ⟨hasks, hfed, hstate⟩
    have hmtr := mtr_of_fed hfed
    have hnominal : t.passInputs.nominal = s.passInputs.nominal := by
      rw [nominal_eq, nominal_eq, hmtr]
      by_cases hn : s.mtr.n = 0
      · have hnot : t.inl.state ≠ .drawing := fun h => by
          rcases hstate with hstate | hstate
          · exact hdraws (hstate ▸ h)
          · exact decided_drawing hsteady (hstate ▸ h) hn
        simp [hdraws, hnot]
      · simp [hn]
    have hpass : t.pass.inl.state = decided s.passGrid.grant s.mtr.n s.inl.state := by
      rw [pass_state, passGrid_of_asksAlike hasks hfed hnominal, hmtr]
      rcases hstate with hstate | hstate
      · rw [hstate]
      · rw [hstate, decided_twice]
    exact ⟨⟨hasks.trans (pass_asksAlike t), (fed_survives s).pass t hfed, .inr hpass⟩, hpass⟩

/-! ### Safety passes in a Sample phase (R34, R43, R73) -/

/-- R34, R43: when a pass is a safety pass, besides by its trigger. -/
theorem passSafety_iff (h : s.work.safety = false) : s.passSafety = true ↔
    s.passInputs.forceBudget s.rqp.config.wired < s.alc.force.bGrant + s.alc.force.hGrant ∨
    (s.inl.state ≠ .drawing ∧ s.alc.force.source = .grid) ∨
    (s.pwc.state = .keepWarm ∧ s.inl.state ≠ .drawing ∧ s.passFigures.hGrant < s.alc.force.hGrant) := by
  have hheat : s.inl.state ≠ .drawing → s.passFigures.hGrant = s.passInputs.batteryHeat := fun hdraw => by
    rw [State.passFigures, PassInputs.figures, if_neg (by exact hdraw)]
  have hinlet : s.passInputs.inlet = s.inl.state := rfl
  simp only [State.passSafety, PassInputs.isSafety, State.keepWarmFall, h, hinlet, Bool.or_eq_true,
    Bool.and_eq_true, decide_eq_true_eq, Bool.false_or, or_assoc, and_assoc]
  refine or_congr_right (or_congr_right (and_congr_right fun _ => and_congr_right fun hdraw => ?_))
  rw [hheat hdraw]

theorem forceBudget_eq (s : State) : s.passInputs.forceBudget s.rqp.config.wired =
    if s.inl.state = .drawing then s.passGrid.pDc
    else if s.hzc.allowWh * 3600 + s.hzc.allowJ = 0 ∨ s.rqp.sup = .expired then 0 else s.alc.heatLimit := by
  have hallow : s.passInputs.allowanceZero = decide (s.hzc.allowWh * 3600 + s.hzc.allowJ = 0) := rfl
  have hexpired : s.passInputs.supExpired = decide (s.rqp.sup = .expired) := rfl
  unfold PassInputs.forceBudget PassInputs.batteryBudget
  simp only [hallow, hexpired, Bool.or_eq_true, decide_eq_true_eq]
  rfl

/-- R73: a report of changed figures restarts the measurement and, with no pass held, runs none. -/
theorem takeReports_of_changed (hchanged : s.work.changed = true) (hopen : s.sampleOpen = true)
    (hheld : s.alc.held = false) : s.takeReports.imon = s.imon.discarded ∧ s.takeReports.alc = s.alc := by
  have hunheld : ∀ u : State, u.alc.held = false → u.windowEnd = u.zonesInLine := fun u hu => by
    simp [State.windowEnd, hu]
  unfold State.takeReports State.discardSample
  rw [if_pos (by rw [hchanged, Bool.or_true]), if_pos (by exact hopen), hunheld _ (by exact hheld)]
  exact ⟨by simp [Insulation.discarded], by simp⟩

/-- R34, R43: a safety pass that changes the figures in a Sample phase is applied, and discards the sample. -/
theorem settle_of_safety (hopening : s.work.opening = false) (hchanged : s.work.changed = false)
    (htrigger : s.work.trigger = true) (hruns : s.blocksRun = true) (hopen : s.sampleOpen = true)
    (hsafety : s.passSafety = true) (hfigures : s.passFigures ≠ s.alc.force) :
    s.settle.imon = s.imon.discarded ∧ s.settle.alc.held = false ∧ s.InForce s.settle.alc := by
  have hheld : s.passHeld = false := by simp [State.passHeld, hsafety]
  have hunheld : s.pass.alc.held = false := by
    rw [pass_alc_eq, hheld, hsafety]
    rfl
  have htold : s.pass.work.changed = true := by
    simp [pass_reports, hheld, State.tellsChange, hsafety, hopen, hfigures]
  have hstill : s.pass.sampleOpen = true := (sampleOpen_congr (by simp)).trans hopen
  obtain ⟨himon, halc⟩ := takeReports_of_changed htold hstill hunheld
  have himon' : s.pass.takeReports.imon = s.imon.discarded := by simpa using himon
  have hclosed : s.pass.takeReports.sampleOpen = false := sampleOpen_of_discarded himon'
  have hstart : s.pass.takeReports.fed = s.fed ∧ s.InForce s.pass.takeReports.alc ∧
      s.pass.takeReports.alc.held = false :=
    ⟨takeReports_survives (fed_survives s) ((fed_survives s).pass s rfl), by
      rw [halc]; exact pass_inForce rfl hheld, by rw [halc]; exact hunheld⟩
  have hpass : ∀ t : State, t.sampleOpen = false →
      t.fed = s.fed ∧ s.InForce t.alc ∧ t.alc.held = false →
      t.pass.fed = s.fed ∧ s.InForce t.pass.alc ∧ t.pass.alc.held = false := by
    rintro t ht ⟨hfed, -, hflag⟩
    have hnot := passHeld_of_closed ht
    refine ⟨(fed_survives s).pass t hfed, pass_inForce hfed hnot, ?_⟩
    rw [pass_alc_eq, hnot]
    exact (congrArg _ hflag).trans (Bool.and_false _)
  have hsettle : s.settle = if s.pass.takeReports.work.trigger && s.pass.takeReports.blocksRun then
      State.passes 30 s.pass.takeReports.pass else s.pass.takeReports.clearWork :=
    settle_eq_of_quiet hopening hchanged htrigger hruns
  rw [hsettle]
  split
  · have hclosed' : s.pass.takeReports.pass.sampleOpen = false := (sampleOpen_congr (by simp)).trans hclosed
    obtain ⟨-, hforce, hflag⟩ := passes_closed (P := fun t => t.fed = s.fed ∧ s.InForce t.alc ∧
      t.alc.held = false) hpass (fun _ _ h => h) 30 hclosed' (hpass _ hclosed hstart)
    exact ⟨(passes_imon_of_closed 30 hclosed').trans (by simpa using himon), hflag, hforce⟩
  · exact ⟨himon', hstart.2.2, hstart.2.1⟩

end

end Sys2Proof.Machine
end

section
/-! Passes that change no figures, the accounts' sticky flags and ALLOCATION (R33, R35, R36), and O26. -/

namespace Sys2Proof.Machine

section

variable {s t : State}

/-! ### Passes with the figures in force (R33) -/

/-- An event in which every pass so far found the figures in force. -/
structure State.Steadfast (s t : State) : Prop where
  asks   : s.passInputs.AsksAlike t.passInputs
  fed    : t.fed = s.fed
  imon   : t.imon = s.imon
  pwc    : t.pwc = s.pwc
  state  : t.inl.state = s.inl.state
  force  : t.alc.force = s.alc.force
  held   : t.alc.held = s.alc.held
  quiet  : t.work.safety = false ∧ t.work.opening = false ∧ t.work.changed = false

/-- Such an event's passes find the same figures, and are ordinary passes when the first one was. -/
theorem steadfast_figures (h : s.Steadfast t) (hwork : s.work.safety = false) :
    t.passFigures = s.passFigures ∧ t.passSafety = s.passSafety := by
  have hnominal : t.passInputs.nominal = s.passInputs.nominal := by
    rw [nominal_eq, nominal_eq, h.state, mtr_of_fed h.fed]
  obtain ⟨hfigures, hbudget, hheat⟩ := figures_of_asksAlike (wired := s.rqp.config.wired)
    (curve := s.alc.curve) (prio := s.priorities) h.asks hnominal h.state
  have hinlet : t.passInputs.inlet = s.passInputs.inlet := h.state
  refine ⟨(passFigures_of_fed h.fed).trans hfigures, ?_⟩
  simp only [State.passSafety, PassInputs.isSafety, State.keepWarmFall, h.quiet.1, hwork, rqp_of_fed h.fed,
    hbudget, hheat, h.force, hinlet, h.pwc, h.state]

theorem pass_steadfast (hsteady : s.inl.state.steady = true) (hwork : s.work.safety = false)
    (hsafety : s.passSafety = false) (hfigures : s.passFigures = s.alc.force) (h : s.Steadfast t) :
    s.Steadfast t.pass ∧ t.pass.alc.chargerCmd = s.passFigures.iChg := by
  obtain ⟨hsame, hordinary⟩ := steadfast_figures h hwork
  rw [hsafety] at hordinary
  have hheld : t.passHeld = false := by simp [State.passHeld, hsame, hfigures, h.force]
  have htold : t.tellsChange = false := by simp [State.tellsChange, hordinary]
  obtain ⟨-, hopening, hchanged⟩ := h.quiet
  obtain ⟨hsafe, hopening', hchanged'⟩ := pass_reports t
  refine ⟨⟨h.asks.trans (pass_asksAlike t), (fed_survives s).pass t h.fed, by simpa using h.imon,
    by simpa using h.pwc, ?_, ?_, ?_, hsafe, hopening'.trans hopening, ?_⟩, ?_⟩
  · rw [pass_state, decided_of_steady _ _ (by rw [h.state]; exact hsteady), h.state]
  · rw [pass_alc_eq, hheld]
    exact hsame.trans hfigures
  · rw [pass_alc_eq, hheld, hordinary]
    exact h.held
  · simp [hchanged', hchanged, htold]
  · rw [pass_alc_eq, hheld]
    exact congrArg Figures.iChg hsame

/-- R33: passes with the figures in force change no output of ALC, and leave the measurement and the held-pass
flag. -/
theorem settle_of_same (hwork : s.work = { Work.clear with trigger := true }) (hruns : s.blocksRun = true)
    (hsteady : s.inl.state.steady = true) (hsafety : s.passSafety = false)
    (hfigures : s.passFigures = s.alc.force) :
    s.settle.imon = s.imon ∧ s.settle.alc.force = s.alc.force ∧ s.settle.alc.held = s.alc.held ∧
    s.settle.alc.chargerCmd = s.passFigures.iChg := by
  have hcalm : s.work.safety = false := by rw [hwork]; rfl
  have hstart : s.Steadfast s := ⟨.refl _, rfl, rfl, rfl, rfl, rfl, rfl, by rw [hwork]; exact ⟨rfl, rfl, rfl⟩⟩
  have hpass := fun t => pass_steadfast (t := t) hsteady hcalm hsafety hfigures
  rw [settle_eq_of_quiet (by rw [hwork]; rfl) (by rw [hwork]; rfl) (by rw [hwork]) hruns]
  obtain ⟨hend, hcmd⟩ := passes_of_quiet
    (P := fun t => s.Steadfast t ∧ t.alc.chargerCmd = s.passFigures.iChg) (fun t h => hpass t h.1)
    (fun t h => ⟨⟨h.1.asks, h.1.fed, h.1.imon, h.1.pwc, h.1.state, h.1.force, h.1.held, rfl, rfl, rfl⟩, h.2⟩)
    (fun t h => h.1.quiet.2) 31 (hpass s hstart)
  exact ⟨hend.imon, hend.force, hend.held, hcmd⟩

/-! ### Events of one pass -/

/-- R20: an event whose pass neither changes figures in a Sample phase nor moves a zone or INL is one pass. -/
theorem settle_of_one (hwork : s.work = { Work.clear with trigger := true }) (hruns : s.blocksRun = true)
    (hsteady : s.inl.state.steady = true) (htold : s.passHeld = true ∨ s.tellsChange = false)
    (hheats : s.passHeld = true ∨ s.anyHeats s.passFigures.zones = false) : s.settle = s.pass := by
  refine settle_eq_pass (by rw [hwork]; rfl) (by rw [hwork]; rfl) (by rw [hwork]) hruns ?_
  obtain ⟨hsafe, hopening, hchanged⟩ := pass_reports s
  have htrigger : s.pass.work.trigger = false := by
    rw [pass_trigger_of_steady hsteady]
    rcases hheats with h | h <;> simp [h]
  have hreport : s.pass.work.changed = false := by
    rw [hchanged, hwork]
    rcases htold with h | h <;> simp [h, Work.clear]
  have hquiet : s.pass.work.opening = false := by rw [hopening, hwork]; rfl
  calc s.pass.work = ⟨s.pass.work.trigger, s.pass.work.safety, s.pass.work.opening, s.pass.work.changed⟩ := rfl
    _ = Work.clear := by rw [htrigger, hsafe, hquiet, hreport]; rfl

theorem anyHeats_of_none (h : ∀ i, (s.zone i).state ≠ .requested) (g : Table 6 Nat) :
    s.anyHeats g = false := by
  simp [State.anyHeats, h]

/-! ### Sticky flags (R35, R165) -/

/-- Accounts `u` are `t` but for causes that joined the sticky flags of the Active account. -/
def Accounts.Sticks (t u : Accounts) : Prop :=
  u.activeSlot = t.activeSlot ∧ (∀ j, t.activeSlot ≠ some j → u.slots.get j = t.slots.get j) ∧
  ∀ j a, (t.slots.get j).acct = some a → ∃ b, (u.slots.get j).acct = some b ∧
    b = { a with sticky := b.sticky } ∧ a.sticky &&& b.sticky = a.sticky

theorem and_or_self (c d : CauseSet) : c &&& (d ||| c) = c := by
  have hbit : ∀ x y : Bool, (x && (y || x)) = x := by decide
  ext i hi
  rw [BitVec.getElem_and, BitVec.getElem_or, hbit]

theorem sticks_refl (t : Accounts) : t.Sticks t := ⟨rfl, fun _ _ => rfl, fun _ a ha => ⟨a, ha, rfl, BitVec.and_self⟩⟩

theorem sticks_trans {t u v : Accounts} (h : t.Sticks u) (h' : u.Sticks v) : t.Sticks v := by
  obtain ⟨hslot, hother, hacct⟩ := h
  obtain ⟨hslot', hother', hacct'⟩ := h'
  refine ⟨hslot'.trans hslot, fun j hj => (hother' j (by rwa [hslot])).trans (hother j hj), fun j a ha => ?_⟩
  obtain ⟨b, hb, hsame, hgrows⟩ := hacct j a ha
  obtain ⟨d, hd, hsame', hgrows'⟩ := hacct' j b hb
  refine ⟨d, hd, by rw [hsame', hsame], ?_⟩
  rw [← hgrows, BitVec.and_assoc, hgrows']

/-- R35: the Active account's sticky flags after a pass. -/
theorem pass_sticky {i : Fin 16} {a : Account} (hi : s.act.activeSlot = some i)
    (ha : (s.act.slots.get i).acct = some a) :
    (s.pass.act.slots.get i).acct = some { a with sticky := a.sticky ||| s.passCauses } := by
  rw [pass_act_eq]
  simp [State.stickCauses, hi, State.modAccount, ha]

theorem pass_other_slot {j : Fin 16} (h : s.act.activeSlot ≠ some j) :
    s.pass.act.slots.get j = s.act.slots.get j := by
  rw [pass_act_eq]
  unfold State.stickCauses
  split
  · rfl
  next i hi =>
    have hj : j ≠ i := fun e => h (e ▸ hi)
    simp [State.modAccount, Table.get_modify_ne _ _ hj]

theorem pass_sticks (s : State) : s.act.Sticks s.pass.act := by
  refine ⟨activeSlot_alike (pass_alike s), fun j hj => pass_other_slot hj, fun j a ha => ?_⟩
  by_cases hj : s.act.activeSlot = some j
  · exact ⟨_, pass_sticky hj ha, rfl, by rw [BitVec.or_comm]; exact and_or_self _ _⟩
  · exact ⟨a, by rw [pass_other_slot hj, ha], rfl, BitVec.and_self⟩

theorem sticks_survives (t : Accounts) : Survives fun u => t.Sticks u.act :=
  survives_of_pass (fun _ _ u => t.Sticks u) fun _ h => sticks_trans h (pass_sticks _)

/-- R35: the causes of the first pass stay among the sticky flags. -/
theorem settle_sticks_first (hwork : s.work = { Work.clear with trigger := true }) (hruns : s.blocksRun = true) :
    s.pass.act.Sticks s.settle.act := by
  rw [settle_eq_of_quiet (by rw [hwork]; rfl) (by rw [hwork]; rfl) (by rw [hwork]) hruns]
  exact passes_survives (sticks_survives s.pass.act) 31 (sticks_refl _)

/-! ### ALLOCATION (R36) -/

theorem pass_allocation (s : State) : s.pass.atn.sources.get 7 =
    if newCauses s.passCauses s.alc.causes s.alc.mask = 0 then s.atn.sources.get 7
    else { s.atn.sources.get 7 with
      flag := true, detail := some (.causes (newCauses s.passCauses s.alc.causes s.alc.mask)) } := by
  have hdecided : ∀ (g : Nat) (t : State), (t.enableDecision g).atn.sources.get 7 = t.atn.sources.get 7 := by
    intro g t
    have henter : ∀ st (u : State), (u.enterInlet st).atn.sources.get 7 = u.atn.sources.get 7 := fun st u =>
      enterInlet_other_source st u (by decide)
    unfold State.enableDecision
    (repeat' split) <;> simp only [henter]
  have htaken : ∀ (f : Figures) (held safety : Bool) (u : State), (u.takeFigures f held safety).alc.mask = u.alc.mask ∧
      (u.takeFigures f held safety).alc.record = u.alc.record := fun f held safety u =>
    ⟨by have h := takeFigures_alc f held safety u
        simp only [Alloc.settings, Prod.mk.injEq] at h
        obtain ⟨-, -, -, hmask, -⟩ := h
        exact hmask, takeFigures_record f held safety u⟩
  obtain ⟨hmask, hrecord⟩ := htaken s.passFigures s.passHeld s.passSafety
    (s.recordPass.modWork fun w => { w with trigger := false, safety := false })
  simp only [Alloc.record, Prod.mk.injEq] at hrecord
  obtain ⟨-, -, hcauses, hprev⟩ := hrecord
  rw [pass_eq, hdecided]
  unfold State.passed State.raiseCauses
  simp only [stickCauses_frame, hmask, hcauses, hprev]
  change (if newCauses s.passCauses s.alc.causes s.alc.mask = 0 then _ else _ : State).atn.sources.get 7 = _
  split
  · simp
  · refine (raise_self .allocation _ _).trans ?_
    simp only [stickCauses_frame, takeFigures_frame, modWork_atn, recordPass_frame]
    rfl

end

end Sys2Proof.Machine
end

section
/-! The periodic pass and the pass of a report that turns stale: O26. -/

namespace Sys2Proof.Machine

section

variable {s : State}

/-- R19: where the allocation period has expired, the periodic pass starts it again and triggers. -/
theorem exec_periodicPass (hruns : s.blocksRun = true) (hdue : s.passPeriod ≤ s.alc.periodMs) :
    exec .periodicPass s = .next s.startPasses.settle := congrArg _ (if_pos ⟨hruns, hdue⟩)

/-- R31: the report turned stale. -/
def Alloc.turnStale (a : Alloc) : Alloc := { a with repStale := true, staleMs := 0 }

/-- R31: a report whose staleness time is reached turns stale, and triggers. -/
theorem exec_batteryReportStale (hfresh : s.alc.repStale = false) (hstale : 2000 ≤ s.alc.staleMs) :
    exec .batteryReportStale s = .next (s.rewriteAlc Alloc.turnStale) :=
  congrArg Host.Outcome.next (if_pos ⟨hfresh, hstale⟩)

theorem startPasses_work (h : s.work = Work.clear) :
    s.startPasses.work = { Work.clear with trigger := true } := by
  change { s.work with trigger := true } = _
  rw [h]

/-- R8: the enable decision moves INL from Offered and Ready alone. -/
theorem steady_of_ne (h1 : s.inl.state ≠ .offered) (h2 : s.inl.state ≠ .ready) :
    s.inl.state.steady = true := by
  cases h : s.inl.state
  case offered => exact absurd h h1
  case ready => exact absurd h h2
  all_goals rfl

theorem discarded_eq (h : s.sampleOpen = true) : s.imon.discarded =
    { s.imon with cycle := if s.imon.cycle = .baseSample then .baseSettle else .shiftSettle, phaseMs := 0,
                  discards := min 255 (s.imon.discards + 1), sumP := 0, sumN := 0, samples := 0 } := by
  have hcycle : s.imon.cycle.restart = if s.imon.cycle = .baseSample then .baseSettle else .shiftSettle := by
    unfold State.sampleOpen at h
    cases hc : s.imon.cycle <;> simp [hc, Cycle.restart] at h ⊢
  rw [Insulation.discarded, hcycle]

/-- R33: a held pass leaves INL, the zones and the measurement, and records itself in ALC. -/
theorem pass_of_held (hsteady : s.inl.state.steady = true) (hheld : s.passHeld = true) :
    s.pass.inl = s.inl ∧ s.pass.hzc = s.hzc ∧ s.pass.imon = s.imon ∧
    s.pass.alc = { s.alc with inputs := s.passInputs, grid := s.passGrid, causes := s.passCauses,
                              prevCauses := s.alc.causes, held := true } := by
  refine ⟨?_, ?_, by simp, ?_⟩
  · rw [pass_of_steady hsteady, passed_inl, if_pos hheld]
  · rw [pass_hzc, if_pos hheld]
  · rw [pass_alc_eq, if_pos hheld]

/-- R35: the causes of the first pass are among the Active account's sticky flags at the end. -/
theorem settle_holds_causes (hwork : s.work = { Work.clear with trigger := true }) (hruns : s.blocksRun = true)
    {i : Fin 16} {a b : Account} (hi : s.act.activeSlot = some i) (ha : (s.act.slots.get i).acct = some a)
    (hb : (s.settle.act.slots.get i).acct = some b) : s.passCauses &&& b.sticky = s.passCauses := by
  obtain ⟨-, -, hacct⟩ := settle_sticks_first hwork hruns
  obtain ⟨d, hd, -, hgrows⟩ := hacct i _ (pass_sticky hi ha)
  cases hb.symm.trans hd
  have hjoined := and_or_self s.passCauses a.sticky
  calc s.passCauses &&& b.sticky
      = s.passCauses &&& (a.sticky ||| s.passCauses) &&& b.sticky := by rw [hjoined]
    _ = s.passCauses &&& (a.sticky ||| s.passCauses) := by rw [BitVec.and_assoc, hgrows]
    _ = s.passCauses := hjoined

/-- R36: new causes within the mask raise ALLOCATION, which no later pass of the event takes back. -/
theorem settle_raises_allocation (hwork : s.work = { Work.clear with trigger := true })
    (hruns : s.blocksRun = true) (hnew : newCauses s.passCauses s.alc.causes s.alc.mask ≠ 0) :
    (s.settle.atn.sources.get 7).flag = true := by
  rw [settle_eq_of_quiet (by rw [hwork]; rfl) (by rw [hwork]; rfl) (by rw [hwork]) hruns]
  refine passes_survives (survives_of_pass (fun _ a _ => (a.sources.get 7).flag = true) fun _ h => pass_flag h)
    31 ?_
  rw [pass_allocation, if_neg hnew]

end

/-- Settles O26: the periodic event by the phase of the measurement and the inlet state, then the stale report. -/
theorem passesRecordTheirInputs : Obligations.PassesRecordTheirInputs := by
  intro s
  refine ⟨fun hruns hdue => ?_, fun hfresh hstale => ?_, fun h => ?_, fun h => ?_⟩
  · intro wired curve prio g f c new budget safety
    have hruns0 : s.startPasses.blocksRun = true := hruns
    have htrigger : s.startPasses.work.trigger = true := rfl
    have hrec := settle_recorded htrigger hruns0
    have hset := settle_alc s.startPasses
    obtain ⟨-, hother, hacct⟩ : s.act.Sticks s.startPasses.settle.act :=
      settle_survives (s := s.startPasses) (sticks_survives s.act) (sticks_refl _)
    have hsafety : s.work = Work.clear → (s.startPasses.passSafety = true ↔ safety) := fun hwork => by
      rw [passSafety_iff (by rw [startPasses_work hwork]; rfl), forceBudget_eq]
      rfl
    have hordinary : s.work = Work.clear → ¬ safety → s.startPasses.passSafety = false := fun hwork hsafe => by
      rw [← Bool.not_eq_true, hsafety hwork]
      exact hsafe
    simp only [Alloc.settings, Prod.mk.injEq] at hset
    obtain ⟨-, -, -, -, -, -, -, -, -, -, hperiod⟩ := hset
    refine ⟨_, exec_periodicPass hruns hdue, hperiod, hrec.grid, hrec.causes, hrec.ceiling,
      hrec.vbus, hrec.n, hrec.sup, hrec.temp, fun hclosed => ?_, fun h1 h2 => ?_, fun hwork hopen hsafe hnew => ?_,
      fun hwork hopen hsafe h1 h2 => ⟨fun hnew => ?_, fun hsame => ?_⟩, fun i a hi ha => ?_, fun j hj => ?_,
      fun hwork hnew => ?_, fun hwork h1 h2 hzones hphase => ?_, ?_⟩
    · obtain ⟨hforce, hcmd⟩ := settle_inForce (s := s.startPasses) hclosed htrigger hruns0
      refine ⟨hforce, hcmd, passes_imon_of_closed _ hclosed, ?_⟩
      rw [settle_decided (s := s.startPasses) hclosed htrigger hruns0]
      change decided g.grant s.mtr.n s.inl.state = _
      cases s.inl.state <;> rfl
    · exact settle_state_of_steady (s := s.startPasses) (steady_of_ne h1 h2)
    · have hstart := startPasses_work hwork
      obtain ⟨himon, hheld, hforce⟩ := settle_of_safety (by rw [hstart]; rfl) (by rw [hstart]; rfl) htrigger
        hruns0 hopen ((hsafety hwork).2 hsafe) hnew
      exact ⟨himon.trans (discarded_eq hopen), hheld, hforce.1⟩
    · have hheld : s.startPasses.passHeld = true := by
        simp only [State.passHeld, hordinary hwork hsafe, Bool.not_false, Bool.and_true, Bool.and_eq_true,
          decide_eq_true_eq]
        exact ⟨hopen, hnew⟩
      rw [settle_of_one (startPasses_work hwork) hruns0 (steady_of_ne h1 h2) (.inl hheld) (.inl hheld)]
      exact pass_of_held (steady_of_ne h1 h2) hheld
    · obtain ⟨himon, hforce, hheld, hcmd⟩ := settle_of_same (startPasses_work hwork) hruns0
        (steady_of_ne h1 h2) (hordinary hwork hsafe) hsame
      exact ⟨himon, hforce, hheld, hcmd⟩
    · obtain ⟨b, hb, hsame, hgrows⟩ := hacct i a ha
      refine ⟨b, hb, hsame, hgrows, fun hwork =>
        settle_holds_causes (startPasses_work hwork) hruns0 hi ha hb⟩
    · exact hother j hj
    · exact settle_raises_allocation (startPasses_work hwork) hruns0 hnew
    · have htold : s.startPasses.tellsChange = false := by
        rcases hphase with hclosed | hsafe
        · have hclosed' : s.startPasses.sampleOpen = false := hclosed
          simp [State.tellsChange, hclosed']
        · simp [State.tellsChange, hordinary hwork hsafe]
      rw [settle_of_one (startPasses_work hwork) hruns0 (steady_of_ne h1 h2) (.inr htold)
        (.inr (anyHeats_of_none hzones _))]
      have hrecord := pass_record s.startPasses
      simp only [Alloc.record, Prod.mk.injEq] at hrecord
      obtain ⟨-, -, hcauses, hprev⟩ := hrecord
      exact ⟨hprev, hcauses, pass_allocation s.startPasses, fun i a hi ha => pass_sticky (s := s.startPasses) hi ha⟩
    · simp [State.startPasses]
  · have hset := rewriteAlc_settings Alloc.turnStale s
    simp only [Alloc.settings, Prod.mk.injEq] at hset
    obtain ⟨-, -, -, -, -, htemp, hbms, -, hstale', -⟩ := hset
    obtain ⟨hrqp, hframe⟩ := rewriteAlc_frame Alloc.turnStale s
    refine ⟨_, exec_batteryReportStale hfresh hstale, hstale', htemp, hbms, fun hruns => ?_, hrqp, hframe⟩
    have hrec := rewriteAlc_recorded (f := Alloc.turnStale) hruns
    exact ⟨hrec.stale, hrec.grid⟩
  · exact congrArg _ (if_neg fun hdue => by
      rcases h with h | h
      · exact absurd (h.symm.trans hdue.1) Bool.false_ne_true
      · exact absurd hdue.2 (not_le.2 h))
  · exact congrArg _ (if_neg fun hdue => by
      rcases h with h | h
      · exact absurd (hdue.1.symm.trans h) Bool.false_ne_true
      · exact absurd hdue.2 (not_le.2 h))

end Sys2Proof.Machine
end

section
/-! The order of the zones (R44, R45, R56): one record, the six, and what keeps them in order. -/

namespace Sys2Proof.Machine

theorem fins_nodup (n : Nat) : (fins n).Nodup := (fins_pairwise n).imp ne_of_lt

/-- At most one record satisfies a test exactly when two slots whose records do are one. -/
theorem Table.filter_length_le_one {n : Nat} {α : Type} (t : Table n α) (p : α → Bool) :
    (t.items.filter p).length ≤ 1 ↔ ∀ i j, p (t.get i) = true → p (t.get j) = true → i = j := by
  have hnodup : ((fins n).filter (p ∘ t.get)).Nodup := (fins_nodup n).filter _
  rw [Table.items_eq, List.filter_map, List.length_map, ← List.toFinset_card_of_nodup hnodup,
    Finset.card_le_one]
  simp only [List.mem_toFinset, List.mem_filter, mem_fins, Function.comp, true_and]
  exact ⟨fun h i j hi hj => h i hi j hj, fun h i hi j hj => h i j hi hj⟩

/-! ### One record -/

/-- R45: what a record must be but for its demand. -/
def Zone.powerOrderly (z : Zone) : Prop :=
  (z.state.connected = false → z.contactor = false ∧ z.duty = 0 ∧ z.grant = 0) ∧
  1 ≤ z.pMax ∧ z.duty ≤ 1000 ∧ ∀ st, z.resume = some st → st.connected = true

/-- R45, R47: what a record's demand must be. -/
def Zone.demandOrderly (z : Zone) : Prop :=
  (z.state.connected = false → z.demand = 0) ∧ z.demand ≤ z.pMax

/-- A record as O35 asks for it. -/
def Zone.orderly (z : Zone) : Prop := z.powerOrderly ∧ z.demandOrderly

theorem zone_orderly_iff (z : Zone) :
    (z.restful && z.inRange && z.remembers) = true ↔ z.orderly := by
  have hremembers : z.remembers = true ↔ ∀ st, z.resume = some st → st.connected = true := by
    unfold Zone.remembers
    split <;> simp_all
  simp only [Zone.restful, Zone.inRange, Bool.and_eq_true, hremembers, Bool.or_eq_true,
    decide_eq_true_eq, Bool.not_eq_true', Zone.orderly, Zone.powerOrderly, Zone.demandOrderly]
  cases z.state.connected
  · simp only [Bool.false_eq_true, false_or, forall_true_left]
    tauto
  · simp only [true_or, true_and, Bool.true_eq_false, false_imp_iff]
    tauto

section

variable {z : Zone}

theorem Zone.powerOrderly.pMax_pos (h : z.powerOrderly) : 1 ≤ z.pMax := h.2.1

theorem Zone.powerOrderly.resume_connected (h : z.powerOrderly) :
    ∀ st, z.resume = some st → st.connected = true := h.2.2.2

/-- R45: the entry to a resting state leaves nothing to ask. -/
theorem orderly_of_dark (hpMax : 1 ≤ z.pMax) (hresume : z.resume = none) (hcontactor : z.contactor = false)
    (hduty : z.duty = 0) (hgrant : z.grant = 0) (hdemand : z.demand = 0) : z.orderly :=
  ⟨⟨fun _ => ⟨hcontactor, hduty, hgrant⟩, hpMax, by omega, by simp [hresume]⟩, fun _ => hdemand, by omega⟩

theorem toOff_orderly (h : z.powerOrderly) : z.toOff.orderly := orderly_of_dark h.pMax_pos rfl rfl rfl rfl rfl

theorem toFaulted_orderly (h : z.powerOrderly) (r : ZoneFault) : (z.toFaulted r).orderly :=
  orderly_of_dark h.pMax_pos rfl rfl rfl rfl rfl

/-- R56: an isolation remembers the state of a connected zone. -/
theorem toIsolated_orderly (h : z.powerOrderly) (hst : z.state.connected = true) : z.toIsolated.orderly := by
  refine ⟨⟨fun _ => ⟨rfl, rfl, rfl⟩, h.pMax_pos, Nat.zero_le _, fun st hresume => ?_⟩, fun _ => rfl,
    Nat.zero_le _⟩
  cases hresume
  exact hst

/-- R47: a demand computed again is in order. -/
theorem recompute_orderly (h : z.powerOrderly) : z.recompute.orderly := by
  refine ⟨h, fun hst => ?_, ?_⟩
  · change z.asked = 0
    change z.state.connected = false at hst
    unfold Zone.asked
    cases hstate : z.state <;> simp_all [ZoneState.connected, ZoneState.asks]
  · change z.asked ≤ z.pMax
    unfold Zone.asked
    split
    · exact Nat.min_le_left _ _
    · exact Nat.zero_le _

theorem connect_orderly (h : z.powerOrderly) (live : Bool) {st : ZoneState} (hst : st.connected = true) :
    (z.connect live st).orderly :=
  recompute_orderly ⟨fun hoff => absurd (hst.symm.trans hoff) (by decide), h.2⟩

/-- R57: a released zone returns to what it remembers, or goes Off. -/
theorem released_orderly (h : z.powerOrderly) (live : Bool) :
    (z.released live).orderly ∧ (z.released live).state ≠ .isolated := by
  have hst : (z.resume.getD .requested).connected = true := by
    cases hresume : z.resume with
    | none => rfl
    | some st => exact h.resume_connected st hresume
  unfold Zone.released
  split
  · exact ⟨toOff_orderly h, nofun⟩
  · obtain ⟨⟨hdark, hpMax, hduty, -⟩, hdemand⟩ := connect_orderly h live hst
    refine ⟨⟨⟨hdark, hpMax, hduty, nofun⟩, hdemand⟩, fun hiso => ?_⟩
    change z.resume.getD .requested = .isolated at hiso
    rw [hiso] at hst
    cases hst

/-- R52: a zone brought in line has its power in order; so has its demand where it had. -/
theorem inLine_orderly (h : z.powerOrderly) (live : Bool) :
    (z.inLine live).powerOrderly ∧ (z.demandOrderly → (z.inLine live).demandOrderly) := by
  unfold Zone.inLine
  (repeat' split)
  case h_4.isTrue =>
    obtain ⟨hpower, hdemand⟩ := connect_orderly h live (st := .requested) rfl
    exact ⟨hpower, fun _ => hdemand⟩
  case h_1.isFalse | h_2.isFalse | h_3.isFalse => exact ⟨(toOff_orderly h).1, fun _ => (toOff_orderly h).2⟩
  all_goals exact ⟨h, id⟩

theorem inLine_isolated (live : Bool) (z : Zone) :
    (z.inLine live).state = .isolated ↔ z.state = .isolated := by
  unfold Zone.inLine
  (repeat' split) <;> simp_all [Zone.toOff, Zone.rest, Zone.connect, Zone.recompute]

/-- R50: a grant within the demand is a duty of at most 1000 permille. -/
theorem drive_orderly (h : z.orderly) {g : Nat} (hg : g ≤ z.demand) : (z.drive g).orderly := by
  obtain ⟨⟨hdark, hpMax, hduty, hresume⟩, hrest, hdemand⟩ := h
  have hscaled : g * 1000 / z.pMax ≤ 1000 :=
    Nat.div_le_of_le_mul (Nat.mul_le_mul_right _ (hg.trans hdemand))
  unfold Zone.drive
  split
  next hst =>
    have hconn : (if 0 < g then ZoneState.heating else .requested).connected = true := by split <;> rfl
    exact ⟨⟨fun hoff => absurd (hconn.symm.trans hoff) (by decide), hpMax, hscaled, hresume⟩,
      fun hoff => absurd (hconn.symm.trans hoff) (by decide), hdemand⟩
  next hst => exact ⟨⟨by simp [hst, ZoneState.connected], hpMax, hscaled, hresume⟩, hrest, hdemand⟩
  next hst => exact ⟨⟨by simp [hst, ZoneState.connected], hpMax, hscaled, hresume⟩, hrest, hdemand⟩
  all_goals exact ⟨⟨hdark, hpMax, hduty, hresume⟩, hrest, hdemand⟩

theorem drive_isolated (g : Nat) (z : Zone) : (z.drive g).state = .isolated ↔ z.state = .isolated := by
  unfold Zone.drive
  split
  next hst => by_cases hg : 0 < g <;> simp [hst, hg]
  all_goals rfl

end

end Sys2Proof.Machine
end

section
/-! The order of the six zones (R45, R50, R56): the operations of HZC, a pass, and locating. -/

namespace Sys2Proof.Machine

/-! ### A zone's write (R62) -/

/-- R62: a record with the enabled flag and the settings of a request, before the zone answers to them. -/
def Zone.rewritten (enabled : Bool) (target : Int) (gain pMax priority : Nat) (z : Zone) : Zone :=
  { z with enabled := enabled, target := target, gain := gain, pMax := pMax, priority := priority }

section

variable {z : Zone} {live window enabled : Bool} {target : Int} {gain pMax priority : Nat}

theorem write_of_isolated (h : z.state = .isolated) :
    z.write live window enabled target gain pMax priority =
      { z.rewritten enabled target gain pMax priority with disableAfter := !enabled } := by
  unfold Zone.write
  split
  case h_5 => rfl
  all_goals simp_all

theorem write_of_faulted (h : z.state = .faulted) :
    z.write live window enabled target gain pMax priority = z.rewritten enabled target gain pMax priority := by
  unfold Zone.write
  split
  case h_6 => rfl
  all_goals simp_all

theorem write_of_free (h1 : z.state ≠ .isolated) (h2 : z.state ≠ .faulted) :
    z.write live window enabled target gain pMax priority =
      if window then (z.rewritten enabled target gain pMax priority).recompute
      else ((z.rewritten enabled target gain pMax priority).inLine live).recompute := by
  unfold Zone.write
  split
  case h_5 hst => exact absurd hst h1
  case h_6 hst => exact absurd hst h2
  all_goals rfl

theorem write_orderly (h : z.orderly) (hpMax : 1 ≤ pMax) :
    (z.write live window enabled target gain pMax priority).orderly := by
  obtain ⟨⟨hdark, -, hduty, hresume⟩, hrest, -⟩ := h
  have hpower : (z.rewritten enabled target gain pMax priority).powerOrderly := ⟨hdark, hpMax, hduty, hresume⟩
  by_cases h1 : z.state = .isolated
  · have hdemand : z.demand = 0 := hrest (by rw [h1]; rfl)
    rw [write_of_isolated h1]
    exact ⟨hpower, hrest, (le_of_eq hdemand).trans (Nat.zero_le _)⟩
  by_cases h2 : z.state = .faulted
  · have hdemand : z.demand = 0 := hrest (by rw [h2]; rfl)
    rw [write_of_faulted h2]
    exact ⟨hpower, hrest, (le_of_eq hdemand).trans (Nat.zero_le _)⟩
  rw [write_of_free h1 h2]
  split
  · exact recompute_orderly hpower
  · exact recompute_orderly (inLine_orderly hpower live).1

theorem write_isolated :
    (z.write live window enabled target gain pMax priority).state = .isolated ↔ z.state = .isolated := by
  by_cases h1 : z.state = .isolated
  · rw [write_of_isolated h1]
    rfl
  by_cases h2 : z.state = .faulted
  · rw [write_of_faulted h2]
    rfl
  rw [write_of_free h1 h2]
  split
  · rfl
  · exact inLine_isolated live _

end

/-! ### The six records -/

/-- R45: every record is in order, and at most one is Isolated. -/
def Heater.orderly (h : Heater) : Prop :=
  (∀ i, (h.zones.get i).orderly) ∧
  ∀ i j, (h.zones.get i).state = .isolated → (h.zones.get j).state = .isolated → i = j

theorem heater_orderly_iff (h : Heater) : (h.restful = true ∧ h.oneIsolated = true) ↔ h.orderly := by
  refine and_congr ?_ ?_
  · simp only [Heater.restful, List.all_eq_true, zone_orderly_iff, Table.mem_items, forall_exists_index,
      forall_apply_eq_imp_iff]
  · simp only [Heater.oneIsolated, decide_eq_true_eq]
    rw [Table.filter_length_le_one]
    simp only [decide_eq_true_eq]

/-- A change of a record that keeps it in order and isolates nothing. -/
def Zone.KeepsOrder (z y : Zone) : Prop := z.orderly → y.orderly ∧ (y.state = .isolated → z.state = .isolated)

section

variable {s t : State} {z : Zone}

theorem orderly_of_keepsOrder (h : s.hzc.orderly) (hz : ∀ i, (s.zone i).KeepsOrder (t.zone i)) :
    t.hzc.orderly :=
  ⟨fun i => (hz i (h.1 i)).1, fun i j hi hj => h.2 i j ((hz i (h.1 i)).2 hi) ((hz j (h.1 j)).2 hj)⟩

theorem modZone_orderly (h : s.hzc.orderly) {f : Zone → Zone} (hf : ∀ z : Zone, z.KeepsOrder (f z)) (i : Fin 6) :
    (s.modZone i f).hzc.orderly := by
  refine orderly_of_keepsOrder h fun j => ?_
  rw [zone_modZone]
  split
  · exact hf _
  · exact fun hz => ⟨hz, id⟩

theorem mapZones_orderly (h : s.hzc.orderly) {f : Zone → Zone} (hf : ∀ z : Zone, z.KeepsOrder (f z)) :
    (s.modHzc fun x => { x with zones := x.zones.map f }).hzc.orderly := by
  refine orderly_of_keepsOrder h fun j => ?_
  simp only [State.zone, modHzc_hzc, Table.get_map]
  exact hf _

theorem toOff_keepsOrder : z.KeepsOrder z.toOff := fun h => ⟨toOff_orderly h.1, nofun⟩

theorem toFaulted_keepsOrder (r : ZoneFault) : z.KeepsOrder (z.toFaulted r) := fun h =>
  ⟨toFaulted_orderly h.1 r, nofun⟩

theorem recompute_keepsOrder : z.KeepsOrder z.recompute := fun h => ⟨recompute_orderly h.1, id⟩

theorem released_keepsOrder (live : Bool) : z.KeepsOrder (z.released live) := fun h =>
  ⟨(released_orderly h.1 live).1, fun hiso => absurd hiso (released_orderly h.1 live).2⟩

theorem inLine_keepsOrder (live : Bool) : z.KeepsOrder (z.inLine live) := fun h =>
  ⟨⟨(inLine_orderly h.1 live).1, (inLine_orderly h.1 live).2 h.2⟩, (inLine_isolated live z).1⟩

/-- R59: a zone at a stop. -/
theorem stopped_keepsOrder : z.KeepsOrder z.stopped := by
  intro h
  unfold Zone.stopped
  split
  next hst => exact ⟨h, fun hiso => hiso⟩
  all_goals exact ⟨orderly_of_dark h.1.pMax_pos rfl rfl rfl rfl rfl, nofun⟩

/-- R66: a zone at Dormant entry. -/
theorem sleep_keepsOrder : z.KeepsOrder z.sleep := fun h =>
  ⟨⟨⟨fun _ => ⟨rfl, rfl, rfl⟩, h.1.pMax_pos, Nat.zero_le _, h.1.resume_connected⟩, h.2⟩, id⟩

/-- R66: a zone whose block resumes. -/
theorem wake_keepsOrder : z.KeepsOrder z.wake := fun h =>
  ⟨⟨⟨fun hst => ⟨hst, (h.1.1 hst).2⟩, h.1.2⟩, h.2⟩, id⟩

/-- R48: a zone at its target. -/
theorem holding_keepsOrder : z.KeepsOrder { z with state := .holding, demand := 0 } := fun h =>
  ⟨⟨⟨nofun, h.1.2⟩, fun _ => rfl, Nat.zero_le _⟩, nofun⟩

/-- R48: a zone below its target. -/
theorem heating_keepsOrder : z.KeepsOrder { z with state := .heating }.recompute := fun h =>
  ⟨recompute_orderly ⟨nofun, h.1.2⟩, nofun⟩

/-! ### A pass (R29, R50) -/

/-- R29: a zone is granted no more than it asks for. -/
theorem zoneGrants_le (x : PassInputs) (prio : Table 6 Nat) (g : Nat) (i : Fin 6) :
    (x.zoneGrants prio g).get i ≤ (x.zones.get i).asks := by
  unfold PassInputs.zoneGrants
  by_cases hi : i ∈ serviceOrder prio
  · rw [handOut_get servedBefore_irrefl servedBefore_asymm (serviceOrder_pairwise prio) hi]
    exact Nat.min_le_left _ _
  · rw [handOut_of_not_mem hi, Table.get_replicate]
    exact Nat.zero_le _

theorem passFigures_zones_le (s : State) (i : Fin 6) : s.passFigures.zones.get i ≤ (s.zone i).demand := by
  have hasks : (s.passInputs.zones.get i).asks ≤ (s.zone i).demand := by
    simp only [State.passInputs, Table.get_map, ZoneInput.asks]
    split
    · exact le_refl _
    · exact Nat.zero_le _
  unfold State.passFigures PassInputs.figures
  split
  · exact (zoneGrants_le _ _ _ i).trans hasks
  · exact (zoneGrants_le _ _ _ i).trans hasks

theorem pass_orderly (h : s.hzc.orderly) : s.pass.hzc.orderly := by
  refine orderly_of_keepsOrder h fun i => ?_
  rw [pass_zone]
  split
  · exact fun hz => ⟨hz, id⟩
  · exact fun hz => ⟨drive_orderly hz (passFigures_zones_le s i), (drive_isolated _ _).1⟩

theorem zonesInLine_orderly (h : s.hzc.orderly) : s.zonesInLine.hzc.orderly := by
  unfold State.zonesInLine
  split
  · exact mapZones_orderly h fun _ => inLine_keepsOrder _
  · exact h

theorem survives_orderly : Survives fun t => t.hzc.orderly where
  pass _ := pass_orderly
  inLine _ := zonesInLine_orderly
  work _ _ h := h
  choice _ h := h
  unheld _ h := h
  restart _ _ h := h

theorem settle_orderly (h : s.hzc.orderly) : s.settle.hzc.orderly := settle_survives survives_orderly h

theorem windowEnd_orderly (h : s.hzc.orderly) : s.windowEnd.hzc.orderly := windowEnd_survives survives_orderly h

/-! ### The operations of HZC -/

theorem zoneFault_orderly (h : s.hzc.orderly) (i : Fin 6) (r : ZoneFault) (e : ZoneEvent) :
    (s.zoneFault i r e).hzc.orderly := by
  have hfault : ((s.noteOpening (s.zone i)).modZone i (Zone.toFaulted r)).hzc.orderly :=
    modZone_orderly (by simpa using h) (fun _ => toFaulted_keepsOrder r) i
  simp only [State.zoneFault, triggerSafety_frame, raise_frame]
  split
  · simpa using hfault
  · exact hfault

theorem zoneTransition_orderly (h : s.hzc.orderly) (i : Fin 6) : (s.zoneTransition i).hzc.orderly := by
  unfold State.zoneTransition
  dsimp only
  (repeat' split)
  case h_1.isTrue | h_2.isTrue => exact modZone_orderly h (fun _ => holding_keepsOrder) i
  case h_3.isTrue => exact modZone_orderly h (fun _ => heating_keepsOrder) i
  all_goals exact h

theorem zoneReading_orderly (h : s.hzc.orderly) (i : Fin 6) (temp : Int) :
    (s.zoneReading i temp).hzc.orderly := by
  have hread : (s.modZone i fun z => { z with temp := temp }).hzc.orderly :=
    modZone_orderly h (by exact fun _ hz => ⟨hz, fun hiso => hiso⟩) i
  unfold State.zoneReading
  dsimp only
  (repeat' split)
  · exact hread
  · exact zoneFault_orderly hread _ _ _
  · exact zoneFault_orderly hread _ _ _
  · exact zoneTransition_orderly (modZone_orderly hread (fun _ => recompute_keepsOrder) i) i

theorem readZones_orderly (h : s.hzc.orderly) (t : ZoneTemps) : (s.readZones t).hzc.orderly :=
  zoneReading_orderly (zoneReading_orderly (zoneReading_orderly (zoneReading_orderly (zoneReading_orderly
    (zoneReading_orderly h _ _) _ _) _ _) _ _) _ _) _ _

theorem writeZone_orderly (h : s.hzc.orderly) {pMax : Nat} (hpMax : 1 ≤ pMax) (i : Fin 6) (enabled : Bool)
    (target : Int) (gain priority : Nat) : (s.writeZone i enabled target gain pMax priority).hzc.orderly :=
  modZone_orderly h (fun _ hz => ⟨write_orderly hz hpMax, write_isolated.1⟩) i

theorem releaseZone_orderly (h : s.hzc.orderly) (i : Fin 6) : (s.releaseZone i).hzc.orderly := by
  unfold State.releaseZone
  split
  · exact modZone_orderly h (fun _ => released_keepsOrder _) i
  · exact h

/-- R56: where no zone is Isolated, the isolation of a connected zone leaves it the only one. -/
theorem isolated_orderly (h : s.hzc.orderly) (hnone : ∀ j, (s.zone j).state ≠ .isolated) {i : Fin 6}
    (hst : (s.zone i).state.connected = true) : (s.modZone i Zone.toIsolated).hzc.orderly := by
  have honly : ∀ j, ((s.modZone i Zone.toIsolated).zone j).state = .isolated → j = i := by
    intro j hj
    by_contra hne
    rw [zone_modZone, if_neg hne] at hj
    exact hnone j hj
  refine ⟨fun j => ?_, fun j k hj hk => (honly j hj).trans (honly k hk).symm⟩
  change ((s.modZone i Zone.toIsolated).zone j).orderly
  rw [zone_modZone]
  split
  next hji => subst hji; exact toIsolated_orderly (h.1 j).1 hst
  next => exact h.1 j

/-- R56: a release of the isolated zone leaves none Isolated. -/
theorem releaseZone_none (h : s.hzc.orderly) {j : Fin 6} (hj : (s.zone j).state = .isolated) (k : Fin 6) :
    ((s.releaseZone j).zone k).state ≠ .isolated := by
  change ((if (s.zone j).state = .isolated then (s.modZone j (Zone.released s.blocksRun)).trigger
    else s).zone k).state ≠ .isolated
  rw [if_pos hj]
  change ((s.modZone j (Zone.released s.blocksRun)).zone k).state ≠ .isolated
  rw [zone_modZone]
  split
  next hkj => exact (released_orderly (h.1 k).1 _).2
  next hkj => exact fun hk => hkj (h.2 k j hk hj)

theorem isolatedZone_state {j : Fin 6} (h : s.isolatedZone = some j) : (s.zone j).state = .isolated := by
  have hfound := Table.find_some h
  exact of_decide_eq_true hfound

theorem isolateZone_orderly (h : s.hzc.orderly) (i : Fin 6) : (s.isolateZone i).hzc.orderly := by
  have hisolate : ∀ u : State, u.hzc.orderly → (∀ k, (u.zone k).state ≠ .isolated) →
      (if (u.zone i).state.connected then (u.modZone i Zone.toIsolated).trigger else u).hzc.orderly := by
    intro u hu hnone
    split
    next hst => exact isolated_orderly hu hnone hst
    next => exact hu
  unfold State.isolateZone
  cases hfound : s.isolatedZone with
  | none => exact hisolate s h fun k => of_decide_eq_false (Table.find_eq_none.1 hfound k)
  | some j =>
    have hj : (s.zone j).state = .isolated := isolatedZone_state hfound
    dsimp only
    by_cases hji : j = i
    · subst hji
      simp only [if_true, hj, ZoneState.connected, Bool.false_eq_true, if_false]
      exact h
    · simp only [if_neg hji]
      exact hisolate _ (releaseZone_orderly h j) (releaseZone_none h hj)

theorem insulationFault_orderly (h : s.hzc.orderly) (i : Fin 6) : (s.insulationFault i).hzc.orderly :=
  modZone_orderly h (fun _ => toFaulted_keepsOrder _) i

theorem zonesStop_orderly (h : s.hzc.orderly) : s.zonesStop.hzc.orderly := by
  have hstop := mapZones_orderly h fun _ => stopped_keepsOrder
  simp only [State.zonesStop]
  split
  · simpa using hstop
  · exact hstop

theorem debitAllowance_orderly (h : s.hzc.orderly) : s.debitAllowance.hzc.orderly := by
  unfold State.debitAllowance
  dsimp only
  (repeat' split) <;> exact h

/-! ### Locating (R92 to R97) -/

theorem isolateNext_orderly : (l : List (Fin 6)) → {s t : State} → s.hzc.orderly → s.isolateNext l = some t →
    t.hzc.orderly
  | [], _, _, _, ht => by simp [State.isolateNext] at ht
  | z :: rest, s, t, h, ht => by
    simp only [State.isolateNext] at ht
    split at ht
    · cases ht
      exact isolateZone_orderly h z
    · exact isolateNext_orderly rest h ht

theorem takeDeferred_orderly (h : s.hzc.orderly) : s.takeDeferred.hzc.orderly := by
  simp only [State.takeDeferred]
  (repeat' split)
  · exact h
  next ht => exact isolateNext_orderly _ (by simpa using h) ht
  · simpa using h
  · exact h

theorem completeSequence_orderly (h : s.hzc.orderly) (o : LocateOutcome) (g : Origin) :
    (s.completeSequence o g).hzc.orderly :=
  takeDeferred_orderly (by simpa using h)

theorem continueSequence_orderly (h : s.hzc.orderly) (p : Pole) (l : List (Fin 6)) :
    (s.continueSequence p l).hzc.orderly := by
  unfold State.continueSequence
  split
  next ht => exact isolateNext_orderly _ h ht
  · exact completeSequence_orderly h _ _

theorem requestLocating_orderly (h : s.hzc.orderly) (p : Pole) : (s.requestLocating p).hzc.orderly := by
  unfold State.requestLocating
  (repeat' split)
  · exact continueSequence_orderly (by simpa using h) _ _
  · exact h
  · exact h

theorem judge_orderly (h : s.hzc.orderly) (p : Pole) (z : Fin 6) (r : Nat) : (s.judge p z r).hzc.orderly := by
  unfold State.judge
  split
  · exact completeSequence_orderly (by simpa using insulationFault_orderly h z) _ _
  · exact continueSequence_orderly (by simpa using releaseZone_orderly h z) _ _

theorem abandonLocating_orderly (h : s.hzc.orderly) : s.abandonLocating.hzc.orderly := by
  unfold State.abandonLocating
  split
  · simpa using h
  · simpa using releaseZone_orderly h _

theorem locateSeverity_orderly (h : s.hzc.orderly) (p : Pole) (b a : Severity) :
    (s.locateSeverity p b a).hzc.orderly := by
  unfold State.locateSeverity
  split
  · exact requestLocating_orderly h p
  · exact h

theorem stepLocating_orderly (h : s.hzc.orderly) (fault : Bool) (ran : Option (Pole × Fin 6)) :
    (s.stepLocating fault ran).hzc.orderly := by
  unfold State.stepLocating
  (repeat' split)
  · exact abandonLocating_orderly h
  · exact h
  · exact judge_orderly h _ _ _
  · exact judge_orderly h _ _ _

theorem handOn_orderly (h : s.hzc.orderly) (bp bn : Severity) : (s.handOn bp bn).hzc.orderly := by
  refine stepLocating_orderly (locateSeverity_orderly (locateSeverity_orderly ?_ _ _ _) _ _ _) _ _
  split <;> simpa using h

theorem takeStop_orderly (h : s.hzc.orderly) (c : StopCause) : (s.takeStop c).hzc.orderly := by
  simp only [State.takeStop, triggerSafety_frame, raise_frame, withdrawEnable_frame]
  exact zonesStop_orderly (abandonLocating_orderly (by simpa using h))

end

end Sys2Proof.Machine
end

section
/-! The order of the zones (R45) through every command: O35. -/

namespace Sys2Proof.Machine

section

variable {s : State}

/-! ### Measurement and the clock -/

theorem completeBase_orderly (h : s.hzc.orderly) : s.completeBase.hzc.orderly := windowEnd_orderly h

theorem passAndStop_orderly (h : s.hzc.orderly) (fault : Bool) : (s.passAndStop fault).hzc.orderly := by
  have hstart : s.nextChoice.hzc.orderly := h
  unfold State.passAndStop
  (repeat' split)
  · exact settle_orderly (takeStop_orderly (settle_orderly hstart) _)
  · exact settle_orderly (settle_orderly (takeStop_orderly hstart _))
  · exact settle_orderly h

theorem completeShift_orderly (h : s.hzc.orderly) : s.completeShift.hzc.orderly := by
  have hend : s.endCycle.windowEnd.hzc.orderly := windowEnd_orderly (by simpa using h)
  unfold State.completeShift
  dsimp only
  refine passAndStop_orderly ?_ _
  simp only [nextCycle_frame]
  refine handOn_orderly ?_ _ _
  exact hend

theorem noBus_orderly (h : s.hzc.orderly) (up un : Nat) : (s.noBus up un).hzc.orderly := by
  simp only [State.noBus, trigger_frame, startCycleIfDue_frame]
  split
  · exact windowEnd_orderly (abandonLocating_orderly (by simpa using h))
  · exact abandonLocating_orderly (by simpa using h)

theorem poleReading_orderly (h : s.hzc.orderly) (up un : Nat) : (s.poleReading up un).hzc.orderly := by
  unfold State.poleReading
  (repeat' split)
  · exact noBus_orderly h _ _
  · exact h
  · exact h

theorem advanceClock_orderly (h : s.hzc.orderly) : s.advanceClock.hzc.orderly := by
  unfold State.advanceClock
  dsimp only
  (repeat' split)
  · exact debitAllowance_orderly (by simpa using h)
  · simpa using h
  · exact debitAllowance_orderly h
  · exact h

theorem secondExpires_orderly (h : s.hzc.orderly) (e : PhaseEnergy) : (s.secondExpires e).hzc.orderly := by
  unfold State.secondExpires
  dsimp only
  (repeat' split)
  · exact advanceClock_orderly h
  · exact h
  · exact advanceClock_orderly h
  · exact h

/-! ### Power states -/

theorem portReset_orderly (h : s.hzc.orderly) (c : ResetCauses) : (s.portReset c).hzc.orderly := by
  simp only [State.portReset, clearWork_hzc, suspendAtReset_frame, modPwc_hzc, modRqp_hzc, modAtn_hzc,
    modMtr_hzc, modStu_hzc]
  exact mapZones_orderly (by simpa using h) fun _ => stopped_keepsOrder

theorem enterDormant_orderly (h : s.hzc.orderly) : s.enterDormant.hzc.orderly := by
  have hended : (s.poleConditionsEnd.abandonLocating.modImon Insulation.sleep).hzc.orderly :=
    abandonLocating_orderly (by simpa using h)
  simp only [State.enterDormant, clearWork_hzc, modRqp_hzc, setPower_frame, stopMeter_frame, modAlc_hzc]
  refine mapZones_orderly ?_ fun _ => sleep_keepsOrder
  split
  · exact zonesInLine_orderly hended
  · exact hended

theorem takePark_orderly (h : s.hzc.orderly) (mode : ParkMode) (n : Nat) :
    (s.takePark mode n).hzc.orderly := by
  unfold State.takePark State.enterMode
  (repeat' split)
  · exact h
  · exact settle_orderly (by simpa [State.enterKeepWarm] using h)
  · exact enterDormant_orderly h
  · exact h

theorem endResumption_orderly (h : s.hzc.orderly) (f : FrontEnd) (t : ZoneTemps) :
    (s.endResumption f t).hzc.orderly := by
  have hawake : (s.modPwc fun p => { p with resuming := false }).hzc.orderly := h
  simp only [State.endResumption, startPasses_frame, startCycle_frame, startMeter_frame]
  exact readZones_orderly (mapZones_orderly hawake fun _ => wake_keepsOrder) t

theorem endStarting_orderly (h : s.hzc.orderly) (ohms : Nat) (f : FrontEnd) (t : ZoneTemps) :
    (s.endStarting ohms f t).hzc.orderly := by
  simp only [State.endStarting, startPasses_frame, startCycle_frame]
  exact readZones_orderly (by simpa using h) t

theorem reset_orderly : Heater.reset.orderly :=
  (heater_orderly_iff _).1 (by decide)

/-! ### The inlet's events, which leave HZC -/

theorem readProximity_hzc (ohms : Nat) (f : FrontEnd) (s : State) : (s.readProximity ohms f).hzc = s.hzc := by
  simp only [State.readProximity]
  split
  · unfold State.bandAccepted
    split
    · unfold State.plugOrWake
      split <;> simp [State.plug]
    · simp [State.unplug]
    · simp [State.classChange]
    · rfl
  · rfl

theorem pilotWindow_hzc (w : PilotWindow) (s : State) : (s.pilotWindow w).hzc = s.hzc := by
  rw [pilotWindow_eq]
  split
  · rfl
  · rcases offerChange_cases s.inl.offerValid (s.inl.takeWindow w).offerValid
      (s.modInl (Inlet.takeWindow w)) with ⟨-, hsame⟩ | henter
    · rw [hsame]; rfl
    · rw [henter]; rfl

/-! ### The requests -/

/-- A request keeps the order of the zones where its owner does. -/
theorem request_orderly {codes : Byte → Bool} {owner : List Byte → State → State × Reply}
    (h : Keeps (fun t => t.hzc.orderly) owner) (hs : s.hzc.orderly) :
    (s.runRequest codes owner).hzc.orderly :=
  request_keeps (P := fun t => t.hzc.orderly) (fun _ _ ht => ht) h hs

theorem report_request_orderly {codes : Byte → Bool} (f : State → List Byte) (hs : s.hzc.orderly) :
    (s.runRequest codes (noPayload (report f))).hzc.orderly :=
  request_orderly (keeps_noPayload (keeps_report f)) hs

theorem heartbeat_hzc (s : State) : s.heartbeat.hzc = s.hzc := by
  unfold State.heartbeat
  (repeat' split) <;> rfl

theorem ownConfigure_orderly : Keeps (fun t => t.hzc.orderly) ownConfigure := by
  intro p s h
  unfold ownConfigure
  (repeat' split)
  · exact h
  · exact settle_orderly h
  · exact h

theorem ownPark_orderly : Keeps (fun t => t.hzc.orderly) ownPark := by
  intro p s h
  unfold ownPark
  (repeat' split)
  · exact h
  · exact h
  · exact takePark_orderly h _ _
  · exact h

theorem ownSetChargeLimits_orderly : Keeps (fun t => t.hzc.orderly) ownSetChargeLimits := by
  intro p s h
  unfold ownSetChargeLimits
  split
  · exact settle_orderly h
  · exact h

theorem ownReportBattery_orderly : Keeps (fun t => t.hzc.orderly) ownReportBattery := by
  intro p s h
  unfold ownReportBattery
  split
  · exact settle_orderly h
  · exact h

theorem ownWriteCurve_orderly : Keeps (fun t => t.hzc.orderly) ownWriteCurve := by
  intro p s h
  unfold ownWriteCurve
  (repeat' split)
  · exact h
  · exact h
  · exact h
  · exact settle_orderly h
  · exact h

/-- R62: the clamp keeps P_max at 100 W or more. -/
theorem ownWriteZone_orderly : Keeps (fun t => t.hzc.orderly) ownWriteZone := by
  intro p s h
  have hpMax : 1 ≤ clampNat 100 6000 (field p 6 2) := by
    unfold clampNat
    omega
  unfold ownWriteZone
  (repeat' split)
  · exact h
  · exact h
  · exact settle_orderly (writeZone_orderly h hpMax _ _ _ _ _)
  · exact h

theorem ownReadZone_orderly : Keeps (fun t => t.hzc.orderly) ownReadZone := by
  intro p s h
  unfold ownReadZone
  (repeat' split) <;> exact h

/-- R54: a zone that is reset is Off. -/
theorem resetZone_orderly (h : s.hzc.orderly) (i : Fin 6) : (s.resetZone i).hzc.orderly := by
  have hreset : (s.modZone i fun z => { z.toOff with enabled := false }).hzc.orderly :=
    modZone_orderly h (by exact fun z hz => ⟨orderly_of_dark hz.1.pMax_pos rfl rfl rfl rfl rfl, nofun⟩) i
  unfold State.resetZone
  dsimp only
  split
  · simpa using hreset
  · exact hreset

theorem ownResetZone_orderly : Keeps (fun t => t.hzc.orderly) ownResetZone := by
  intro p s h
  unfold ownResetZone
  (repeat' split)
  · exact h
  · exact h
  · exact h
  · exact settle_orderly (resetZone_orderly h _)
  · exact h

theorem ownSetAllowance_orderly : Keeps (fun t => t.hzc.orderly) ownSetAllowance := by
  intro p s h
  unfold ownSetAllowance
  split
  · refine settle_orderly ?_
    unfold State.setAllowance
    dsimp only
    (repeat' split) <;> exact h
  · exact h

theorem ownSetThresholds_orderly : Keeps (fun t => t.hzc.orderly) ownSetThresholds := by
  intro p s h
  unfold ownSetThresholds
  dsimp only
  (repeat' split) <;> exact h

theorem ownReadFault_orderly (n : Nat) (s : State) (h : s.hzc.orderly) : (ownReadFault n s).1.hzc.orderly := by
  unfold ownReadFault
  split <;> exact h

theorem ownAcknowledgeFault_orderly (n : Nat) (s : State) (h : s.hzc.orderly) :
    (ownAcknowledgeFault n s).1.hzc.orderly := by
  unfold ownAcknowledgeFault
  (repeat' split) <;> exact h

theorem ownRetireFault_orderly (n : Nat) (s : State) (h : s.hzc.orderly) :
    (ownRetireFault n s).1.hzc.orderly := by
  unfold ownRetireFault
  (repeat' split) <;> exact h

/-- R110: a Resume writes the zones with the P_max that they have. -/
theorem restore_orderly (h : s.hzc.orderly) (c : Context) : (s.restore c).hzc.orderly := by
  have hzones : ((fins 6).foldl (State.restoreZone c) s).hzc.orderly := by
    induction fins 6 generalizing s with
    | nil => exact h
    | cons i rest ih => exact ih (writeZone_orderly h (h.1 i).1.2.1 i _ _ _ _)
  exact hzones

theorem ownResume_orderly (s : State) (h : s.hzc.orderly) : (ownResume s).1.hzc.orderly := by
  have hreactivate : ∀ (x : Option Handle) (u : State), (u.reactivate x).hzc = u.hzc := by
    intro x u
    unfold State.reactivate
    (repeat' split) <;> simp
  unfold ownResume
  (repeat' split)
  · exact h
  · exact h
  next c _ _ =>
    refine settle_orderly ?_
    simp only [State.takeResume, trigger_frame, modStu_hzc, hreactivate]
    exact restore_orderly h c

theorem ownDiscardSnapshot_orderly (s : State) (h : s.hzc.orderly) : (ownDiscardSnapshot s).1.hzc.orderly := by
  unfold ownDiscardSnapshot
  split <;> exact h

theorem ownSetClock_orderly : Keeps (fun t => t.hzc.orderly) ownSetClock := by
  intro p s h
  unfold ownSetClock
  split <;> exact h

theorem ownWriteTariff_orderly : Keeps (fun t => t.hzc.orderly) ownWriteTariff := by
  intro p s h
  unfold ownWriteTariff
  dsimp only
  (repeat' split) <;> exact h

theorem ownReadTariff_orderly (n : Nat) (s : State) (h : s.hzc.orderly) : (ownReadTariff n s).1.hzc.orderly := by
  unfold ownReadTariff
  split <;> exact h

theorem ownOpenAccount_orderly : Keeps (fun t => t.hzc.orderly) ownOpenAccount := by
  intro p s h
  unfold ownOpenAccount
  (repeat' split) <;> exact h

theorem ownFindAccount_orderly : Keeps (fun t => t.hzc.orderly) ownFindAccount := by
  intro p s h
  unfold ownFindAccount
  (repeat' split) <;> exact h

theorem ownReadAccount_orderly (i : Fin 16) (a : Account) (p : List Byte) (s : State) (h : s.hzc.orderly) :
    (ownReadAccount i a p s).1.hzc.orderly := by
  unfold ownReadAccount
  (repeat' split) <;> exact h

theorem amendRefs_hzc {before after : Option (Fin 8)} {s t : State} (h : s.amendRefs before after = some t) :
    t.hzc = s.hzc := by
  unfold State.amendRefs at h
  (repeat' split at h) <;> cases h <;> simp

theorem amendTo_orderly (pending : Option (Fin 8)) (i : Fin 16) (a : Account) (p : List Byte) (s : State)
    (h : s.hzc.orderly) : (amendTo pending i a p s).1.hzc.orderly := by
  unfold amendTo
  split
  · exact h
  · split
    · exact h
    next u hrefs =>
      have hu : u.hzc.orderly := by rw [amendRefs_hzc hrefs]; exact h
      refine settle_orderly ?_
      split <;> simpa using hu

theorem ownAmendAccount_orderly (i : Fin 16) (a : Account) (p : List Byte) (s : State) (h : s.hzc.orderly) :
    (ownAmendAccount i a p s).1.hzc.orderly := by
  unfold ownAmendAccount
  (repeat' split)
  · exact h
  · exact amendTo_orderly _ _ _ _ _ h
  · exact amendTo_orderly _ _ _ _ _ h

theorem ownActivateAccount_orderly (i : Fin 16) (a : Account) (p : List Byte) (s : State) (h : s.hzc.orderly) :
    (ownActivateAccount i a p s).1.hzc.orderly := by
  unfold ownActivateAccount
  split
  · exact settle_orderly (by simpa using h)
  · exact h

theorem ownSuspendAccount_orderly (i : Fin 16) (a : Account) (p : List Byte) (s : State) (h : s.hzc.orderly) :
    (ownSuspendAccount i a p s).1.hzc.orderly := by
  unfold ownSuspendAccount
  split
  · exact settle_orderly (by simpa using h)
  · exact h

theorem ownCloseAccount_orderly (i : Fin 16) (a : Account) (p : List Byte) (s : State) (h : s.hzc.orderly) :
    (ownCloseAccount i a p s).1.hzc.orderly := by
  unfold ownCloseAccount
  split
  · exact h
  · refine settle_orderly ?_
    simp only [State.closeSlot]
    split <;> simpa using h

theorem ownRetireAccount_orderly (i : Fin 16) (a : Account) (p : List Byte) (s : State) (h : s.hzc.orderly) :
    (ownRetireAccount i a p s).1.hzc.orderly := by
  unfold ownRetireAccount
  split <;> exact h

theorem ownTakeAttention_orderly (s : State) (h : s.hzc.orderly) : (ownTakeAttention s).1.hzc.orderly := by
  unfold ownTakeAttention
  (repeat' split) <;> exact h

theorem ownReleaseAttention_orderly (s : State) (h : s.hzc.orderly) :
    (ownReleaseAttention s).1.hzc.orderly := by
  unfold ownReleaseAttention
  split <;> exact h

theorem ownSetAttentionSource_orderly : Keeps (fun t => t.hzc.orderly) ownSetAttentionSource := by
  intro p s h
  unfold ownSetAttentionSource
  (repeat' split) <;> exact h

end

/-! ### Every command -/

/-- O35 for one command: by the operations of its event, or by its owner. -/
theorem exec_orderly {c : Instr} {s t : State} (h : s.hzc.orderly) (ht : exec c s = .next t) :
    t.hzc.orderly := by
  cases c <;> cases ht
  case identify => exact report_request_orderly _ h
  case configure => exact request_orderly ownConfigure_orderly h
  case heartbeat =>
    exact request_orderly (keeps_noPayload fun s hs => settle_orderly (by rw [heartbeat_hzc]; exact hs)) h
  case restart => exact request_orderly (keeps_noPayload fun _ hs => portReset_orderly hs _) h
  case park => exact request_orderly ownPark_orderly h
  case readResetCauses => exact report_request_orderly _ h
  case clearResetCauses => exact request_orderly (keeps_noPayload fun _ hs => hs) h
  case readInlet => exact report_request_orderly _ h
  case setChargeLimits => exact request_orderly ownSetChargeLimits_orderly h
  case reportBattery => exact request_orderly ownReportBattery_orderly h
  case writeCurve => exact request_orderly ownWriteCurve_orderly h
  case readCurve => exact report_request_orderly _ h
  case readAllocation => exact request_orderly (keeps_oneByte fun _ _ hs => hs) h
  case writeZone => exact request_orderly ownWriteZone_orderly h
  case readZone => exact request_orderly ownReadZone_orderly h
  case resetZone => exact request_orderly ownResetZone_orderly h
  case setAllowance => exact request_orderly ownSetAllowance_orderly h
  case readAllowance => exact report_request_orderly _ h
  case readInsulation => exact report_request_orderly _ h
  case setThresholds => exact request_orderly ownSetThresholds_orderly h
  case readFault => exact request_orderly (keeps_oneByte ownReadFault_orderly) h
  case acknowledgeFault => exact request_orderly (keeps_oneByte ownAcknowledgeFault_orderly) h
  case retireFault => exact request_orderly (keeps_oneByte ownRetireFault_orderly) h
  case stop => exact request_orderly (keeps_noPayload fun _ hs => settle_orderly (takeStop_orderly hs _)) h
  case resume => exact request_orderly (keeps_noPayload ownResume_orderly) h
  case discardSnapshot => exact request_orderly (keeps_noPayload ownDiscardSnapshot_orderly) h
  case readSnapshot => exact report_request_orderly _ h
  case readMeter => exact request_orderly (keeps_oneByte fun _ _ hs => hs) h
  case clearUnbilled => exact request_orderly (keeps_noPayload fun _ hs => hs) h
  case setClock => exact request_orderly ownSetClock_orderly h
  case readClock => exact report_request_orderly _ h
  case writeTariff => exact request_orderly ownWriteTariff_orderly h
  case readTariff => exact request_orderly (keeps_oneByte ownReadTariff_orderly) h
  case openAccount => exact request_orderly ownOpenAccount_orderly h
  case findAccount => exact request_orderly ownFindAccount_orderly h
  case listAccounts => exact report_request_orderly _ h
  case readAccount => exact request_orderly (keeps_withHandle ownReadAccount_orderly) h
  case amendAccount => exact request_orderly (keeps_withHandle ownAmendAccount_orderly) h
  case activateAccount => exact request_orderly (keeps_withHandle ownActivateAccount_orderly) h
  case suspendAccount => exact request_orderly (keeps_withHandle ownSuspendAccount_orderly) h
  case closeAccount => exact request_orderly (keeps_withHandle ownCloseAccount_orderly) h
  case retireAccount => exact request_orderly (keeps_withHandle ownRetireAccount_orderly) h
  case takeAttention => exact request_orderly (keeps_noPayload ownTakeAttention_orderly) h
  case releaseAttention => exact request_orderly (keeps_noPayload ownReleaseAttention_orderly) h
  case setAttentionSource => exact request_orderly ownSetAttentionSource_orderly h
  case unknownRequest => exact request_orderly (fun _ _ hs => hs) h
  case transactionStart => split <;> exact h
  case transactionEnd => split <;> exact h
  case proximityReading ohms f =>
    split
    · exact settle_orderly (by rw [readProximity_hzc]; exact h)
    · exact h
  case pilotWindowEnd w =>
    split
    · exact settle_orderly (by rw [pilotWindow_hzc]; exact h)
    · exact h
  case idleTimerExpiry | pausingTimerExpiry | periodicPass | batteryReportStale =>
    split
    · exact settle_orderly h
    · exact h
  case quickReading f =>
    split
    · exact settle_orderly (by simpa using h)
    · exact h
  case zoneSensorReading temps =>
    split
    · exact settle_orderly (readZones_orderly h temps)
    · exact h
  case clockAdvance e =>
    split
    · exact settle_orderly (secondExpires_orderly h e)
    · exact h
  case poleVoltageReading up un =>
    split
    · exact h
    · exact settle_orderly (poleReading_orderly h _ _)
  case cyclePeriodExpiry => split <;> simpa using h
  case baseSettleEnd => split <;> exact h
  case baseSampleEnd =>
    split
    · exact settle_orderly (completeBase_orderly h)
    · exact h
  case shiftSettleEnd => split <;> exact h
  case shiftSampleEnd =>
    split
    · exact completeShift_orderly h
    · exact h
  case supervisionExpiry =>
    split
    · exact settle_orderly h
    · exact h
  case wakeLineEdge e f =>
    split
    · exact settle_orderly (by simpa using h)
    · exact h
  case wakeTimerExpiry f =>
    split
    · exact settle_orderly (by simpa using h)
    · exact h
  case resumptionEnd f temps =>
    split
    · exact settle_orderly (endResumption_orderly h _ _)
    · exact h
  case startingEnd ohms f temps =>
    split
    · exact settle_orderly (endStarting_orderly h _ _ _)
    · exact h
  case supplyReset => exact reset_orderly
  case resetPin =>
    split
    · exact h
    · exact portReset_orderly h _
  case resetPinRelease => exact h

/-- Settles O35: one ms leaves the zones, and every command keeps their order. -/
theorem zonesStayInOrder : Obligations.ZonesStayInOrder := by
  intro s t h hstep
  rw [heater_orderly_iff] at h ⊢
  unfold step at hstep
  split at hstep
  · cases hstep
    rw [(tick_frame s).1]
    exact h
  next _ rest _ => exact exec_orderly (s := s.withPending rest) h hstep

end Sys2Proof.Machine
end

section
/-! What the passes of an event do to a zone's record (R50, R52), and the requests of the heater zones: O31 to O33. -/

namespace Sys2Proof.Machine

/-! ### A record through the passes of an event -/

/-- A record that no pass and no coming in line changes: Isolated, Faulted, or Off and disabled. -/
def Zone.Still (z : Zone) : Prop :=
  z.state = .isolated ∨ z.state = .faulted ∨ (z.state = .off ∧ z.enabled = false)

theorem drive_of_rest {z : Zone} (h : z.state.connected = false) (g : Nat) : z.drive g = z := by
  unfold Zone.drive
  split
  case h_1 hst | h_2 hst | h_3 hst => simp [hst, ZoneState.connected] at h
  all_goals rfl

theorem connected_of_still {z : Zone} (h : z.Still) : z.state.connected = false := by
  rcases h with h | h | ⟨h, -⟩ <;> rw [h] <;> rfl

theorem inLine_of_still {z : Zone} (h : z.Still) (live : Bool) : z.inLine live = z := by
  unfold Zone.inLine
  rcases h with h | h | ⟨h, hoff⟩
  · simp only [h]
  · simp only [h]
  · simp only [h, hoff, Bool.false_eq_true, if_false]

/-- R50, R49: what passes make of an enabled, connected record: its grant and duty, and Heating after Requested. -/
structure Zone.ServedAs (z y : Zone) : Prop where
  record : y = { z with state := y.state, grant := y.grant, duty := y.duty }
  state  : y.state = z.state ∨ (z.state = .requested ∧ y.state = .heating)

section

variable {y z : Zone}

theorem Zone.ServedAs.refl (z : Zone) : z.ServedAs z := ⟨rfl, .inl rfl⟩

theorem connected_of_servedAs (h : z.ServedAs y) (hz : z.state.connected = true) :
    y.state.connected = true := by
  rcases h.state with hst | ⟨-, hst⟩
  · rw [hst]; exact hz
  · rw [hst]; rfl

theorem drive_servedAs (h : z.ServedAs y) (g : Nat) : z.ServedAs (y.drive g) := by
  obtain ⟨hrecord, hstate⟩ := h
  unfold Zone.drive
  split
  next hst =>
    have hreq : z.state = .requested := by
      rcases hstate with hsame | ⟨hreq, -⟩
      · exact hsame.symm.trans hst
      · exact hreq
    refine ⟨by rw [hrecord], ?_⟩
    change (if 0 < g then ZoneState.heating else .requested) = z.state ∨ _
    split
    · exact .inr ⟨hreq, rfl⟩
    · exact .inl hreq.symm
  next => exact ⟨by rw [hrecord], hstate⟩
  next => exact ⟨by rw [hrecord], hstate⟩
  all_goals exact ⟨hrecord, hstate⟩

theorem inLine_of_enabled (hon : z.enabled = true) (hst : z.state.connected = true) (live : Bool) :
    z.inLine live = z := by
  unfold Zone.inLine
  split
  case h_1 | h_2 | h_3 => exact if_pos hon
  case h_4 hoff => simp [hoff, ZoneState.connected] at hst
  all_goals rfl

end

section

variable {s : State} {i : Fin 6} {P : Zone → Prop}

/-- What drives and comings in line keep of a record, the passes of an event keep. -/
theorem survives_zone (i : Fin 6) (hdrive : ∀ g z, P z → P (z.drive g))
    (hinLine : ∀ live z, P z → P (z.inLine live)) : Survives fun t => P (t.zone i) where
  pass t h := by
    rw [pass_zone]
    split
    · exact h
    · exact hdrive _ _ h
  inLine t h := by
    rcases zonesInLine_zone t i with hsame | hline
    · rw [hsame]; exact h
    · rw [hline]; exact hinLine _ _ h
  work _ _ h := h
  choice _ h := h
  unheld _ h := h
  restart _ _ h := h

theorem settle_zone_of_still (h : (s.zone i).Still) : s.settle.zone i = s.zone i :=
  settle_survives (survives_zone (P := fun z => z = s.zone i) i
    (by rintro g z rfl; exact drive_of_rest (connected_of_still h) g)
    (by rintro live z rfl; exact inLine_of_still h live)) rfl

theorem settle_zone_of_enabled (hon : (s.zone i).enabled = true) (hst : (s.zone i).state.connected = true) :
    (s.zone i).ServedAs (s.settle.zone i) :=
  settle_survives (survives_zone (P := (s.zone i).ServedAs) i (fun g _ h => drive_servedAs h g)
    (fun live z h => by
      rw [inLine_of_enabled (by rw [h.record]; exact hon) (connected_of_servedAs h hst)]
      exact h)) (.refl _)

/-! ### A Sample phase that lasts through an event -/

/-- The contactors as they stand, and which zones are connected. -/
def State.contactors (s : State) (i : Fin 6) : Bool × Bool := ((s.zone i).contactor, (s.zone i).state.connected)

theorem drive_contactor (g : Nat) (z : Zone) :
    (z.drive g).contactor = z.contactor ∧ (z.drive g).state.connected = z.state.connected := by
  unfold Zone.drive
  split
  next hst =>
    refine ⟨rfl, ?_⟩
    rw [hst]
    change ZoneState.connected (if 0 < g then .heating else .requested) = _
    split <;> rfl
  all_goals exact ⟨rfl, rfl⟩

theorem pass_contactors (s : State) : s.pass.contactors = s.contactors := by
  funext i
  unfold State.contactors
  rw [pass_zone]
  split
  · rfl
  · rw [(drive_contactor _ _).1, (drive_contactor _ _).2]

/-- R73: a discard ends the Sample phase, so where it still lasts the reports brought none. -/
theorem takeReports_of_open (h : s.takeReports.sampleOpen = true) :
    s.takeReports = s ∨ ∃ f, s.takeReports = s.modWork f := by
  unfold State.takeReports at h ⊢
  split at h
  next hreport =>
    rw [if_pos hreport]
    cases hopen : s.sampleOpen with
    | false => exact .inr ⟨_, if_neg (by rw [modWork_sampleOpen, hopen]; exact Bool.false_ne_true)⟩
    | true =>
      have himon := discardSample_imon (s.modWork fun w => { w with opening := false, changed := false })
      rw [modWork_sampleOpen, if_pos hopen] at himon
      rw [sampleOpen_of_discarded himon] at h
      cases h
  next hreport => exact .inl (if_neg hreport)

/-- While a Sample phase lasts through an event, no contactor moves (R51). -/
theorem passes_contactors_of_open : (n : Nat) → {s : State} → (State.passes n s).sampleOpen = true →
    (State.passes n s).contactors = s.contactors
  | 0, _, _ => rfl
  | n + 1, s, h => by
    have hreports : s.takeReports.contactors = s.contactors := by
      have hopen : s.takeReports.sampleOpen = true := by
        by_contra hclosed
        rw [Bool.not_eq_true] at hclosed
        have hend : (State.passes (n + 1) s).sampleOpen = false := by
          simp only [State.passes]
          split
          · have hpass : s.takeReports.pass.sampleOpen = false := by
              rw [sampleOpen_congr (s := s.takeReports) (by simp)]
              exact hclosed
            rw [sampleOpen_congr (passes_imon_of_closed n hpass)]
            exact hpass
          · exact hclosed
        rw [hend] at h
        cases h
      rcases takeReports_of_open hopen with hsame | ⟨f, hwork⟩
      · rw [hsame]
      · rw [hwork]; rfl
    simp only [State.passes] at h ⊢
    split at h
    next hmore =>
      rw [if_pos hmore]
      exact (passes_contactors_of_open n h).trans ((pass_contactors _).trans hreports)
    next hdone =>
      rw [if_neg hdone]
      exact hreports

theorem settle_contactors_of_open (h : s.settle.sampleOpen = true) : s.settle.contactors = s.contactors :=
  passes_contactors_of_open _ h

end

end Sys2Proof.Machine
end

section
/-! The requests of the heater zones: O31, O32, O33. -/

namespace Sys2Proof.Machine

theorem zoneOf_succ (i : Fin 6) : zoneOf (i.val + 1) = some i := by
  simp [zoneOf, Nat.succ_le_of_lt i.isLt]

section

variable {s : State} {i : Fin 6} {z : Zone} {live window enabled : Bool} {target : Int}
  {gain pMax priority : Nat}

/-! ### Write Zone (R62, R58, R51) -/

/-- R62: the enabled flag and the settings of a zone after a write; the temperature is not the host's. -/
theorem write_settings (z : Zone) : (z.write live window enabled target gain pMax priority).settings =
    (enabled, target, gain, pMax, priority, z.temp) := by
  by_cases h1 : z.state = .isolated
  · rw [write_of_isolated h1]; rfl
  by_cases h2 : z.state = .faulted
  · rw [write_of_faulted h2]; rfl
  rw [write_of_free h1 h2]
  split
  · rfl
  · exact inLine_settings live _

theorem free_of_answering (h : z.state = .off ∨ z.state.connected = true) :
    z.state ≠ .isolated ∧ z.state ≠ .faulted := by
  constructor <;> intro hst <;> simp [hst, ZoneState.connected] at h

/-- R62: outside a Sample phase a disabled zone goes Off, where no pass moves it. -/
theorem write_of_disabled (hclosed : window = false) (hoff : enabled = false)
    (h : z.state = .off ∨ z.state.connected = true) :
    (z.write live window enabled target gain pMax priority).state = .off := by
  obtain ⟨h1, h2⟩ := free_of_answering h
  rw [write_of_free h1 h2, hclosed, hoff]
  change ((z.rewritten false target gain pMax priority).inLine live).state = .off
  unfold Zone.inLine
  split
  case h_4 hst => exact hst
  case h_5 hst => exact absurd hst h1
  case h_6 hst => exact absurd hst h2
  all_goals rfl

/-- R45, R52: a zone enabled from Off is connected, with the contactor that HZC gives it. -/
theorem inLine_of_off (hoff : z.state = .off) (hon : z.enabled = true) :
    z.inLine live = z.connect live .requested := by
  unfold Zone.inLine
  simp only [hoff, hon, if_true]

/-- R62: outside a Sample phase an enabled zone is connected; one that was Off takes its contactor from HZC. -/
theorem write_of_enabled (hclosed : window = false) (hon : enabled = true)
    (h : z.state = .off ∨ z.state.connected = true) :
    (z.write live window enabled target gain pMax priority).state.connected = true ∧
    (z.state = .off → (z.write live window enabled target gain pMax priority).contactor = live) := by
  obtain ⟨h1, h2⟩ := free_of_answering h
  rw [write_of_free h1 h2, hclosed, if_neg Bool.false_ne_true]
  rcases h with hoff | hst
  · rw [inLine_of_off (z := z.rewritten enabled target gain pMax priority) hoff hon]
    exact ⟨rfl, fun _ => rfl⟩
  · rw [inLine_of_enabled (z := z.rewritten enabled target gain pMax priority) hon hst]
    exact ⟨hst, fun hoff => by simp [hoff, ZoneState.connected] at hst⟩

/-- R51: inside a Sample phase a write moves no contactor and no state. -/
theorem write_of_window (z : Zone) :
    (z.write live true enabled target gain pMax priority).state = z.state ∧
    (z.write live true enabled target gain pMax priority).contactor = z.contactor := by
  by_cases h1 : z.state = .isolated
  · rw [write_of_isolated h1]; exact ⟨rfl, rfl⟩
  by_cases h2 : z.state = .faulted
  · rw [write_of_faulted h2]; exact ⟨rfl, rfl⟩
  rw [write_of_free h1 h2]
  exact ⟨rfl, rfl⟩

/-- The record that the payload of a Write Zone makes of a zone. -/
def Zone.writtenBy (p : List Byte) (live window : Bool) (z : Zone) : Zone :=
  z.write live window (fieldFlag p 1) (clampInt (-200) 400 (fieldInt p 2 2)) (clampNat 1 200 (field p 4 2))
    (clampNat 100 6000 (field p 6 2)) (min 7 (field p 8 1))

theorem takeWriteZone_zone (p : List Byte) (s : State) (i j : Fin 6) : (s.takeWriteZone i p).zone j =
    if j = i then (s.zone j).writtenBy p s.blocksRun s.sampleOpen else s.zone j :=
  zone_modZone i j _ s

theorem takeWriteZone_self (p : List Byte) (s : State) (i : Fin 6) :
    (s.takeWriteZone i p).zone i = (s.zone i).writtenBy p s.blocksRun s.sampleOpen := by
  rw [takeWriteZone_zone, if_pos rfl]

theorem takeWriteZone_settings (p : List Byte) (s : State) (i : Fin 6) :
    ((s.takeWriteZone i p).settle.zone i).settings = (fieldFlag p 1, clampInt (-200) 400 (fieldInt p 2 2),
      clampNat 1 200 (field p 4 2), clampNat 100 6000 (field p 6 2), min 7 (field p 8 1), (s.zone i).temp) := by
  rw [settle_zone_settings, takeWriteZone_self]
  exact write_settings _

theorem takeWriteZone_other {p : List Byte} {j : Fin 6} (hj : j ≠ i) :
    ((s.takeWriteZone i p).settle.zone j).settings = (s.zone j).settings := by
  rw [settle_zone_settings, takeWriteZone_zone, if_neg hj]

theorem writtenBy_enabled (p : List Byte) (live window : Bool) (z : Zone) :
    (z.writtenBy p live window).enabled = fieldFlag p 1 :=
  congrArg Prod.fst (write_settings (live := live) (window := window) z)

/-- R58, R62: an Isolated zone, a Faulted zone, and outside a Sample phase a disabled one, stand as written. -/
theorem takeWriteZone_still {p : List Byte} (h : (s.zone i).state = .isolated ∨ (s.zone i).state = .faulted ∨
      (s.sampleOpen = false ∧ ((s.zone i).state = .off ∨ (s.zone i).state.connected = true) ∧ field p 1 1 = 0)) :
    (s.takeWriteZone i p).settle.zone i = (s.zone i).writtenBy p s.blocksRun s.sampleOpen := by
  have hstill : ((s.zone i).writtenBy p s.blocksRun s.sampleOpen).Still := by
    rcases h with hiso | hfault | ⟨hclosed, hfree, hflag⟩
    · exact .inl (by rw [Zone.writtenBy, write_of_isolated hiso]; exact hiso)
    · exact .inr (.inl (by rw [Zone.writtenBy, write_of_faulted hfault]; exact hfault))
    · have hoff : fieldFlag p 1 = false := decide_eq_false (not_not.2 hflag)
      exact .inr (.inr ⟨write_of_disabled hclosed hoff hfree, (writtenBy_enabled ..).trans hoff⟩)
  rw [← takeWriteZone_self] at hstill ⊢
  exact settle_zone_of_still hstill

/-- R62: outside a Sample phase an enabled zone is connected after the request, and served from there. -/
theorem takeWriteZone_served {p : List Byte} (hclosed : s.sampleOpen = false)
    (hfree : (s.zone i).state = .off ∨ (s.zone i).state.connected = true) (hflag : field p 1 1 ≠ 0) :
    ((s.takeWriteZone i p).settle.zone i).state.connected = true ∧
    ((s.zone i).state = .off → ((s.takeWriteZone i p).settle.zone i).contactor = s.blocksRun) := by
  have hon : fieldFlag p 1 = true := decide_eq_true hflag
  have hself := takeWriteZone_self p s i
  obtain ⟨hconn, hcontactor⟩ : ((s.takeWriteZone i p).zone i).state.connected = true ∧
      ((s.zone i).state = .off → ((s.takeWriteZone i p).zone i).contactor = s.blocksRun) := by
    rw [hself]
    exact write_of_enabled hclosed hon hfree
  have hserved := settle_zone_of_enabled (by rw [hself, writtenBy_enabled, hon]) hconn
  refine ⟨connected_of_servedAs hserved hconn, fun hoff => ?_⟩
  rw [hserved.record]
  exact hcontactor hoff

/-- R62: an accepted Write Zone writes its zone and runs its passes, and its response is the zone's image. -/
theorem ownWriteZone_accepts {p : List Byte} (hlen : p.length = 9) (hzone : field p 0 1 = i.val + 1)
    (s : State) : ownWriteZone p s =
      ((s.takeWriteZone i p).settle, ⟨.ok, zoneImage i (s.takeWriteZone i p).settle⟩) := by
  unfold ownWriteZone
  rw [if_neg (by omega), hzone, zoneOf_succ]
  exact if_pos hlen

/-- R51: no contactor moves at a Write Zone through which a Sample phase lasts. -/
theorem takeWriteZone_contactors {p : List Byte} (hopen : s.sampleOpen = true)
    (hlasts : (s.takeWriteZone i p).settle.sampleOpen = true) :
    (s.takeWriteZone i p).settle.contactors = s.contactors := by
  rw [settle_contactors_of_open hlasts]
  funext j
  unfold State.contactors
  rw [takeWriteZone_zone, hopen]
  split
  · rw [Zone.writtenBy, (write_of_window _).1, (write_of_window _).2]
  · rfl

end

/-- Settles O31: the record that the request writes, and what the passes of the request leave of it. -/
theorem writeZoneStoresTheSettings : Obligations.WriteZoneStoresTheSettings := by
  intro s p i hserves hlen hzone
  have hset := takeWriteZone_settings p s i
  simp only [Zone.settings, Prod.mk.injEq] at hset
  obtain ⟨henabled, htarget, hgain, hpMax, hpriority, htemp⟩ := hset
  refine ⟨_, next_of_serves hserves (ownWriteZone_accepts hlen hzone s), henabled, htarget, hgain, hpMax,
    hpriority, fun j => ?_, fun j hj => ?_, fun hclosed hfree => ⟨fun hflag => ?_, fun hflag => ?_⟩,
    fun hclosed hoff hflag => ?_, fun hopen hlasts j => ?_, fun hst => ?_, fun hst => ?_, ?_, ?_⟩
  · by_cases hj : j = i
    · rw [hj]; exact htemp
    · have hother := takeWriteZone_other (s := s) (p := p) hj
      simp only [Zone.settings, Prod.mk.injEq] at hother
      obtain ⟨-, -, -, -, -, hother⟩ := hother
      exact hother
  · have hother := takeWriteZone_other (s := s) (p := p) hj
    simp only [Zone.settings, Prod.mk.injEq] at hother
    obtain ⟨h1, h2, h3, h4, h5, -⟩ := hother
    exact ⟨h1, h2, h3, h4, h5⟩
  · refine (congrArg Zone.state (takeWriteZone_still (.inr (.inr ⟨hclosed, hfree, hflag⟩)))).trans ?_
    exact write_of_disabled hclosed (decide_eq_false (not_not.2 hflag)) hfree
  · exact (takeWriteZone_served hclosed hfree hflag).1
  · exact (takeWriteZone_served hclosed (.inl hoff) hflag).2 hoff
  · exact Prod.mk.inj (congrFun (takeWriteZone_contactors hopen hlasts) j)
  · have hrecord : (s.takeWriteZone i p).settle.zone i = _ := takeWriteZone_still (.inl hst)
    rw [Zone.writtenBy, write_of_isolated hst] at hrecord
    refine ⟨(congrArg Zone.state hrecord).trans hst, (congrArg Zone.disableAfter hrecord).trans ?_⟩
    simp [fieldFlag]
  · have hrecord : (s.takeWriteZone i p).settle.zone i = _ := takeWriteZone_still (.inr (.inl hst))
    rw [Zone.writtenBy, write_of_faulted hst] at hrecord
    have hreason := congrArg Zone.reason hrecord
    exact ⟨(congrArg Zone.state hrecord).trans hst, hreason⟩
  · simp [State.takeWriteZone, zoneImage, State.zone, State.answer]
  · simp [State.takeWriteZone]

end Sys2Proof.Machine
end

section
/-! Reset Zone (R54, R90) and Set Allowance (R61): O32 and O33. -/

namespace Sys2Proof.Machine

/-! ### The fault table (R85, R90) -/

/-- R85: two records of one origin stand in one slot. -/
theorem slot_of_origin {m : Insulation} (h : m.oneRecordEach = true) {k l : Fin 8} {x y : FaultRec}
    (hx : m.faults.get k = some x) (hy : m.faults.get l = some y) (heq : x.origin = y.origin) : k = l := by
  have hpair := List.pairwise_filterMap.1 (of_decide_eq_true h)
  rw [List.pairwise_iff_getElem] at hpair
  have key : ∀ (a b : Fin 8) (u v : FaultRec), m.faults.get a = some u → m.faults.get b = some v →
      u.origin = v.origin → ¬ a < b := fun a b u v hu hv huv hab =>
    hpair a b (by rw [m.faults.size]; exact a.isLt) (by rw [m.faults.size]; exact b.isLt) hab u.origin
      (congrArg (Option.map FaultRec.origin) hu) v.origin (congrArg (Option.map FaultRec.origin) hv) huv
  exact le_antisymm (not_lt.1 (key l k y x hy hx heq.symm)) (not_lt.1 (key k l x y hx hy heq))

section

variable {s : State}

/-- R90: the record of an origin loses its condition, and no other record changes. -/
theorem conditionEnds_faults (h : s.imon.oneRecordEach = true) (o : Origin) (k : Fin 8) :
    (s.conditionEnds o).imon.faults.get k =
      (s.imon.faults.get k).map fun r => if r.origin = o then r.disappear else r := by
  unfold State.conditionEnds
  cases hfound : s.imon.recordOf o with
  | none =>
    have hnone := Table.find_eq_none.1 hfound k
    cases hk : s.imon.faults.get k with
    | none => rfl
    | some r =>
      have hr : r.origin ≠ o := by simpa [hk] using hnone
      simp [hr]
  | some i =>
    have hi := Table.find_some hfound
    cases hrec : s.imon.faults.get i with
    | none => simp [hrec] at hi
    | some x =>
      have hx : x.origin = o := by simpa [hrec] using hi
      simp only [State.modFault, modImon_imon, Table.get_modify]
      cases hk : s.imon.faults.get k with
      | none => simp
      | some r =>
        by_cases hki : k = i
        · subst hki
          cases hk.symm.trans hrec
          simp [hx]
        · have hr : r.origin ≠ o := fun hr => hki (slot_of_origin h hk hrec (hr.trans hx.symm))
          simp [hki, hr]

/-- No pass moves a fault record or the locating record. -/
theorem settle_records (s : State) :
    s.settle.imon.faults = s.imon.faults ∧ s.settle.imon.loc = s.imon.loc := by
  have h := settle_imon s
  simp only [Insulation.results, Prod.mk.injEq] at h
  simp only [h, and_self]

/-! ### Reset Zone (R54, R90) -/

theorem raised_iff (v : Severity) : v.raised = true ↔ v = .warning ∨ v = .fault := by
  cases v <;> simp [Severity.raised]

theorem conditionPresent_iff (z : Zone) (s : State) : s.conditionPresent z = true ↔
    z.temp < -450 ∨ 900 < z.temp ∨ 600 ≤ z.temp ∨
      (z.reason = some .insulation ∧ (s.imon.pos.severity = .warning ∨ s.imon.pos.severity = .fault ∨
        s.imon.neg.severity = .warning ∨ s.imon.neg.severity = .fault)) := by
  simp only [State.conditionPresent, Bool.or_eq_true, Bool.and_eq_true, decide_eq_true_eq, raised_iff, or_assoc]
  rfl

variable {p : List Byte} {i : Fin 6}

theorem ownResetZone_refuses (hlen : p.length = 1) (hzone : field p 0 1 = i.val + 1)
    (h : (s.zone i).state ≠ .faulted ∨ s.conditionPresent (s.zone i) = true) :
    ownResetZone p s = (s, ⟨.state, []⟩) := by
  unfold ownResetZone
  rw [if_pos hlen, hzone, zoneOf_succ]
  dsimp only
  by_cases hst : (s.zone i).state = .faulted
  · rw [if_neg (not_not.2 hst), if_pos (h.resolve_left (not_not.2 hst))]
    rfl
  · exact if_pos hst

theorem ownResetZone_accepts (hlen : p.length = 1) (hzone : field p 0 1 = i.val + 1)
    (hst : (s.zone i).state = .faulted) (hgone : s.conditionPresent (s.zone i) = false) :
    ownResetZone p s = ((s.resetZone i).settle,
      ⟨.ok, be 1 (i.val + 1) ++ be 1 ((s.resetZone i).settle.zone i).state.code⟩) := by
  unfold ownResetZone
  rw [if_pos hlen, hzone, zoneOf_succ]
  dsimp only
  rw [if_neg (not_not.2 hst), hgone]
  rfl

/-- R54: a zone after an accepted Reset Zone. -/
def Zone.cleared (z : Zone) : Zone := { z.toOff with enabled := false }

theorem resetZone_zone (s : State) (i j : Fin 6) :
    (s.resetZone i).zone j = if j = i then (s.zone j).cleared else s.zone j := by
  have hzone : (s.resetZone i).hzc = (s.modZone i Zone.cleared).hzc := by
    unfold State.resetZone
    dsimp only
    split
    · simp only [conditionEnds_frame, trigger_frame]; rfl
    · rfl
  unfold State.zone
  rw [hzone]
  exact zone_modZone i j _ s

theorem resetZone_imon (s : State) (i : Fin 6) : (s.resetZone i).imon =
    if (s.zone i).reason = some .insulation then (s.conditionEnds (.zone i)).imon else s.imon := by
  unfold State.resetZone
  dsimp only
  split
  · unfold State.conditionEnds
    change (match s.imon.recordOf (.zone i) with | none => _ | some k => _ : State).imon = _
    cases s.imon.recordOf (.zone i) <;> rfl
  · rfl

theorem resetZone_frame (s : State) (i : Fin 6) : (s.resetZone i).rqp = s.rqp ∧ (s.resetZone i).tck = s.tck ∧
    (s.resetZone i).mtr = s.mtr ∧ (s.resetZone i).stu = s.stu ∧ (s.resetZone i).pwc = s.pwc := by
  unfold State.resetZone
  dsimp only
  split <;> simp

/-- R90: the state that a record leaves for when its condition disappears. -/
theorem disappear_eq (r : FaultRec) : r.disappear =
    { r with state := if r.state = .active then .cleared
               else if r.state = .acknowledged then .resolved else r.state } := by
  unfold FaultRec.disappear
  cases r.state <;> rfl

theorem resetZone_faults (h : s.imon.oneRecordEach = true) (i : Fin 6) (k : Fin 8) :
    (s.resetZone i).imon.faults.get k = (s.imon.faults.get k).map fun r =>
      if (s.zone i).reason = some .insulation ∧ r.origin = .zone i then
        { r with state := if r.state = .active then .cleared
                   else if r.state = .acknowledged then .resolved else r.state }
      else r := by
  rw [resetZone_imon]
  by_cases hreason : (s.zone i).reason = some .insulation
  · simp only [hreason, if_true, true_and, conditionEnds_faults h, disappear_eq]
  · simp only [hreason, if_false, false_and, Option.map_id']

end

/-- Settles O32: the refusals, and the zone, the other zones and the fault table after an accepted reset. -/
theorem resetZoneClearsAGoneFault : Obligations.ResetZoneClearsAGoneFault := by
  intro s p i hserves hlen hzone z present
  have hpresent : s.conditionPresent (s.zone i) = true ↔ present := conditionPresent_iff _ _
  refine ⟨fun h => ?_, fun hst hgone => ?_⟩
  · exact next_of_serves hserves (ownResetZone_refuses hlen hzone (h.imp_right hpresent.2))
  have hgone' : s.conditionPresent (s.zone i) = false := Bool.eq_false_iff.2 (mt hpresent.1 hgone)
  have hcleared : (s.resetZone i).settle.zone i = (s.zone i).cleared := by
    have hself : (s.resetZone i).zone i = (s.zone i).cleared := by rw [resetZone_zone, if_pos rfl]
    rw [settle_zone_of_still (by rw [hself]; exact .inr (.inr ⟨rfl, rfl⟩)), hself]
  have hother : ∀ j, j ≠ i → (s.resetZone i).zone j = s.zone j := fun j hj => by
    rw [resetZone_zone, if_neg hj]
  obtain ⟨hrqp, hframe⟩ := resetZone_frame s i
  refine ⟨_, next_of_serves hserves (ownResetZone_accepts hlen hzone hst hgone'), hcleared,
    fun j hj => ⟨?_, ?_, fun hfault => ?_⟩, fun hone k => ?_, ?_, ?_⟩
  · have hset := settle_zone_settings (s.resetZone i) j
    rw [hother j hj] at hset
    exact congrArg Prod.fst hset
  · have hset := settle_zone_settings (s.resetZone i) j
    rw [hother j hj] at hset
    exact congrArg (fun x => x.2.1) hset
  · have hstill := settle_zone_of_still (s := s.resetZone i) (i := j) (by
      rw [hother j hj]; exact .inr (.inl hfault))
    exact hstill.trans (hother j hj)
  · have hfaults := congrArg (fun x => x.get k) (settle_records (s.resetZone i)).1
    exact hfaults.trans (resetZone_faults hone i k)
  · rw [hcleared]
    simp only [State.answer, modRqp_rqp, settle_frame, hrqp]
    rfl
  · simpa using hframe

/-! ### Set Allowance (R61) -/

section

variable {s : State} {wh : Nat}

theorem setAllowance_hzc (wh : Nat) (s : State) :
    (s.setAllowance wh).hzc = { s.hzc with allowWh := wh, allowJ := 0 } := by
  unfold State.setAllowance
  dsimp only
  (repeat' split) <;> rfl

theorem setAllowance_frame (wh : Nat) (s : State) : (s.setAllowance wh).alc = s.alc ∧
    (s.setAllowance wh).rqp = s.rqp ∧ (s.setAllowance wh).tck = s.tck ∧ (s.setAllowance wh).mtr = s.mtr ∧
    (s.setAllowance wh).stu = s.stu ∧ (s.setAllowance wh).pwc = s.pwc := by
  unfold State.setAllowance
  dsimp only
  (repeat' split) <;> exact ⟨rfl, rfl, rfl, rfl, rfl, rfl⟩

/-- R61: a value raised from 0 triggers a pass. -/
theorem setAllowance_of_raised (h : s.hzc.allowance = 0) (hwh : 0 < wh) :
    s.setAllowance wh = (s.modHzc fun x => { x with allowWh := wh, allowJ := 0 }).trigger :=
  if_pos ⟨h, hwh⟩

/-- R61, R60: a value brought to 0 is an exhaustion. -/
theorem setAllowance_of_exhausted (h : 0 < s.hzc.allowance) : s.setAllowance 0 =
    (s.modHzc fun x => { x with allowWh := 0, allowJ := 0 }).allowanceExhausted :=
  (if_neg fun hzero => lt_irrefl _ hzero.2).trans (if_pos ⟨h, rfl⟩)

/-- R61: without a change from or to 0 a Set Allowance brings nothing else. -/
theorem setAllowance_of_same (h : s.hzc.allowance = 0 ↔ wh = 0) :
    s.setAllowance wh = s.modHzc fun x => { x with allowWh := wh, allowJ := 0 } := by
  unfold State.setAllowance
  rw [if_neg (by omega), if_neg (by omega)]

theorem survives_allowance (wh : Nat) : Survives fun t => t.hzc.allowWh = wh ∧ t.hzc.allowJ = 0 where
  pass t h := ⟨(pass_allowance t).1.trans h.1, (pass_allowance t).2.trans h.2⟩
  inLine t h := ⟨(zonesInLine_allowance t).1.trans h.1, (zonesInLine_allowance t).2.trans h.2⟩
  work _ _ h := h
  choice _ h := h
  unheld _ h := h
  restart _ _ h := h

/-- R20, R61: where ALC runs, a triggered pass reads whether the new allowance is 0. -/
theorem settle_allowanceZero (htrigger : (s.setAllowance wh).work.trigger = true) (hruns : s.blocksRun = true) :
    (s.setAllowance wh).settle.alc.inputs.allowanceZero = decide (wh = 0) := by
  obtain ⟨-, -, -, -, -, hpwc⟩ := setAllowance_frame wh s
  refine settle_reads (R := fun x => x.allowanceZero = decide (wh = 0)) (survives_allowance wh) ?_ ?_ htrigger
    ((runs_congr hpwc).1.trans hruns)
  · rintro t ⟨hwh, hj⟩
    simp [State.passInputs, Heater.allowance, hwh, hj, Config.joulesPerWh]
  · rw [setAllowance_hzc]
    exact ⟨rfl, rfl⟩

theorem ownSetAllowance_accepts {p : List Byte} (hlen : p.length = 2) (s : State) : ownSetAllowance p s =
    ((s.setAllowance (min 20000 (field p 0 2))).settle, ⟨.ok, be 2 (min 20000 (field p 0 2)) ++ be 2 0⟩) := by
  obtain ⟨hwh, hj⟩ := settle_allowance (s.setAllowance (min 20000 (field p 0 2)))
  rw [setAllowance_hzc] at hwh hj
  refine (if_pos hlen).trans ?_
  change ((s.setAllowance (min 20000 (field p 0 2))).settle,
    (⟨.ok, be 2 (s.setAllowance (min 20000 (field p 0 2))).settle.hzc.allowWh ++
      be 2 (s.setAllowance (min 20000 (field p 0 2))).settle.hzc.allowJ⟩ : Reply)) = _
  rw [hwh, hj]

end

/-- Settles O33: the stored value, its exhaustion and its return, and the change that brings nothing else. -/
theorem setAllowanceWritesTheAllowance : Obligations.SetAllowanceWritesTheAllowance := by
  intro s p hserves hlen
  have hnext := next_of_serves hserves (ownSetAllowance_accepts hlen s)
  obtain ⟨hwh, hj⟩ := settle_allowance (s.setAllowance (min 20000 (field p 0 2)))
  rw [setAllowance_hzc] at hwh hj
  obtain ⟨halc, hrqp, htck, hmtr, hstu, hpwc⟩ := setAllowance_frame (min 20000 (field p 0 2)) s
  refine ⟨⟨_, hnext, hwh, hj, ?_, fun hpos hzero => ?_, fun hzero hpos => ?_, ?_⟩, fun hwork hsame => ?_⟩
  · simp only [State.answer, modRqp_rqp, settle_frame, hrqp]
  · have hexhausted := setAllowance_of_exhausted (s := s) hpos
    have hmin : min 20000 (field p 0 2) = 0 := by rw [hzero]; rfl
    rw [hmin]
    have hsource : (s.setAllowance 0).settle.atn.sources.get 8 = { s.atn.sources.get 8 with
        flag := true, detail := some (.zone none .allowanceExhausted) } := by
      rw [settle_other_source _ (by decide) (by decide), hexhausted]
      exact raise_self .zone _ _
    refine ⟨(congrArg SourceRec.flag hsource :), (congrArg SourceRec.detail hsource :), fun hruns => ?_⟩
    exact settle_allowanceZero (by rw [hexhausted]; rfl) hruns
  · have hmin : 0 < min 20000 (field p 0 2) := by omega
    have hraised := setAllowance_of_raised hzero hmin
    have htrigger : (s.setAllowance (min 20000 (field p 0 2))).work.trigger = true := by rw [hraised]; rfl
    refine ⟨?_, fun hruns => ⟨?_, ?_⟩⟩
    · refine (settle_other_source _ (by decide) (by decide)).trans ?_
      rw [hraised]
      rfl
    · exact (settle_allowanceZero htrigger hruns).trans (decide_eq_false (Nat.pos_iff_ne_zero.1 hmin))
    · have hcauses := (settle_recorded htrigger ((runs_congr hpwc).1.trans hruns)).causes
      rw [hrqp, halc] at hcauses
      exact hcauses
  · simp [htck, hmtr, hstu, hpwc]
  · have hsame' : s.hzc.allowance = 0 ↔ min 20000 (field p 0 2) = 0 := hsame.trans (by omega)
    rw [setAllowance_of_same hsame'] at hnext
    refine hnext.trans ?_
    rw [settle_idle (by exact hwork)]
    rfl

end Sys2Proof.Machine
end

section
/-! Sensor readings (R46 to R48, R53, R97): one reading, the six of an event, and O34. -/

namespace Sys2Proof.Machine

/-! ### What one reading does to a record -/

/-- R48: the temperature transitions of a record. -/
def Zone.moved (z : Zone) : Zone :=
  match z.state with
  | .requested | .heating => if z.target ≤ z.temp then { z with state := .holding, demand := 0 } else z
  | .holding => if z.temp < z.target - Config.hysteresis then { z with state := .heating }.recompute else z
  | .off | .isolated | .faulted => z

/-- R46: a reading that faults a zone, and the reason. -/
def faultAt (temp : Int) : Option ZoneFault :=
  if temp < Config.sensorLow ∨ Config.sensorHigh < temp then some .sensor
  else if Config.cutOff ≤ temp then some .overTemperature
  else none

/-- R46: the record after one reading. -/
def Zone.read (temp : Int) (z : Zone) : Zone :=
  if z.state = .faulted then { z with temp := temp }
  else match faultAt temp with
    | some r => { z with temp := temp }.toFaulted r
    | none => { z with temp := temp }.recompute.moved

/-- R64: the event that a fault of a zone raises. -/
def ZoneFault.event : ZoneFault → ZoneEvent
  | .overTemperature => .overTemperature
  | .sensor => .sensor
  | .insulation => .insulation

/-- R64: the event that one reading raises. -/
def Zone.readEvent (temp : Int) (z : Zone) : Option ZoneEvent :=
  if z.state = .faulted then none
  else match faultAt temp with
    | some r => some r.event
    | none => if z.state.asks = true ∧ z.target ≤ temp then some .targetReached else none

/-- R46, R53: the reading faults the zone. -/
def Zone.fails (temp : Int) (z : Zone) : Bool := decide (z.state ≠ .faulted) && (faultAt temp).isSome

/-- R97: the locating record of an abandoned sequence; nothing when none is active. -/
def Locating.abandoned (now : Nat) (l : Locating) : Locating :=
  match l.pole with
  | none => l
  | some p => { l with pole := none, current := none, candidates := [], deferred := none,
                       outcome := .abandoned, origin := some (.pole p), endTime := now }

theorem abandoned_twice (now : Nat) (l : Locating) : (l.abandoned now).abandoned now = l.abandoned now := by
  unfold Locating.abandoned
  cases h : l.pole <;> simp [h]

theorem abandonRecord_imon (s : State) :
    s.abandonRecord.imon = { s.imon with loc := s.imon.loc.abandoned s.tck.wall } := by
  unfold State.abandonRecord Locating.abandoned
  cases h : s.imon.loc.pole <;> rfl

/-- R170: ZONE as a reading of zone `i` leaves it. -/
def SourceRec.after (i : Fin 6) (e : Option ZoneEvent) (r : SourceRec) : SourceRec :=
  match e with
  | none => r
  | some e => { r with flag := true, detail := some (.zone (some i) e) }

/-! ### What one reading does to the state -/

/-- All that a reading of zone `i` does: to its record, to ZONE, to the locating record and to the reports. -/
structure State.ReadAs (s t : State) (i : Fin 6) (y : Zone) (e : Option ZoneEvent) (ends opens : Bool) : Prop where
  zone    : ∀ j, t.zone j = if j = i then y else s.zone j
  source  : t.atn.sources.get 8 = (s.atn.sources.get 8).after i e
  imon    : t.imon = { s.imon with loc := if ends then s.imon.loc.abandoned s.tck.wall else s.imon.loc }
  opening : t.work.opening = (s.work.opening || opens)

section

variable {s : State} {i : Fin 6} {temp : Int}

theorem modZone_readAs (i : Fin 6) (f : Zone → Zone) (s : State) :
    s.ReadAs (s.modZone i f) i (f (s.zone i)) none false false where
  zone j := by
    rw [zone_modZone]
    split
    next hj => rw [hj]
    next => rfl
  source := rfl
  imon := rfl
  opening := (Bool.or_false _).symm

/-- R53, R73, R97: the entry to Faulted. -/
theorem zoneFault_readAs (i : Fin 6) (r : ZoneFault) (e : ZoneEvent) (s : State) :
    s.ReadAs (s.zoneFault i r e) i ((s.zone i).toFaulted r) (some e) (decide ((s.zone i).state = .isolated))
      (s.zone i).contactor := by
  have hopened : ((s.noteOpening (s.zone i)).modZone i (Zone.toFaulted r)).work.opening =
      (s.work.opening || (s.zone i).contactor) := by
    unfold State.noteOpening
    cases hc : (s.zone i).contactor
    · exact (Bool.or_false _).symm
    · exact (Bool.or_true _).symm
  have hnote : ∀ j, ((s.noteOpening (s.zone i)).modZone i (Zone.toFaulted r)).zone j =
      if j = i then (s.zone i).toFaulted r else s.zone j := by
    intro j
    have hsame : (s.noteOpening (s.zone i)).zone j = s.zone j := by simp [State.zone]
    rw [zone_modZone, hsame]
    split
    next hj => rw [hj]
    next => rfl
  have hraised : ∀ u : State, u.atn = s.atn →
      ((u.raise .zone (.zone (some i) e)).triggerSafety).atn.sources.get 8 =
        (s.atn.sources.get 8).after i (some e) := by
    intro u hu
    rw [← hu]
    exact raise_self .zone _ u
  have himon : ((s.noteOpening (s.zone i)).modZone i (Zone.toFaulted r)).imon = s.imon := by simp
  have htck : ((s.noteOpening (s.zone i)).modZone i (Zone.toFaulted r)).tck = s.tck := by simp
  unfold State.zoneFault
  dsimp only
  by_cases hiso : (s.zone i).state = .isolated
  · rw [if_pos hiso]
    refine ⟨fun j => ?_, hraised _ (by simp), ?_, ?_⟩
    · rw [← hnote j]
      simp [State.zone]
    · simp only [triggerSafety_frame, raise_frame, abandonRecord_imon, himon, htck, hiso, decide_true, if_true]
    · rw [← hopened]
      simp [State.triggerSafety]
  · rw [if_neg hiso]
    refine ⟨hnote, hraised _ (by simp), ?_, hopened⟩
    simp only [triggerSafety_frame, raise_frame, himon, hiso, decide_false, Bool.false_eq_true, if_false]

/-- R48: the transitions of a zone in range. -/
theorem zoneTransition_readAs (i : Fin 6) (s : State) :
    s.ReadAs (s.zoneTransition i) i (s.zone i).moved
      (if (s.zone i).state.asks = true ∧ (s.zone i).target ≤ (s.zone i).temp then some .targetReached else none)
      false false := by
  have hheld := modZone_readAs i (fun z => { z with state := .holding, demand := 0 }) s
  have hreached : s.ReadAs (((s.modZone i fun z => { z with state := .holding, demand := 0 }).raise .zone
      (.zone (some i) .targetReached)).trigger) i { s.zone i with state := .holding, demand := 0 }
      (some .targetReached) false false := ⟨hheld.zone, raise_self .zone _ _, hheld.imon, hheld.opening⟩
  have hheat := modZone_readAs i (fun z => { z with state := .heating }.recompute) s
  have hidle : s.ReadAs s i (s.zone i) none false false :=
    ⟨fun j => by split <;> simp_all, rfl, rfl, (Bool.or_false _).symm⟩
  unfold State.zoneTransition Zone.moved
  dsimp only
  cases hst : (s.zone i).state
  case requested | heating =>
    by_cases htarget : (s.zone i).target ≤ (s.zone i).temp
    · simp only [htarget, if_true, ZoneState.asks, and_self]
      exact hreached
    · simp only [htarget, if_false, and_false]
      exact hidle
  case holding =>
    by_cases hbelow : (s.zone i).temp < (s.zone i).target - Config.hysteresis
    · simp only [hbelow, if_true, ZoneState.asks, Bool.false_eq_true, false_and, if_false]
      exact ⟨hheat.zone, hheat.source, hheat.imon, hheat.opening⟩
    · simp only [hbelow, if_false, ZoneState.asks, Bool.false_eq_true, false_and]
      exact hidle
  all_goals exact hidle

/-- A change of the record that is read, before the reading. -/
theorem State.ReadAs.after_modZone {t : State} {f : Zone → Zone} {y : Zone} {e : Option ZoneEvent}
    {ends opens : Bool} (h : (s.modZone i f).ReadAs t i y e ends opens) : s.ReadAs t i y e ends opens where
  zone j := by
    rw [h.zone j, zone_modZone]
    split <;> rfl
  source := h.source
  imon := h.imon
  opening := h.opening

/-- R46: one reading, in the order range, cut-off, demand, transitions. -/
theorem zoneReading_readAs (i : Fin 6) (temp : Int) (s : State) :
    s.ReadAs (s.zoneReading i temp) i ((s.zone i).read temp) ((s.zone i).readEvent temp)
      (decide ((s.zone i).state = .isolated) && (s.zone i).fails temp)
      ((s.zone i).contactor && (s.zone i).fails temp) := by
  have hsensed : (s.modZone i fun z => { z with temp := temp }).zone i = { s.zone i with temp := temp } := by
    rw [zone_modZone, if_pos rfl]
  have hfault := fun r e => zoneFault_readAs i r e (s.modZone i fun z => { z with temp := temp })
  have hfair := zoneTransition_readAs i ((s.modZone i fun z => { z with temp := temp }).modZone i Zone.recompute)
  rw [zone_modZone, if_pos rfl] at hfair
  simp only [hsensed] at hfault hfair
  unfold State.zoneReading Zone.read Zone.readEvent Zone.fails faultAt
  simp only [hsensed]
  by_cases hst : (s.zone i).state = .faulted
  · have hdone : decide ((s.zone i).state ≠ .faulted) = false := decide_eq_false (not_not.2 hst)
    simp only [if_pos hst, hdone, Bool.false_and, Bool.and_false]
    exact modZone_readAs i (fun z => { z with temp := temp }) s
  by_cases hout : temp < Config.sensorLow ∨ Config.sensorHigh < temp
  · simp only [hst, hout, if_true, if_false, ne_eq, not_false_eq_true, decide_true, Option.isSome_some,
      Bool.and_true]
    exact (hfault .sensor .sensor).after_modZone
  by_cases hhot : Config.cutOff ≤ temp
  · simp only [hst, hout, hhot, if_true, if_false, ne_eq, not_false_eq_true, decide_true, Option.isSome_some,
      Bool.and_true]
    exact (hfault .overTemperature .overTemperature).after_modZone
  · simp only [hst, hout, hhot, if_false, Option.isSome_none, Bool.and_false]
    exact hfair.after_modZone.after_modZone

end

/-! ### The six readings of an event -/

/-- R46: the readings of a list of zones, one after another. -/
def State.readList (t : ZoneTemps) (l : List (Fin 6)) (s : State) : State :=
  l.foldl (fun u i => u.zoneReading i (tempOf t i)) s

theorem readZones_eq (t : ZoneTemps) (s : State) : s.readZones t = s.readList t (fins 6) := by
  simp only [State.readList, fins, List.map, List.foldl]
  rfl

section

variable {t : ZoneTemps} {l : List (Fin 6)} {s : State} {i j : Fin 6}

theorem zoneReading_other (h : j ≠ i) (temp : Int) (s : State) : (s.zoneReading i temp).zone j = s.zone j := by
  rw [(zoneReading_readAs i temp s).zone j, if_neg h]

theorem readList_zone (hl : l.Nodup) : (s.readList t l).zone j =
    if j ∈ l then (s.zone j).read (tempOf t j) else s.zone j := by
  induction l generalizing s with
  | nil => rfl
  | cons i rest ih =>
    obtain ⟨hi, hrest⟩ := List.nodup_cons.1 hl
    refine (ih hrest).trans ?_
    by_cases hj : j = i
    · subst hj
      rw [if_neg hi, if_pos List.mem_cons_self, (zoneReading_readAs j _ s).zone j, if_pos rfl]
    · simp only [zoneReading_other hj, List.mem_cons, hj, false_or]

theorem readList_source_of_none (hl : l.Nodup) (h : ∀ j ∈ l, (s.zone j).readEvent (tempOf t j) = none) :
    (s.readList t l).atn.sources.get 8 = s.atn.sources.get 8 := by
  induction l generalizing s with
  | nil => rfl
  | cons i rest ih =>
    obtain ⟨hi, hrest⟩ := List.nodup_cons.1 hl
    refine (ih hrest fun j hj => ?_).trans ?_
    · rw [zoneReading_other (ne_of_mem_of_not_mem hj hi)]
      exact h j (List.mem_cons_of_mem _ hj)
    · rw [(zoneReading_readAs i _ s).source, h i List.mem_cons_self]
      rfl

/-- R64: ZONE has the detail of the last reading that raised it. -/
theorem readList_source {pre post : List (Fin 6)} (hl : (pre ++ i :: post).Nodup) {e : ZoneEvent}
    (hi : (s.zone i).readEvent (tempOf t i) = some e)
    (hpost : ∀ j ∈ post, (s.zone j).readEvent (tempOf t j) = none) :
    ((s.readList t (pre ++ i :: post)).atn.sources.get 8).flag = true ∧
    ((s.readList t (pre ++ i :: post)).atn.sources.get 8).detail = some (.zone (some i) e) := by
  obtain ⟨hpre, hrest, hdisj⟩ := List.nodup_append'.1 hl
  obtain ⟨hipost, hpostnodup⟩ := List.nodup_cons.1 hrest
  have hkept : ∀ j ∈ i :: post, (s.readList t pre).zone j = s.zone j := fun j hj => by
    rw [readList_zone hpre, if_neg fun hjpre => hdisj hjpre hj]
  have hsplit : s.readList t (pre ++ i :: post) =
      ((s.readList t pre).zoneReading i (tempOf t i)).readList t post := List.foldl_append
  have hlast : (s.readList t (pre ++ i :: post)).atn.sources.get 8 =
      ((s.readList t pre).atn.sources.get 8).after i (some e) := by
    rw [hsplit, readList_source_of_none hpostnodup fun j hj => ?_, (zoneReading_readAs i _ _).source,
      hkept i List.mem_cons_self, hi]
    rw [zoneReading_other (ne_of_mem_of_not_mem hj hipost), hkept j (List.mem_cons_of_mem _ hj)]
    exact hpost j hj
  rw [hlast]
  exact ⟨rfl, rfl⟩

/-- R97: the reading of a zone faults the isolated zone. -/
def State.breaks (t : ZoneTemps) (s : State) (j : Fin 6) : Bool :=
  decide ((s.zone j).state = .isolated) && (s.zone j).fails (tempOf t j)

/-- R97: the readings touch of IMON the locating record alone, and abandon its sequence where one of them faults
the isolated zone. -/
theorem readList_imon (hl : l.Nodup) : (s.readList t l).imon = { s.imon with
    loc := if l.any (s.breaks t) then s.imon.loc.abandoned s.tck.wall else s.imon.loc } := by
  induction l generalizing s with
  | nil => rfl
  | cons i rest ih =>
    obtain ⟨hi, hrest⟩ := List.nodup_cons.1 hl
    have hsame : rest.any ((s.zoneReading i (tempOf t i)).breaks t) = rest.any (s.breaks t) := by
      rw [Bool.eq_iff_iff, List.any_eq_true, List.any_eq_true]
      exact exists_congr fun j => and_congr_right fun hj => by
        rw [State.breaks, State.breaks, zoneReading_other (ne_of_mem_of_not_mem hj hi)]
    have htck : (s.zoneReading i (tempOf t i)).tck = s.tck := by simp
    have himon : (s.zoneReading i (tempOf t i)).imon = { s.imon with
        loc := if s.breaks t i = true then s.imon.loc.abandoned s.tck.wall else s.imon.loc } :=
      (zoneReading_readAs i (tempOf t i) s).imon
    refine (ih hrest).trans ?_
    rw [hsame, htck, himon, List.any_cons]
    cases s.breaks t i <;> cases rest.any (s.breaks t) <;> simp [abandoned_twice]

/-- R51, R73: a reading that opens a closed contactor is told to IMON, and no later one takes that back. -/
theorem readList_opening (hl : l.Nodup) (hj : j ∈ l) (hclosed : (s.zone j).contactor = true)
    (hfails : (s.zone j).fails (tempOf t j) = true) : (s.readList t l).work.opening = true := by
  have hkeeps : ∀ (l : List (Fin 6)) (u : State), u.work.opening = true →
      (u.readList t l).work.opening = true := by
    intro l
    induction l with
    | nil => exact fun _ hu => hu
    | cons i rest ih =>
      exact fun u hu => ih _ (by rw [(zoneReading_readAs i _ u).opening, hu]; rfl)
  induction l generalizing s with
  | nil => cases hj
  | cons i rest ih =>
    obtain ⟨hi, hrest⟩ := List.nodup_cons.1 hl
    rcases List.mem_cons.1 hj with rfl | hj
    · exact hkeeps rest _ (by rw [(zoneReading_readAs j _ s).opening, hclosed, hfails]; simp)
    · have hji : j ≠ i := ne_of_mem_of_not_mem hj hi
      exact ih hrest hj (by rw [zoneReading_other hji]; exact hclosed) (by rw [zoneReading_other hji]; exact hfails)

end

end Sys2Proof.Machine
end

section
/-! The event of the sensor readings, from one record's reading to the end of the event's passes: O34. -/

namespace Sys2Proof.Machine

section

variable {y z : Zone} {temp : Int} {r : ZoneFault}

/-! ### The reading by its range (R46) -/

theorem faultAt_of_outside (h : temp < -450 ∨ 900 < temp) : faultAt temp = some .sensor := if_pos h

theorem faultAt_of_hot (h : 600 ≤ temp ∧ temp ≤ 900) : faultAt temp = some .overTemperature :=
  (if_neg (by simp only [Config.sensorLow, Config.sensorHigh]; omega)).trans (if_pos h.1)

theorem faultAt_of_fair (h : -450 ≤ temp ∧ temp < 600) : faultAt temp = none :=
  (if_neg (by simp only [Config.sensorLow, Config.sensorHigh]; omega)).trans
    (if_neg (by simp only [Config.cutOff]; omega))

theorem faultAt_isSome (h : (temp < -450 ∨ 900 < temp) ∨ (600 ≤ temp ∧ temp ≤ 900)) :
    (faultAt temp).isSome = true := by
  rcases h with hout | hhot
  · rw [faultAt_of_outside hout]; rfl
  · rw [faultAt_of_hot hhot]; rfl

/-- The three ranges are all there are. -/
theorem range_cases (temp : Int) :
    (temp < -450 ∨ 900 < temp) ∨ (600 ≤ temp ∧ temp ≤ 900) ∨ (-450 ≤ temp ∧ temp < 600) := by omega

theorem read_of_faulted (h : z.state = .faulted) : z.read temp = { z with temp := temp } := if_pos h

theorem read_of_fault (h : z.state ≠ .faulted) (hfault : faultAt temp = some r) :
    z.read temp = { z with temp := temp }.toFaulted r := by
  rw [Zone.read, if_neg h, hfault]

theorem moved_settings (z : Zone) : z.moved.settings = z.settings := by
  unfold Zone.moved
  (repeat' split) <;> rfl

/-- R46: a reading writes the temperature and no setting. -/
theorem read_settings (temp : Int) (z : Zone) :
    (z.read temp).settings = (z.enabled, z.target, z.gain, z.pMax, z.priority, temp) := by
  unfold Zone.read
  split
  · rfl
  · split
    · rfl
    · exact moved_settings _

/-! ### The demand and the transitions (R47, R48) -/

/-- R47: the demand of a zone that asks. -/
theorem asked_of_asks (h : z.state.asks = true) :
    z.asked = min z.pMax (z.gain * (z.target - z.temp).toNat) := if_pos h

theorem asked_of_not_asks (h : z.state.asks = false) : z.asked = 0 := if_neg (by simp [h])

theorem asks_of_asking (h : z.state = .requested ∨ z.state = .heating) : z.state.asks = true := by
  rcases h with h | h <;> rw [h] <;> rfl

theorem not_faulted_of_asking (h : z.state = .requested ∨ z.state = .heating) : z.state ≠ .faulted := by
  rcases h with h | h <;> simp [h]

theorem connected_of_asking (h : z.state = .requested ∨ z.state = .heating) : z.state.connected = true := by
  rcases h with h | h <;> rw [h] <;> rfl

theorem moved_of_reached (h : z.state = .requested ∨ z.state = .heating) (ht : z.target ≤ z.temp) :
    z.moved = { z with state := .holding, demand := 0 } := by
  unfold Zone.moved
  rcases h with h | h <;> simp only [h] <;> exact if_pos ht

theorem moved_of_asking (h : z.state = .requested ∨ z.state = .heating) (ht : z.temp < z.target) :
    z.moved = z := by
  unfold Zone.moved
  rcases h with h | h <;> simp only [h] <;> exact if_neg (not_le.2 ht)

theorem moved_of_cooled (h : z.state = .holding) (ht : z.temp < z.target - 10) :
    z.moved = { z with state := .heating }.recompute := by
  unfold Zone.moved
  simp only [h]
  exact if_pos ht

theorem moved_of_held (h : z.state = .holding) (ht : z.target - 10 ≤ z.temp) : z.moved = z := by
  unfold Zone.moved
  simp only [h]
  exact if_neg (not_lt.2 ht)

theorem moved_of_isolated (h : z.state = .isolated) : z.moved = z := by
  unfold Zone.moved
  simp only [h]

/-- R46, R47: the record with the temperature of a reading in range and its demand. -/
def Zone.sensed (temp : Int) (z : Zone) : Zone := { z with temp := temp }.recompute

theorem read_of_fair (h : z.state ≠ .faulted) (hfair : -450 ≤ temp ∧ temp < 600) :
    z.read temp = (z.sensed temp).moved := by
  rw [Zone.read, if_neg h, faultAt_of_fair hfair]
  rfl

theorem read_of_reached (h : z.state = .requested ∨ z.state = .heating) (hfair : -450 ≤ temp ∧ temp < 600)
    (ht : z.target ≤ temp) : (z.read temp).state = .holding ∧ (z.read temp).demand = 0 := by
  rw [read_of_fair (not_faulted_of_asking h) hfair, moved_of_reached (z := z.sensed temp) h ht]
  exact ⟨rfl, rfl⟩

theorem read_of_asking (h : z.state = .requested ∨ z.state = .heating) (hfair : -450 ≤ temp ∧ temp < 600)
    (ht : temp < z.target) : (z.read temp).state = z.state ∧
      (z.read temp).demand = min z.pMax (z.gain * (z.target - temp).toNat) := by
  rw [read_of_fair (not_faulted_of_asking h) hfair, moved_of_asking (z := z.sensed temp) h ht]
  exact ⟨rfl, asked_of_asks (z := { z with temp := temp }) (asks_of_asking h)⟩

theorem read_of_cooled (h : z.state = .holding) (hfair : -450 ≤ temp ∧ temp < 600) (ht : temp < z.target - 10) :
    (z.read temp).state = .heating ∧
      (z.read temp).demand = min z.pMax (z.gain * (z.target - temp).toNat) := by
  rw [read_of_fair (by simp [h]) hfair, moved_of_cooled (z := z.sensed temp) h ht]
  exact ⟨rfl, asked_of_asks (z := { z with temp := temp, state := .heating }) rfl⟩

theorem read_of_held (h : z.state = .holding) (hfair : -450 ≤ temp ∧ temp < 600) (ht : z.target - 10 ≤ temp) :
    (z.read temp).state = .holding ∧ (z.read temp).demand = 0 := by
  rw [read_of_fair (by simp [h]) hfair, moved_of_held (z := z.sensed temp) h ht]
  exact ⟨h, asked_of_not_asks (z := { z with temp := temp }) (by simp [h, ZoneState.asks])⟩

theorem read_of_isolated (h : z.state = .isolated) (hfair : -450 ≤ temp ∧ temp < 600) :
    (z.read temp).state = .isolated := by
  rw [read_of_fair (by simp [h]) hfair, moved_of_isolated (z := z.sensed temp) h]
  exact h

/-- R64: the events of a reading, in the words of O34. -/
theorem readEvent_iff {e : ZoneEvent} : z.readEvent temp = some e ↔
    (e = .sensor ∧ z.state ≠ .faulted ∧ (temp < -450 ∨ 900 < temp)) ∨
    (e = .overTemperature ∧ z.state ≠ .faulted ∧ (600 ≤ temp ∧ temp ≤ 900)) ∨
    (e = .targetReached ∧ (z.state = .requested ∨ z.state = .heating) ∧ (-450 ≤ temp ∧ temp < 600) ∧
      z.target ≤ temp) := by
  have hasks : z.state.asks = true ↔ z.state = .requested ∨ z.state = .heating := by
    cases z.state <;> simp [ZoneState.asks]
  unfold Zone.readEvent
  by_cases hst : z.state = .faulted
  · simp [hst]
  rcases range_cases temp with hout | hhot | hfair
  · have hhot : ¬ (600 ≤ temp ∧ temp ≤ 900) := by omega
    have hfair : ¬ (-450 ≤ temp ∧ temp < 600) := by omega
    simp only [if_neg hst, faultAt_of_outside hout, hout, hhot, hfair, ZoneFault.event, Option.some.injEq]
    simp [hst, eq_comm]
  · have hout : ¬ (temp < -450 ∨ 900 < temp) := by omega
    have hfair : ¬ (-450 ≤ temp ∧ temp < 600) := by omega
    simp only [if_neg hst, faultAt_of_hot hhot, hout, hhot, hfair, ZoneFault.event, Option.some.injEq]
    simp [hst, eq_comm]
  · have hout : ¬ (temp < -450 ∨ 900 < temp) := by omega
    have hhot : ¬ (600 ≤ temp ∧ temp ≤ 900) := by omega
    simp only [if_neg hst, faultAt_of_fair hfair, hout, hhot, hasks, and_false, false_or]
    by_cases hreach : (z.state = .requested ∨ z.state = .heating) ∧ z.target ≤ temp
    · rw [if_pos hreach]
      exact ⟨fun h => ⟨(Option.some.inj h).symm, hreach.1, hfair, hreach.2⟩, fun h => congrArg some h.1.symm⟩
    · rw [if_neg hreach]
      exact ⟨nofun, fun ⟨_, hasking, _, htarget⟩ => absurd ⟨hasking, htarget⟩ hreach⟩

theorem state_of_servedAs (h : z.ServedAs y) (hst : z.state ≠ .requested) : y.state = z.state := by
  rcases h.state with hsame | ⟨hreq, -⟩
  · exact hsame
  · exact absurd hreq hst

theorem demand_of_servedAs (h : z.ServedAs y) : y.demand = z.demand := by rw [h.record]

end

/-! ### The event -/

section

variable {s : State} {t : ZoneTemps} {i : Fin 6}

theorem readZones_zone (t : ZoneTemps) (s : State) (i : Fin 6) :
    (s.readZones t).zone i = (s.zone i).read (tempOf t i) := by
  rw [readZones_eq, readList_zone (fins_nodup 6), if_pos (mem_fins i)]

theorem settle_readZones_settings (t : ZoneTemps) (s : State) (i : Fin 6) :
    ((s.readZones t).settle.zone i).settings = ((s.zone i).enabled, (s.zone i).target, (s.zone i).gain,
      (s.zone i).pMax, (s.zone i).priority, tempOf t i) := by
  rw [settle_zone_settings, readZones_zone]
  exact read_settings _ _

/-- What no pass moves stands as read. -/
theorem settle_readZones_still (h : ((s.zone i).read (tempOf t i)).Still) :
    (s.readZones t).settle.zone i = (s.zone i).read (tempOf t i) := by
  rw [← readZones_zone] at h ⊢
  exact settle_zone_of_still h

/-- An enabled, connected zone is served as read. -/
theorem settle_readZones_served (hon : (s.zone i).enabled = true)
    (hst : ((s.zone i).read (tempOf t i)).state.connected = true) :
    ((s.zone i).read (tempOf t i)).ServedAs ((s.readZones t).settle.zone i) := by
  have henabled : ((s.zone i).read (tempOf t i)).enabled = true :=
    (congrArg Prod.fst (read_settings (tempOf t i) (s.zone i))).trans hon
  rw [← readZones_zone] at hst henabled ⊢
  exact settle_zone_of_enabled henabled hst

/-- R97: the locating record at the end of the event. -/
theorem settle_readZones_loc (t : ZoneTemps) (s : State) : (s.readZones t).settle.imon.loc =
    if (fins 6).any (s.breaks t) then s.imon.loc.abandoned s.tck.wall else s.imon.loc := by
  rw [(settle_records _).2, readZones_eq, readList_imon (fins_nodup 6)]

theorem settle_readZones_source (t : ZoneTemps) (s : State) :
    (s.readZones t).settle.atn.sources.get 8 = (s.readList t (fins 6)).atn.sources.get 8 := by
  rw [settle_other_source _ (by decide) (by decide), readZones_eq]

/-- R64: ZONE has the detail of the highest zone that raised it. -/
theorem settle_readZones_raised {e : ZoneEvent} (hi : (s.zone i).readEvent (tempOf t i) = some e)
    (hlast : ∀ j, i < j → (s.zone j).readEvent (tempOf t j) = none) :
    ((s.readZones t).settle.atn.sources.get 8).flag = true ∧
    ((s.readZones t).settle.atn.sources.get 8).detail = some (.zone (some i) e) := by
  obtain ⟨pre, post, hsplit⟩ := List.append_of_mem (mem_fins i)
  have hpair := fins_pairwise 6
  have hnodup := fins_nodup 6
  rw [settle_readZones_source, hsplit]
  rw [hsplit] at hpair hnodup
  obtain ⟨-, hrest, -⟩ := List.pairwise_append.1 hpair
  obtain ⟨hafter, -⟩ := List.pairwise_cons.1 hrest
  exact readList_source hnodup hi fun j hj => hlast j (hafter j hj)

/-- R51, R73: a fault that opens a closed contactor in a Sample phase discards the sample. -/
theorem settle_readZones_discards (hopen : s.sampleOpen = true) (hclosed : (s.zone i).contactor = true)
    (hfails : (s.zone i).fails (tempOf t i) = true) : ∃ l, (s.readZones t).settle.imon =
      { s.imon with cycle := if s.imon.cycle = .baseSample then .baseSettle else .shiftSettle, phaseMs := 0,
                    discards := min 255 (s.imon.discards + 1), sumP := 0, sumN := 0, samples := 0, loc := l } := by
  have hnodup := fins_nodup 6
  have himon := readList_imon (s := s) (t := t) hnodup
  have hopen' : (s.readZones t).sampleOpen = true := by
    rw [readZones_eq, State.sampleOpen, himon]
    exact hopen
  have hreport : (s.readZones t).work.opening = true := by
    rw [readZones_eq]
    exact readList_opening hnodup (mem_fins i) hclosed hfails
  rw [settle_imon_of_opening hreport, if_pos hopen', discarded_eq hopen', readZones_eq, himon]
  exact ⟨_, rfl⟩

end

/-- Settles O34: each zone by its state and the range of its reading, then ZONE, IMON and the other blocks. -/
theorem zoneReadingsActOnTheZones : Obligations.ZoneReadingsActOnTheZones := by
  intro s temps
  refine ⟨fun hidle => ?_, fun hruns => ⟨(s.readZones temps).settle, ?_, ?_⟩⟩
  · exact congrArg Host.Outcome.next (if_neg (by rw [hidle]; exact Bool.false_ne_true))
  · exact congrArg Host.Outcome.next (if_pos hruns)
  intro outside hot fair asking shortfall event
  have hevent : ∀ i e, event i e ↔ (s.zone i).readEvent (tempOf temps i) = some e := fun _ _ => readEvent_iff.symm
  have hnone : ∀ i, (∀ e, ¬ event i e) → (s.zone i).readEvent (tempOf temps i) = none := fun i h =>
    Option.eq_none_iff_forall_ne_some.2 fun e he => h e ((hevent i e).2 he)
  have hfails : ∀ i, (s.zone i).state ≠ .faulted → outside i ∨ hot i →
      (s.zone i).fails (tempOf temps i) = true := fun i hst hrange => by
    rw [Zone.fails, faultAt_isSome hrange]
    simp [hst]
  have hfaulted : ∀ i r, (s.zone i).state ≠ .faulted → faultAt (tempOf temps i) = some r →
      (s.readZones temps).settle.zone i = { s.zone i with temp := tempOf temps i }.toFaulted r := fun i r hst hr => by
    have hread := read_of_fault hst hr
    rw [← hread]
    exact settle_readZones_still (.inr (.inl (congrArg Zone.state hread)))
  refine ⟨fun i => ?_, fun i hst => ?_, fun i hst hrange => ?_, fun i hon hfair => ⟨fun hasks htarget => ?_,
    fun hasks htarget => ?_, fun hst htarget => ?_, fun hst htarget => ?_⟩, fun i hfair hst => ?_,
    fun i hst hrange => ?_, fun hrange => ?_, fun i e he hlast => ?_, fun hquiet => ?_,
    fun i hopen hst hrange hclosed => ?_, by simp⟩
  · have hset := settle_readZones_settings temps s i
    simp only [Zone.settings, Prod.mk.injEq] at hset
    obtain ⟨henabled, htarget, -, -, -, htemp⟩ := hset
    exact ⟨htemp, henabled, htarget⟩
  · rw [← read_of_faulted hst]
    exact settle_readZones_still (.inr (.inl (by rw [read_of_faulted hst]; exact hst)))
  · rcases hrange with hout | hhot
    · rw [hfaulted i _ hst (faultAt_of_outside hout)]
      exact ⟨rfl, rfl, rfl, rfl, rfl, rfl, fun _ => rfl, fun hhot => absurd hout (by
        simp only [outside, hot] at hhot ⊢; omega)⟩
    · rw [hfaulted i _ hst (faultAt_of_hot hhot)]
      exact ⟨rfl, rfl, rfl, rfl, rfl, rfl, fun hout => absurd hout (by
        simp only [outside, hot] at hhot ⊢; omega), fun _ => rfl⟩
  · obtain ⟨hstate, hdemand⟩ := read_of_reached hasks hfair htarget
    have hserved := settle_readZones_served hon (by rw [hstate]; rfl)
    exact ⟨(state_of_servedAs hserved (by simp [hstate])).trans hstate,
      (demand_of_servedAs hserved).trans hdemand⟩
  · obtain ⟨hstate, hdemand⟩ := read_of_asking hasks hfair htarget
    have hserved := settle_readZones_served hon (by rw [hstate]; exact connected_of_asking hasks)
    refine ⟨?_, (demand_of_servedAs hserved).trans hdemand⟩
    rcases hserved.state with hsame | ⟨-, hheat⟩
    · rw [hsame, hstate]; exact hasks
    · exact .inr hheat
  · obtain ⟨hstate, hdemand⟩ := read_of_cooled hst hfair htarget
    have hserved := settle_readZones_served hon (by rw [hstate]; rfl)
    exact ⟨(state_of_servedAs hserved (by simp [hstate])).trans hstate,
      (demand_of_servedAs hserved).trans hdemand⟩
  · obtain ⟨hstate, hdemand⟩ := read_of_held hst hfair htarget
    have hserved := settle_readZones_served hon (by rw [hstate]; rfl)
    exact ⟨(state_of_servedAs hserved (by simp [hstate])).trans hstate,
      (demand_of_servedAs hserved).trans hdemand⟩
  · have hstate := read_of_isolated hst hfair
    rw [settle_readZones_still (.inl hstate), hstate]
  · have hbreaks : (fins 6).any (s.breaks temps) = true := List.any_eq_true.2 ⟨i, mem_fins i, by
      rw [State.breaks, hfails i (by simp [hst]) hrange, hst]
      rfl⟩
    rw [settle_readZones_loc, if_pos hbreaks]
    rfl
  · have hbreaks : (fins 6).any (s.breaks temps) = false := List.any_eq_false.2 fun i _ => by
      rw [State.breaks, Bool.and_eq_true, decide_eq_true_eq]
      rintro ⟨hst, hfail⟩
      rw [Zone.fails, faultAt_of_fair (hrange i hst)] at hfail
      simp at hfail
    rw [settle_readZones_loc, hbreaks]
    rfl
  · exact settle_readZones_raised ((hevent i e).1 he) fun j hj => hnone j (hlast j hj)
  · rw [settle_readZones_source, readList_source_of_none (fins_nodup 6)
      fun j _ => hnone j (hquiet j)]
  · obtain ⟨l, himon⟩ := settle_readZones_discards hopen hclosed (hfails i hst hrange)
    rw [himon]
    exact ⟨rfl, rfl, rfl, rfl, rfl, rfl⟩

end Sys2Proof.Machine
end

section
/-! Confirmation (R77): the counts and the severity of a pole after one Compute: O40. -/

namespace Sys2Proof.Machine

section

variable {p : PoleRec} {g : Grade}

/-! ### The counts (R77, first table) -/

theorem count_eq (g : Grade) (p : PoleRec) : p.count g =
    { p with
      grade := some g
      warnCount := if g = .fault ∨ g = .warning then min 2 (p.warnCount + 1) else 0
      faultCount := if g = .fault then min 2 (p.faultCount + 1) else 0
      normalCount := if g = .clear then min 3 (p.normalCount + 1) else 0 } := by
  cases g <;> rfl

/-- Two bad cycles in a row bring the warning count to 2. -/
theorem count_warnCount_full : (p.count g).warnCount = 2 ↔ (g = .fault ∨ g = .warning) ∧ 1 ≤ p.warnCount := by
  rw [count_eq]
  dsimp only
  split <;> simp only [*, true_and, false_and, iff_false] <;> omega

/-- Two cycles of class Fault in a row bring the fault count to 2. -/
theorem count_faultCount_full : (p.count g).faultCount = 2 ↔ g = .fault ∧ 1 ≤ p.faultCount := by
  rw [count_eq]
  dsimp only
  split <;> simp only [*, true_and, false_and, iff_false] <;> omega

/-- Three Clear cycles in a row bring the normal count to 3. -/
theorem count_normalCount_full : (p.count g).normalCount = 3 ↔ g = .clear ∧ 2 ≤ p.normalCount := by
  rw [count_eq]
  dsimp only
  split <;> simp only [*, true_and, false_and, iff_false] <;> omega

/-! ### The severity (R77, second table) -/

/-- Of the counts, confirmation changes the normal count alone. -/
theorem confirm_keeps (p : PoleRec) : p.confirm.grade = p.grade ∧ p.confirm.warnCount = p.warnCount ∧
    p.confirm.faultCount = p.faultCount := by
  unfold PoleRec.confirm
  (repeat' split) <;> exact ⟨rfl, rfl, rfl⟩

theorem confirm_fault_iff (p : PoleRec) : p.confirm.severity = .fault ↔
    (p.severity ≠ .fault ∧ p.faultCount = 2) ∨ (p.severity = .fault ∧ p.normalCount ≠ 3) := by
  unfold PoleRec.confirm
  (repeat' split) <;> simp_all

theorem confirm_warning_iff (p : PoleRec) : p.confirm.severity = .warning ↔
    ((p.severity = .unknown ∨ p.severity = .normal) ∧ p.warnCount = 2 ∧ p.faultCount ≠ 2) ∨
    (p.severity = .warning ∧ p.faultCount ≠ 2 ∧ p.normalCount ≠ 3) := by
  unfold PoleRec.confirm
  (repeat' split) <;> simp_all

/-- The return to Normal takes the normal count with it, back to 0. -/
theorem confirm_normalCount (p : PoleRec) : p.confirm.normalCount =
    if (p.severity = .warning ∧ p.faultCount ≠ 2 ∨ p.severity = .fault) ∧ p.normalCount = 3 then 0
    else p.normalCount := by
  unfold PoleRec.confirm
  (repeat' split) <;> simp_all

theorem confirm_normal_iff (p : PoleRec) : p.confirm.severity = .normal ↔
    ((p.severity = .warning ∧ p.faultCount ≠ 2 ∨ p.severity = .fault) ∧ p.normalCount = 3) ∨
    (p.severity = .unknown ∧ (p.grade = some .margin ∨ p.grade = some .clear) ∧ p.faultCount ≠ 2 ∧
      p.warnCount ≠ 2) ∨
    (p.severity = .normal ∧ p.warnCount ≠ 2 ∧ p.faultCount ≠ 2) := by
  unfold PoleRec.confirm
  (repeat' split) <;> simp_all

/-- A severity once confirmed is not Unknown again. -/
theorem confirm_unknown (h : p.confirm.severity = .unknown) : p.severity = .unknown := by
  unfold PoleRec.confirm at h
  revert h
  (repeat' split) <;> simp_all

/-- R77 in terms of the severity alone: what a Compute never does. -/
theorem update_follows (g : Grade) (p : PoleRec) :
    ((p.update g).severity = .unknown → p.severity = .unknown) ∧
    (p.severity = .fault → (p.update g).severity ≠ .warning) := by
  have hsev : (p.count g).severity = p.severity := by rw [count_eq]
  refine ⟨fun h => hsev.symm.trans (confirm_unknown h), fun hfault hwarning => ?_⟩
  have hfault' : (p.count g).severity = .fault := hsev.trans hfault
  simpa [hfault'] using (confirm_warning_iff _).1 hwarning

theorem pendingConfirm_iff (p : PoleRec) : p.pendingConfirm = true ↔
    (p.warnCount = 1 ∧ (p.severity = .unknown ∨ p.severity = .normal)) ∨
    (p.faultCount = 1 ∧ p.severity ≠ .fault) := by
  simp only [PoleRec.pendingConfirm, Bool.or_eq_true, Bool.and_eq_true, decide_eq_true_eq]

end

/-- Settles O40. The two tables one after the other: what brings a count to its upper value, and what the
severity does then. -/
theorem severityNeedsConfirmation : Obligations.SeverityNeedsConfirmation := by
  intro p g _ _ _
  obtain ⟨hgrade, hwarn, hfault⟩ := confirm_keeps (p.count g)
  have hsev : (p.count g).severity = p.severity := by rw [count_eq]
  have hclass : (p.count g).grade = some g := by rw [count_eq]
  refine ⟨hgrade.trans hclass, hwarn.trans (by rw [count_eq]), hfault.trans (by rw [count_eq]), ?_, ?_, ?_, ?_,
    pendingConfirm_iff _⟩
  · refine (confirm_fault_iff _).trans ?_
    rw [hsev, count_faultCount_full, ne_eq, ne_eq, count_normalCount_full]
  · refine (confirm_warning_iff _).trans ?_
    rw [hsev, count_warnCount_full, ne_eq, ne_eq, count_faultCount_full, count_normalCount_full, and_assoc]
  · refine (confirm_normal_iff _).trans ?_
    rw [hsev, hclass, count_normalCount_full, ne_eq, ne_eq, count_faultCount_full, count_warnCount_full]
    cases g <;> simp
  · refine (confirm_normalCount _).trans ?_
    simp only [hsev, count_normalCount_full, ne_eq, count_faultCount_full]
    rw [count_eq]
    cases g <;> simp

end Sys2Proof.Machine
end

section
/-! The writes of a few fields (R81, R128, R134, R141): O46. -/

namespace Sys2Proof.Machine

/-! ### The bands of a tariff (R141 step 5) -/

theorem bandsAscend_iff : (l : List TariffBand) →
    (bandsAscend l = true ↔ l.Pairwise fun a b => a.start < b.start)
  | [] => by simp [bandsAscend]
  | [_] => by simp [bandsAscend]
  | a :: b :: rest => by
    have ih := bandsAscend_iff (b :: rest)
    simp only [bandsAscend, Bool.and_eq_true, decide_eq_true_eq, ih, List.pairwise_cons, List.mem_cons]
    refine ⟨fun ⟨hab, hb, hrest⟩ => ⟨?_, hb, hrest⟩, fun ⟨ha, hb, hrest⟩ => ⟨ha b (.inl rfl), hb, hrest⟩⟩
    rintro c (rfl | hc)
    · exact hab
    · exact hab.trans (hb c hc)

theorem bandsOk_iff (l : List TariffBand) : bandsOk l = true ↔
    (∀ b ∈ l.head?, b.start = 0) ∧ (∀ b ∈ l, b.start ≤ 1439) ∧ l.Pairwise fun a b => a.start < b.start := by
  cases l with
  | nil => simp [bandsOk]
  | cons b rest =>
    rw [← bandsAscend_iff]
    simp [bandsOk, and_assoc]

theorem readBands_length : (k : Nat) → (p : List Byte) → (readBands k p).length = k
  | 0, _ => rfl
  | k + 1, p => congrArg (· + 1) (readBands_length k (p.drop 6))

theorem define_eq {k : Nat} (p : List Byte) (fee grace : Nat) (t : Tariff) :
    Tariff.define (readBands k p) fee grace t =
      if k = 0 then { t with bands := [], idleFee := 0, grace := 0 }
      else { t with bands := (readBands k p).map fun b => ⟨b.start, min 1000000 b.price⟩,
                    idleFee := min 10000000 fee, grace := min 240 grace } := by
  cases k <;> rfl

/-! ### Write Tariff in the order of its checks (R141) -/

section

variable {p : List Byte} {s : State}

theorem slotOf8_none {n : Nat} (h : 7 < n) : slotOf8 n = none := dif_neg (by omega)

theorem slotOf8_val (i : Fin 8) : slotOf8 i.val = some i := dif_pos i.isLt

theorem field_nil (off w : Nat) : field [] off w = 0 := by
  rw [field, List.drop_nil, List.take_nil]
  rfl

theorem ownWriteTariff_no_tariff (h : 7 < field p 0 1) : ownWriteTariff p s = refuse .range s := by
  have hlen : p.length ≠ 0 := by
    intro hlen
    rw [List.length_eq_zero_iff.1 hlen, field_nil] at h
    exact absurd h (by decide)
  rw [ownWriteTariff, if_neg hlen, slotOf8_none h]

theorem ownWriteTariff_short (h : p.length < 2) (hi : field p 0 1 ≤ 7) :
    ownWriteTariff p s = refuse .length s := by
  by_cases hlen : p.length = 0
  · exact if_pos hlen
  · have hslot : slotOf8 (field p 0 1) = some ⟨field p 0 1, by omega⟩ := dif_pos (by omega)
    rw [ownWriteTariff, if_neg hlen, hslot]
    exact if_pos (by omega)

variable {i : Fin 8}

/-- R141: what stands after the index and the count have been read. -/
theorem ownWriteTariff_checks (h : 2 ≤ p.length) (hi : field p 0 1 = i.val) : ownWriteTariff p s =
    if 4 < field p 1 1 then refuse .range s
    else if p.length ≠ 7 + 6 * field p 1 1 then refuse .length s
    else if 0 < (s.tck.tariffs.get i).refs then refuse .inUse s
    else if bandsOk (readBands (field p 1 1) (p.drop 2)) then
      (s.modTariff i (Tariff.define (readBands (field p 1 1) (p.drop 2)) (field p (2 + 6 * field p 1 1) 4)
          (field p (6 + 6 * field p 1 1) 1)),
        ⟨.ok, tariffImage i (s.modTariff i (Tariff.define (readBands (field p 1 1) (p.drop 2))
          (field p (2 + 6 * field p 1 1) 4) (field p (6 + 6 * field p 1 1) 1)))⟩)
    else refuse .range s := by
  rw [ownWriteTariff, if_neg (by omega), hi, slotOf8_val]
  exact if_neg (by omega)

end

/-- Settles O46: each entry's checks in their order, then the fields that it writes. -/
theorem plainWritesAreExact : Obligations.PlainWritesAreExact := by
  intro s p
  refine ⟨fun hserves hlen => ?_, fun hserves hlen => ?_, fun hserves => ?_, fun hserves hlen => ?_,
    fun hserves hlen => ?_, fun hserves hi => ?_, fun hserves hi hlen => ?_, fun i hserves hlen hi => ?_⟩
  · exact next_of_serves hserves (if_neg hlen : ownSetThresholds p s = refuse .length s)
  · by_cases hlt : clampNat 50 1000 (field p 2 2) < clampNat 100 2000 (field p 0 2)
    · exact (next_of_serves hserves ((if_pos hlen).trans (if_pos hlt) : ownSetThresholds p s = _)).trans
        (congrArg _ (if_pos hlt).symm)
    · exact (next_of_serves hserves ((if_pos hlen).trans (if_neg hlt) : ownSetThresholds p s = _)).trans
        (congrArg _ (if_neg hlt).symm)
  · by_cases hp : p = []
    · rw [if_pos hp]
      subst hp
      exact next_of_serves hserves rfl
    · rw [if_neg hp]
      have hlen : ¬ p.length = 0 := fun h => hp (List.length_eq_zero_iff.1 h)
      exact next_of_serves hserves (if_neg hlen : noPayload ownClearUnbilled p s = refuse .length s)
  · exact next_of_serves hserves (if_neg hlen : ownSetClock p s = refuse .length s)
  · exact next_of_serves hserves (if_pos hlen : ownSetClock p s = _)
  · exact next_of_serves hserves (ownWriteTariff_no_tariff hi)
  · exact next_of_serves hserves (ownWriteTariff_short hlen hi)
  · have hchecks := ownWriteTariff_checks (s := s) hlen hi
    refine ⟨fun hk => ?_, fun hk hlen' => ?_, fun hk hlen' => ⟨fun href => ?_, fun href hbad => ?_,
      fun href hgood => ?_⟩⟩
    · exact next_of_serves hserves (hchecks.trans (if_pos hk))
    · rw [if_neg (not_lt.2 hk), if_pos hlen'] at hchecks
      exact next_of_serves hserves hchecks
    · rw [if_neg (not_lt.2 hk), if_neg (not_not.2 hlen'), if_pos href] at hchecks
      exact next_of_serves hserves hchecks
    · rw [if_neg (not_lt.2 hk), if_neg (not_not.2 hlen'), if_neg (by omega),
        if_neg (mt (bandsOk_iff _).1 hbad)] at hchecks
      exact next_of_serves hserves hchecks
    · rw [if_neg (not_lt.2 hk), if_neg (not_not.2 hlen'), if_neg (by omega),
        if_pos ((bandsOk_iff _).2 hgood)] at hchecks
      refine ⟨_, next_of_serves hserves hchecks, ?_⟩
      rw [← define_eq (p.drop 2) (field p (2 + 6 * field p 1 1) 4) (field p (6 + 6 * field p 1 1) 1)]
      rfl

end Sys2Proof.Machine
end

section
/-! The phases of a measurement cycle (R68, R69, R71): O36. -/

namespace Sys2Proof.Machine

section

variable {s : State}

/-- R71, in ms. -/
theorem cyclePeriod_eq (s : State) : s.cyclePeriod = if s.pwc.state = .keepWarm then 600000 else 10000 := by
  unfold State.cyclePeriod
  cases s.pwc.state <;> rfl

theorem phaseOver_iff (c : Cycle) (s : State) :
    s.phaseOver c = true ↔ s.imon.cycle = c ∧ c.duration ≤ s.imon.phaseMs := by
  simp only [State.phaseOver, Bool.and_eq_true, decide_eq_true_eq]

theorem phaseOver_early {c : Cycle} (h : s.imon.cycle ≠ c ∨ s.imon.phaseMs < c.duration) :
    ¬ s.phaseOver c = true := by
  rw [phaseOver_iff]
  rintro ⟨hcycle, hover⟩
  exact h.elim (absurd hcycle) (not_lt.2 hover)

theorem sampleOpen_iff (s : State) :
    s.sampleOpen = true ↔ s.imon.cycle = .baseSample ∨ s.imon.cycle = .shiftSample := by
  unfold State.sampleOpen
  cases s.imon.cycle <;> simp

theorem exec_cyclePeriodExpiry (s : State) : exec .cyclePeriodExpiry s = .next
    (if s.blocksRun = true ∧ s.imon.cycle = .idle ∧ s.cyclePeriod ≤ s.imon.periodMs then s.startCycle
     else s) := by
  refine congrArg Host.Outcome.next ?_
  by_cases hruns : s.blocksRun = true
  · simp only [hruns, true_and, if_true]
    rfl
  · simp only [hruns, false_and, if_false, Bool.false_eq_true]

/-- R68: in one of the timed phases a reading is taken. -/
theorem exec_poleVoltageReading (up un : Int) (h : s.imon.cycle ≠ .idle) :
    exec (.poleVoltageReading up un) s = .next (s.poleReading up.toNat un.toNat).settle := congrArg _ (if_neg h)

end

/-- Settles O36: what begins or ends a phase is its timer at its duration, and what counts as a reading of a Sample
phase is one taken with the window open. -/
theorem cyclePhasesFollowTheirTimers : Obligations.CyclePhasesFollowTheirTimers := by
  intro s
  refine ⟨?_, ?_, ?_, fun up un hidle => congrArg _ (if_pos hidle), fun up un hwork hsum =>
    ⟨fun hsettling => ?_, fun hopen => ?_⟩, fun h => ?_, fun h => ?_⟩
  · rw [exec_cyclePeriodExpiry, cyclePeriod_eq]
    rfl
  · exact congrArg _ (if_congr (phaseOver_iff .baseSettle s) rfl rfl)
  · exact congrArg _ (if_congr (phaseOver_iff .shiftSettle s) rfl rfl)
  · have hidle : s.imon.cycle ≠ .idle := by rcases hsettling with h | h <;> simp [h]
    have hclosed : ¬ s.sampleOpen = true := by
      rw [sampleOpen_iff]
      rcases hsettling with h | h <;> simp [h]
    have hreading : s.poleReading up.toNat un.toNat = s :=
      (if_neg (not_lt.2 hsum)).trans (if_neg hclosed)
    rw [exec_poleVoltageReading up un hidle, hreading, settle_idle hwork]
  · have hidle : s.imon.cycle ≠ .idle := by rcases (sampleOpen_iff s).1 hopen with h | h <;> simp [h]
    have hreading : s.poleReading up.toNat un.toNat = s.modImon fun m =>
        { m with sumP := m.sumP + up.toNat, sumN := m.sumN + un.toNat, samples := m.samples + 1 } :=
      (if_neg (not_lt.2 hsum)).trans (if_pos hopen)
    rw [exec_poleVoltageReading up un hidle, hreading, settle_idle (by exact hwork)]
    rfl
  · exact congrArg _ (if_neg (phaseOver_early h))
  · exact congrArg _ (if_neg (phaseOver_early h))

end Sys2Proof.Machine
end

section
/-! The end of a Sample phase (R33, R52, R72): the window's end outside a phase, and BaseSample's completion: O38. -/

namespace Sys2Proof.Machine

section

variable {s : State} {z : Zone}

/-! ### Zones in line with their flags (R52) -/

/-- R52: a connected zone is enabled and an Off one is not. -/
def Zone.Aligned (z : Zone) : Prop :=
  (z.state.connected = true → z.enabled = true) ∧ (z.state = .off → z.enabled = false)

theorem aligned_of_not_outOfLine (h : z.outOfLine = false) : z.Aligned := by
  unfold Zone.Aligned
  unfold Zone.outOfLine at h
  cases hst : z.state <;> simp_all [ZoneState.connected]

theorem inLine_aligned (live : Bool) (z : Zone) : (z.inLine live).Aligned := by
  unfold Zone.inLine
  split
  case h_1 hst | h_2 hst | h_3 hst =>
    split
    next hon => exact ⟨fun _ => hon, fun hoff => by simp [hst] at hoff⟩
    next hoff => exact ⟨fun h => by simp [Zone.toOff, Zone.rest, ZoneState.connected] at h, fun _ =>
      Bool.eq_false_iff.2 hoff⟩
  case h_4 hst =>
    split
    next hon => exact ⟨fun _ => hon, fun hoff => by simp [Zone.connect, Zone.recompute] at hoff⟩
    next hoff => exact ⟨fun h => by simp [hst, ZoneState.connected] at h, fun _ => Bool.eq_false_iff.2 hoff⟩
  case h_5 hst | h_6 hst =>
    exact ⟨fun h => by simp [hst, ZoneState.connected] at h, fun h => by simp [hst] at h⟩

theorem drive_enabled (g : Nat) (z : Zone) : (z.drive g).enabled = z.enabled := by
  unfold Zone.drive
  split <;> rfl

theorem drive_off (g : Nat) (z : Zone) : (z.drive g).state = .off ↔ z.state = .off := by
  unfold Zone.drive
  split
  next hst =>
    dsimp only
    split <;> simp [hst]
  all_goals exact .rfl

theorem drive_aligned (h : z.Aligned) (g : Nat) : (z.drive g).Aligned := by
  obtain ⟨hon, hoff⟩ := h
  refine ⟨fun hst => ?_, fun hst => ?_⟩
  · rw [drive_enabled]
    exact hon ((drive_contactor g z).2 ▸ hst)
  · rw [drive_enabled]
    exact hoff ((drive_off g z).1 hst)

theorem zonesInLine_aligned (s : State) (i : Fin 6) : (s.zonesInLine.zone i).Aligned := by
  unfold State.zonesInLine
  split
  · change Zone.Aligned ((s.hzc.zones.map (Zone.inLine s.blocksRun)).get i)
    rw [Table.get_map]
    exact inLine_aligned _ _
  next hnone =>
    refine aligned_of_not_outOfLine (Bool.eq_false_iff.2 fun hout => hnone ?_)
    exact List.any_eq_true.2 ⟨i, mem_fins i, hout⟩

/-- R52: whatever comes before, the end of a Sample phase ends with the zones brought in line. -/
theorem windowEnd_ends {Q : State → Prop} (h : ∀ u : State, Q u.zonesInLine) (s : State) : Q s.windowEnd := by
  simp only [State.windowEnd]
  (repeat' split) <;> exact h _

theorem windowEnd_aligned (s : State) (i : Fin 6) : (s.windowEnd.zone i).Aligned :=
  windowEnd_ends (Q := fun t => (t.zone i).Aligned) (fun u => zonesInLine_aligned u i) s

/-- What drives and comings in line keep of a record, the end of a Sample phase keeps. -/
theorem windowEnd_zone {P : Zone → Prop} {i : Fin 6} (hdrive : ∀ g z, P z → P (z.drive g))
    (hinLine : ∀ live z, P z → P (z.inLine live)) (h : P (s.zone i)) : P (s.windowEnd.zone i) :=
  windowEnd_survives (survives_zone i hdrive hinLine) h

/-! ### Passes outside a Sample phase -/

theorem settle_imon_of_closed (h : s.sampleOpen = false) : s.settle.imon = s.imon :=
  passes_imon_of_closed Config.passFuel h

/-- R33: outside a Sample phase a pass holds no figures. -/
theorem pass_held_of_closed (hclosed : s.sampleOpen = false) (h : s.alc.held = false) :
    s.pass.alc.held = false := by
  rw [pass_alc_eq, passHeld_of_closed hclosed]
  simp [h]

/-- R33: no pass is held once the window has ended. -/
theorem windowEnd_held (hclosed : s.sampleOpen = false) : s.windowEnd.alc.held = false := by
  simp only [State.windowEnd]
  split
  · (repeat' split) <;> simp only [zonesInLine_frame, trigger_frame, nextChoice_alc, modAlc_alc]
    exact pass_held_of_closed hclosed rfl
  next hnot => simpa using hnot

theorem settle_held_of_closed (hclosed : s.sampleOpen = false) (h : s.alc.held = false) :
    s.settle.alc.held = false :=
  passes_closed (P := fun t => t.alc.held = false) (fun _ => pass_held_of_closed) (fun _ _ h => h)
    Config.passFuel hclosed h

theorem settle_aligned (h : ∀ i, (s.zone i).Aligned) (i : Fin 6) : (s.settle.zone i).Aligned :=
  settle_survives (survives_zone (P := Zone.Aligned) i (fun g _ h => drive_aligned h g)
    fun live z _ => inLine_aligned live z) (h i)

end

/-! ### BaseSample completes (R70) -/

section

variable {s : State}

theorem exec_baseSampleEnd (hcycle : s.imon.cycle = .baseSample) (hover : 500 ≤ s.imon.phaseMs) :
    exec .baseSampleEnd s = .next s.completeBase.settle :=
  congrArg _ (if_pos ((phaseOver_iff _ s).2 ⟨hcycle, hover⟩))

/-- R68: the means of the phase in progress; the mean of no reading is free (assumption 16). -/
theorem mean_eq (m : Insulation) : m.meanP =
    (if m.samples = 0 then Config.meanOfNone true (decide (m.cycle = .shiftSample)) else m.sumP / m.samples) ∧
    m.meanN =
    (if m.samples = 0 then Config.meanOfNone false (decide (m.cycle = .shiftSample)) else m.sumN / m.samples) :=
  ⟨rfl, rfl⟩

theorem completeBase_imon (s : State) : s.completeBase.imon = s.imon.takeBase :=
  (windowEnd_frame (s.modImon Insulation.takeBase)).1

theorem completeBase_closed (s : State) : s.completeBase.sampleOpen = false := by
  rw [State.sampleOpen, completeBase_imon]
  rfl

end

/-- Settles O38: BaseSample's completion ends the window before its pass, and that pass runs outside any Sample
phase. -/
theorem baseSampleGivesTheVoltages : Obligations.BaseSampleGivesTheVoltages := by
  intro s hcycle hover mean up un
  have hclosed := completeBase_closed s
  have himon : s.completeBase.settle.imon = s.imon.takeBase :=
    (settle_imon_of_closed hclosed).trans (completeBase_imon s)
  obtain ⟨hmeanP, hmeanN⟩ := mean_eq s.imon
  rw [hcycle] at hmeanP hmeanN
  have hup : s.imon.meanP = up := hmeanP
  have hun : s.imon.meanN = un := hmeanN
  refine ⟨_, exec_baseSampleEnd hcycle hover, ?_, ?_, fun i => ?_, fun hruns => ?_, ?_⟩
  · rw [himon, Insulation.takeBase, hup, hun]
  · exact settle_held_of_closed hclosed (windowEnd_held (s := s.modImon Insulation.takeBase) rfl)
  · exact settle_aligned (s := s.completeBase) (windowEnd_aligned _) i
  · have hruns' : s.completeBase.blocksRun = true :=
      (runs_congr (windowEnd_frame (s.modImon Insulation.takeBase)).2.2.2.2.2.1).1.trans hruns
    exact (settle_recorded rfl hruns').vbus.trans (congrArg _ (settle_imon_of_closed hclosed).symm)
  · simp [State.completeBase]

end Sys2Proof.Machine
end

section
/-! A reading without a bus (R74): the fault table, the abandoned sequence and its zone, and O37. -/

namespace Sys2Proof.Machine

/-! ### One record for each origin (R85) -/

theorem oneRecordEach_iff (m : Insulation) : m.oneRecordEach = true ↔
    ∀ k l x y, m.faults.get k = some x → m.faults.get l = some y → x.origin = y.origin → k = l := by
  refine ⟨fun h k l x y hx hy => slot_of_origin h hx hy, fun h => decide_eq_true ?_⟩
  refine List.pairwise_filterMap.2 (List.pairwise_iff_getElem.2 fun a b ha hb hab o ho o' ho' heq => ?_)
  have ha' : a < 8 := m.faults.size ▸ ha
  have hb' : b < 8 := m.faults.size ▸ hb
  obtain ⟨x, hx, rfl⟩ := Option.map_eq_some_iff.1 ho
  obtain ⟨y, hy, rfl⟩ := Option.map_eq_some_iff.1 ho'
  have hkl := h ⟨a, ha'⟩ ⟨b, hb'⟩ x y hx hy heq
  exact absurd (Fin.mk.inj_iff.1 hkl) (ne_of_lt hab)

theorem oneRecordEach_congr {m w : Insulation}
    (h : ∀ k, (w.faults.get k).map FaultRec.origin = (m.faults.get k).map FaultRec.origin)
    (hm : m.oneRecordEach = true) : w.oneRecordEach = true := by
  have hback : ∀ k x, w.faults.get k = some x → ∃ u, m.faults.get k = some u ∧ u.origin = x.origin :=
    fun k x hx => Option.map_eq_some_iff.1 ((h k).symm.trans (congrArg _ hx))
  refine (oneRecordEach_iff w).2 fun k l x y hx hy heq => ?_
  obtain ⟨u, hu, hux⟩ := hback k x hx
  obtain ⟨v, hv, hvy⟩ := hback l y hy
  exact slot_of_origin hm hu hv (hux.trans (heq.trans hvy.symm))

section

variable {s : State} {i : Fin 6}

/-- R90: the table alone takes the end of a condition. -/
theorem conditionEnds_imon (o : Origin) (s : State) :
    (s.conditionEnds o).imon = { s.imon with faults := (s.conditionEnds o).imon.faults } := by
  unfold State.conditionEnds
  split <;> rfl

theorem conditionEnds_oneRecordEach (h : s.imon.oneRecordEach = true) (o : Origin) :
    (s.conditionEnds o).imon.oneRecordEach = true := by
  refine oneRecordEach_congr (fun k => ?_) h
  rw [conditionEnds_faults h, Option.map_map]
  refine congrFun (congrArg Option.map (funext fun r => ?_)) _
  dsimp only [Function.comp]
  split <;> rfl

theorem poleConditionsEnd_imon (s : State) :
    s.poleConditionsEnd.imon = { s.imon with faults := s.poleConditionsEnd.imon.faults } := by
  rw [State.poleConditionsEnd, conditionEnds_imon (.pole .neg), conditionEnds_imon (.pole .pos)]

/-- R90: at a no-bus ending the records of both poles lose their condition. -/
theorem poleConditionsEnd_faults (h : s.imon.oneRecordEach = true) (k : Fin 8) :
    s.poleConditionsEnd.imon.faults.get k = (s.imon.faults.get k).map fun r =>
      if r.origin = .pole .pos ∨ r.origin = .pole .neg then
        { r with state := if r.state = .active then .cleared
                   else if r.state = .acknowledged then .resolved else r.state }
      else r := by
  rw [State.poleConditionsEnd, conditionEnds_faults (conditionEnds_oneRecordEach h _), conditionEnds_faults h,
    Option.map_map]
  refine congrFun (congrArg Option.map (funext fun r => ?_)) _
  dsimp only [Function.comp]
  by_cases hpos : r.origin = .pole .pos
  · simp [hpos, disappear_eq]
  · by_cases hneg : r.origin = .pole .neg <;> simp [hpos, hneg, disappear_eq]

/-! ### An abandoned sequence and its zone (R57, R97) -/

theorem abandonLocating_imon (s : State) :
    s.abandonLocating.imon = { s.imon with loc := s.imon.loc.abandoned s.tck.wall } := by
  unfold State.abandonLocating
  split
  · exact abandonRecord_imon s
  next z _ => simp only [abandonRecord_imon, releaseZone_frame]

theorem abandonLocating_atn (s : State) : s.abandonLocating.atn = s.atn := by
  unfold State.abandonLocating
  split <;> simp

theorem abandoned_pole (now : Nat) (l : Locating) : (l.abandoned now).pole = none := by
  unfold Locating.abandoned
  split
  next h => exact h
  next => rfl

theorem abandoned_outcome {now : Nat} {l : Locating} (h : l.pole ≠ none) :
    (l.abandoned now).outcome = .abandoned := by
  unfold Locating.abandoned
  split
  next hnone => exact absurd hnone h
  next => rfl

/-- R97, R57: the zone of an abandoned sequence is released. -/
theorem abandonLocating_zone (hcurrent : s.imon.loc.current = some i) (hst : (s.zone i).state = .isolated) :
    s.abandonLocating.zone i = (s.zone i).released s.blocksRun := by
  unfold State.abandonLocating
  rw [hcurrent]
  dsimp only
  rw [State.zone, (abandonRecord_frame _).2.2.1, State.releaseZone, if_pos hst]
  exact (zone_modZone i i _ s).trans (if_pos rfl)

/-- R57: a released zone has lost its isolation. -/
theorem released_resume (live : Bool) (z : Zone) :
    (z.released live).resume = none ∧ (z.released live).disableAfter = false := by
  unfold Zone.released
  split
  · exact ⟨rfl, rfl⟩
  next h => exact ⟨rfl, Bool.eq_false_iff.2 h⟩

theorem released_off {z : Zone} (h : z.disableAfter = true) (live : Bool) : z.released live = z.toOff :=
  if_pos h

theorem released_connect {z : Zone} (h : z.disableAfter = false) (live : Bool) :
    z.released live = { z.connect live (z.resume.getD .requested) with resume := none } :=
  if_neg (by simp [h])

/-! ### A record through the passes, as the blocks run -/

/-- What drives and comings in line keep of a record while the blocks run or stand, passes keep. -/
theorem survives_zone_live {P : Zone → Prop} (i : Fin 6) (live : Bool) (hdrive : ∀ g z, P z → P (z.drive g))
    (hinLine : ∀ z, P z → P (z.inLine live)) : Survives fun t => t.blocksRun = live ∧ P (t.zone i) where
  pass t h := by
    refine ⟨(runs_congr (by simp)).1.trans h.1, ?_⟩
    rw [pass_zone]
    split
    · exact h.2
    · exact hdrive _ _ h.2
  inLine t h := by
    refine ⟨(runs_congr (by simp)).1.trans h.1, ?_⟩
    rcases zonesInLine_zone t i with hsame | hline
    · rw [hsame]; exact h.2
    · rw [hline, h.1]; exact hinLine _ h.2
  work _ _ h := h
  choice _ h := h
  unheld _ h := h
  restart _ _ h := h

theorem drive_record (g : Nat) (z : Zone) : (z.drive g).resume = z.resume ∧
    (z.drive g).disableAfter = z.disableAfter ∧ (z.drive g).contactor = z.contactor := by
  unfold Zone.drive
  split <;> exact ⟨rfl, rfl, rfl⟩

/-- A record without isolation keeps none in line with its flag. -/
theorem inLine_resume {z : Zone} (h : z.resume = none ∧ z.disableAfter = false) (live : Bool) :
    (z.inLine live).resume = none ∧ (z.inLine live).disableAfter = false := by
  unfold Zone.inLine
  split
  case h_1 | h_2 | h_3 =>
    split
    · exact h
    · exact ⟨rfl, rfl⟩
  case h_4 => split <;> exact h
  all_goals exact h

/-- An enabled record keeps its contactor as the blocks run in line with its flag. -/
theorem inLine_contactor {z : Zone} {live : Bool} (h : z.enabled = true ∧ z.contactor = live) :
    (z.inLine live).enabled = true ∧ (z.inLine live).contactor = live := by
  unfold Zone.inLine
  rw [h.1]
  split
  case h_4 => exact ⟨h.1, rfl⟩
  all_goals exact h

end

/-! ### The reading (R74, R78) -/

section

variable {s : State} {up un : Nat}

/-- R71: the record of a cycle that starts. -/
def Insulation.started (m : Insulation) : Insulation :=
  { m with cycle := .baseSettle, phaseMs := 0, discards := 0, shifted := none, sumP := 0, sumN := 0,
           samples := 0, periodMs := 0 }

theorem startCycle_imon (s : State) : s.startCycle.imon = s.imon.started := rfl

theorem startCycleIfDue_imon (s : State) : s.startCycleIfDue.imon =
    if s.imon.cycle = .idle ∧ s.cyclePeriod ≤ s.imon.periodMs then s.imon.started else s.imon := by
  unfold State.startCycleIfDue
  split <;> rfl

/-- R74, R78: IMON once a reading has ended the cycle, before the next one starts. -/
def State.unbussed (up un : Nat) (s : State) : State :=
  (s.endCycle.modImon fun m =>
    { m with uP0 := up, uN0 := un, vbus := up + un, outcome := .noBus, endTime := s.now }).polesUnknown

theorem noBus_eq (up un : Nat) (s : State) : s.noBus up un =
    ((if s.sampleOpen then (s.unbussed up un).poleConditionsEnd.abandonLocating.windowEnd
      else (s.unbussed up un).poleConditionsEnd.abandonLocating).startCycleIfDue).trigger := rfl

/-- The measurement's own fields once a reading has ended the cycle. -/
theorem ended_imon (up un : Nat) (s : State) :
    (s.unbussed up un).poleConditionsEnd.abandonLocating.imon =
      { (s.unbussed up un).imon with
        faults := (s.unbussed up un).poleConditionsEnd.imon.faults
        loc := s.imon.loc.abandoned s.tck.wall } := by
  rw [abandonLocating_imon, poleConditionsEnd_imon, (poleConditionsEnd_frame _).2.2.2.2.2.1]
  rfl

/-- R71, R74: the record that the reading leaves; the next cycle starts when its period has passed. -/
theorem noBus_imon (up un : Nat) (s : State) : (s.noBus up un).imon =
    { (s.unbussed up un).imon with
      faults := (s.unbussed up un).poleConditionsEnd.imon.faults
      loc := s.imon.loc.abandoned s.tck.wall
      cycle := if s.cyclePeriod ≤ s.imon.periodMs then .baseSettle else .idle
      discards := if s.cyclePeriod ≤ s.imon.periodMs then 0 else s.imon.discards
      periodMs := if s.cyclePeriod ≤ s.imon.periodMs then 0 else s.imon.periodMs } := by
  have hended : (if s.sampleOpen then (s.unbussed up un).poleConditionsEnd.abandonLocating.windowEnd
      else (s.unbussed up un).poleConditionsEnd.abandonLocating).imon =
      (s.unbussed up un).poleConditionsEnd.abandonLocating.imon := by
    split <;> simp
  have hperiod : (if s.sampleOpen then (s.unbussed up un).poleConditionsEnd.abandonLocating.windowEnd
      else (s.unbussed up un).poleConditionsEnd.abandonLocating).cyclePeriod = s.cyclePeriod :=
    (runs_congr (by split <;> simp [State.unbussed])).2.2.2.2
  rw [noBus_eq, (trigger_frame _).2.2.2.1, startCycleIfDue_imon, hended, hperiod, ended_imon]
  by_cases hdue : s.cyclePeriod ≤ s.imon.periodMs
  · rw [if_pos ⟨rfl, hdue⟩]
    simp only [if_pos hdue]
    rfl
  · rw [if_neg fun h => hdue h.2]
    simp only [if_neg hdue]
    rfl

theorem noBus_closed (up un : Nat) (s : State) : (s.noBus up un).sampleOpen = false := by
  rw [Bool.eq_false_iff, ne_eq, sampleOpen_iff, noBus_imon]
  dsimp only
  split <;> exact fun h => h.elim nofun nofun

/-- R57: what follows the release of the sequence's zone, up to the end of the event. -/
theorem noBus_zone {P : Zone → Prop} {i : Fin 6} (hcurrent : s.imon.loc.current = some i)
    (hst : (s.zone i).state = .isolated) (hdrive : ∀ g z, P z → P (z.drive g))
    (hinLine : ∀ z, P z → P (z.inLine s.blocksRun)) (h : P ((s.zone i).released s.blocksRun)) :
    P ((s.noBus up un).settle.zone i) := by
  have hsurvives := survives_zone_live i s.blocksRun hdrive hinLine
  have hloc : (s.unbussed up un).poleConditionsEnd.imon.loc = s.imon.loc := by
    rw [poleConditionsEnd_imon]
    rfl
  have hzone : (s.unbussed up un).poleConditionsEnd.zone i = s.zone i := by
    rw [State.zone, (poleConditionsEnd_frame _).2.2.1]
    rfl
  have hruns : (s.unbussed up un).poleConditionsEnd.blocksRun = s.blocksRun :=
    (runs_congr (by simp [State.unbussed])).1
  have hended := abandonLocating_zone (s := (s.unbussed up un).poleConditionsEnd) (i := i) (by rw [hloc, hcurrent])
    (by rw [hzone, hst])
  rw [hzone, hruns] at hended
  have hreleased : (s.unbussed up un).poleConditionsEnd.abandonLocating.blocksRun = s.blocksRun ∧
      P ((s.unbussed up un).poleConditionsEnd.abandonLocating.zone i) :=
    ⟨(runs_congr (by simp)).1.trans hruns, by rw [hended]; exact h⟩
  have hline : ∀ u : State, u.blocksRun = s.blocksRun ∧ P (u.zone i) →
      u.startCycleIfDue.trigger.blocksRun = s.blocksRun ∧ P (u.startCycleIfDue.trigger.zone i) := by
    intro u hu
    refine ⟨(runs_congr (s := u) (by simp)).1.trans hu.1, ?_⟩
    rw [State.zone, (trigger_frame _).2.2.1, (startCycleIfDue_frame _).2.2.1]
    exact hu.2
  rw [noBus_eq]
  refine (settle_survives hsurvives (hline _ ?_)).2
  split
  · exact windowEnd_survives hsurvives hreleased
  · exact hreleased

/-- R57: the zone of an abandoned sequence, released and taken through the rest of the event. -/
theorem noBus_zone_released {i : Fin 6} (hcurrent : s.imon.loc.current = some i)
    (hst : (s.zone i).state = .isolated) :
    ((s.noBus up un).settle.zone i).resume = none ∧ ((s.noBus up un).settle.zone i).disableAfter = false :=
  noBus_zone (P := fun z => z.resume = none ∧ z.disableAfter = false) hcurrent hst
    (fun g z h => by
      obtain ⟨hresume, hdisable, -⟩ := drive_record g z
      exact ⟨hresume.trans h.1, hdisable.trans h.2⟩)
    (fun _ h => inLine_resume h _) (released_resume _ _)

/-- R58: a zone disabled while it was Isolated comes to rest. -/
theorem noBus_zone_off {i : Fin 6} (hcurrent : s.imon.loc.current = some i) (hst : (s.zone i).state = .isolated)
    (hdisable : (s.zone i).disableAfter = true) (hoff : (s.zone i).enabled = false) :
    (s.noBus up un).settle.zone i = (s.zone i).toOff := by
  have hstill : (s.zone i).toOff.Still := .inr (.inr ⟨rfl, hoff⟩)
  exact noBus_zone (P := fun z => z = (s.zone i).toOff) hcurrent hst
    (by rintro g z rfl; exact drive_of_rest (connected_of_still hstill) g)
    (by rintro z rfl; exact inLine_of_still hstill _) (released_off hdisable _)

/-- R57: an enabled zone closes its contactor again, where the blocks run. -/
theorem noBus_zone_contactor {i : Fin 6} (hcurrent : s.imon.loc.current = some i)
    (hst : (s.zone i).state = .isolated) (hdisable : (s.zone i).disableAfter = false)
    (hon : (s.zone i).enabled = true) : ((s.noBus up un).settle.zone i).contactor = s.blocksRun :=
  (noBus_zone (P := fun z => z.enabled = true ∧ z.contactor = s.blocksRun) hcurrent hst
    (fun g z h => ⟨(drive_enabled g z).trans h.1, (drive_record g z).2.2.trans h.2⟩)
    (fun _ h => inLine_contactor h) (by rw [released_connect hdisable]; exact ⟨hon, rfl⟩)).2

/-- R57: an enabled zone returns to its resume-state, from where a pass may bring Requested to Heating. -/
theorem noBus_zone_resumed {i : Fin 6} (hcurrent : s.imon.loc.current = some i)
    (hst : (s.zone i).state = .isolated) (hdisable : (s.zone i).disableAfter = false)
    (hon : (s.zone i).enabled = true) {st : ZoneState} (hresume : (s.zone i).resume = some st)
    (hconnected : st.connected = true) : ((s.noBus up un).settle.zone i).state = st ∨
      (st = .requested ∧ ((s.noBus up un).settle.zone i).state = .heating) := by
  have hreleased := released_connect hdisable s.blocksRun
  rw [hresume] at hreleased
  have hserved : ((s.zone i).released s.blocksRun).ServedAs ((s.noBus up un).settle.zone i) := by
    refine noBus_zone hcurrent hst (fun g _ h => drive_servedAs h g) (fun z h => ?_) (.refl _)
    rw [inLine_of_enabled (z := z) (by rw [h.record, hreleased]; exact hon)
      (connected_of_servedAs h (by rw [hreleased]; exact hconnected))]
    exact h
  have hstate : ((s.zone i).released s.blocksRun).state = st := by rw [hreleased]; rfl
  rw [← hstate]
  exact hserved.state

/-- A source that no pass raises stands through the end of a Sample phase. -/
theorem windowEnd_other_source (s : State) {i : Fin 11} (h1 : i ≠ 5) (h2 : i ≠ 7) :
    s.windowEnd.atn.sources.get i = s.atn.sources.get i :=
  windowEnd_survives (P := fun t => t.atn.sources.get i = s.atn.sources.get i)
    { pass := fun t h => (pass_other_source t h1 h2).trans h, inLine := fun t h => by simpa using h,
      work := fun _ _ h => h, choice := fun _ h => h, unheld := fun _ h => h, restart := fun _ _ h => h } rfl

/-- R74: no insulation source and no stop is raised. -/
theorem noBus_source (up un : Nat) (s : State) {k : Fin 11} (h1 : k ≠ 5) (h2 : k ≠ 7) :
    (s.noBus up un).settle.atn.sources.get k = s.atn.sources.get k := by
  have hended : (s.unbussed up un).poleConditionsEnd.abandonLocating.atn = s.atn := by
    rw [abandonLocating_atn, (poleConditionsEnd_frame _).2.2.2.2.2.2.2.1]
    rfl
  rw [settle_other_source _ h1 h2, noBus_eq, (trigger_frame _).2.2.2.2.2.2.2.2.1,
    (startCycleIfDue_frame _).2.2.2.2.2.2.2.1]
  split
  · rw [windowEnd_other_source _ h1 h2, hended]
  · rw [hended]

/-- R23: without a bus the pass stands outside the charger window. -/
theorem recorded_busRange {x : PassInputs} {g : GridFigures} {c : CauseSet} (h : s.Recorded x g c)
    (hvbus : s.imon.vbus < 2000) : c.getLsbD 8 = true := by
  have hbit : c.has .busRange = x.busOut := by
    rw [h.causes]
    exact causes_has .busRange
  exact hbit.trans (busOut_iff.2 (.inl (h.vbus ▸ hvbus)))

end

/-- Settles O37: the record that the reading leaves stands through the event, for its passes run outside a Sample
phase; the isolated zone is released before the window ends. -/
theorem noBusEndsTheCycle : Obligations.NoBusEndsTheCycle := by
  intro s up un hcycle hsum
  have hreading : s.poleReading up.toNat un.toNat = s.noBus up.toNat un.toNat := if_pos hsum
  refine ⟨_, (exec_poleVoltageReading up un hcycle).trans (congrArg (Host.Outcome.next ∘ State.settle) hreading), ?_⟩
  have himon : (s.noBus up.toNat un.toNat).settle.imon = _ :=
    (settle_imon_of_closed (noBus_closed _ _ _)).trans (noBus_imon up.toNat un.toNat s)
  have hframe : (s.noBus up.toNat un.toNat).pwc = s.pwc := (noBus_frame _ _ s).2.2.2.2.1
  rw [himon]
  refine ⟨rfl, rfl, rfl, rfl, rfl, rfl, rfl, rfl, rfl, rfl, rfl, rfl, abandoned_pole _ _, abandoned_outcome,
    fun z hcurrent hst => ?_, ?_, poleConditionsEnd_faults (s := s.unbussed up.toNat un.toNat), fun hruns => ?_,
    fun k hk => ?_, ?_⟩
  · refine ⟨(noBus_zone_released hcurrent hst).1, (noBus_zone_released hcurrent hst).2, fun hdisable hoff => ?_,
      fun hdisable hon => ⟨noBus_zone_contactor hcurrent hst hdisable hon, fun hresume => ?_, fun hresume => ?_,
        fun hresume => ?_⟩⟩
    · rw [noBus_zone_off hcurrent hst hdisable hoff]
      exact ⟨rfl, rfl⟩
    · exact (noBus_zone_resumed hcurrent hst hdisable hon hresume rfl).imp id And.right
    · exact (noBus_zone_resumed hcurrent hst hdisable hon hresume rfl).elim id And.right
    · exact (noBus_zone_resumed hcurrent hst hdisable hon hresume rfl).elim id fun h => nomatch h.1
  · rw [← cyclePeriod_eq]
  · have hrec := settle_recorded (s := s.noBus up.toNat un.toNat) rfl ((runs_congr hframe).1.trans hruns)
    have hvbus : (s.noBus up.toNat un.toNat).imon.vbus = up.toNat + un.toNat := by rw [noBus_imon]; rfl
    exact ⟨hrec.vbus.trans hvbus, recorded_busRange hrec (by omega)⟩
  · exact noBus_source _ _ s (by rintro rfl; exact absurd hk (by decide)) (by rintro rfl; exact absurd hk (by decide))
  · simp only [settle_frame, noBus_frame, and_self]

end Sys2Proof.Machine
end

section
/-! The fault table at a Compute (R85, R87 to R90): what it takes from one pole, and from both. -/

namespace Sys2Proof.Machine

/-! ### Records and Free slots (R85) -/

/-- The eight origins, numbered. -/
def Origin.number : Origin → Fin 8
  | .pole .pos => 0
  | .pole .neg => 1
  | .zone z => ⟨z.val + 2, by omega⟩

theorem number_injective {o o' : Origin} (h : o.number = o'.number) : o = o' := by
  have hval := congrArg Fin.val h
  match o, o' with
  | .pole .pos, .pole .pos => rfl
  | .pole .neg, .pole .neg => rfl
  | .zone z, .zone z' => exact congrArg Origin.zone (Fin.ext (Nat.add_right_cancel hval))
  | .pole .pos, .pole .neg | .pole .neg, .pole .pos => exact absurd h (by decide)
  | .pole .pos, .zone z | .pole .neg, .zone z => simp [Origin.number] at hval
  | .zone z, .pole .pos | .zone z, .pole .neg => simp [Origin.number] at hval

section

variable {m w : Insulation} {o : Origin} {k : Fin 8} {x : FaultRec}

theorem recordOf_some (h : m.recordOf o = some k) : ∃ x, m.faults.get k = some x ∧ x.origin = o := by
  have hfound : (m.faults.get k).map FaultRec.origin = some o :=
    of_decide_eq_true (Table.find_some (p := fun r => decide (Option.map FaultRec.origin r = some o)) h)
  exact Option.map_eq_some_iff.1 hfound

theorem recordOf_none (h : m.recordOf o = none) : ∀ k x, m.faults.get k = some x → x.origin ≠ o := by
  intro k x hx ho
  have hmiss := of_decide_eq_false (Table.find_eq_none.1 h k)
  exact hmiss (by rw [hx, Option.map_some, ho])

theorem recordOf_of_get (h : m.oneRecordEach = true) (hx : m.faults.get k = some x) :
    m.recordOf x.origin = some k := by
  cases hfound : m.recordOf x.origin with
  | none => exact absurd rfl (recordOf_none hfound k x hx)
  | some l =>
    obtain ⟨y, hy, heq⟩ := recordOf_some hfound
    exact congrArg some (slot_of_origin h hy hx heq)

theorem recordOf_congr (h : ∀ k, (w.faults.get k).map FaultRec.origin = (m.faults.get k).map FaultRec.origin)
    (o : Origin) : w.recordOf o = m.recordOf o :=
  find_congr fun k => by rw [h k]

/-- R85: eight slots hold the records of eight origins, so that a missing record leaves a Free slot. -/
theorem freeSlot_of_missing (h : m.oneRecordEach = true) (hmissing : ∀ k x, m.faults.get k = some x → x.origin ≠ o) :
    ∃ k, m.freeSlot = some k := by
  refine Option.ne_none_iff_exists'.1 fun hfull => ?_
  have hheld : ∀ k, ∃ x, m.faults.get k = some x := fun k =>
    Option.ne_none_iff_exists'.1 fun hnone => by
      have hslot := Table.find_eq_none.1 hfull k
      rw [hnone] at hslot
      exact absurd hslot (by decide)
  choose rec hrec using hheld
  have hinj : Function.Injective fun k => (rec k).origin.number := fun k l hkl =>
    slot_of_origin h (hrec k) (hrec l) (number_injective hkl)
  obtain ⟨k, hk⟩ := Finite.injective_iff_surjective.1 hinj o.number
  exact hmissing k _ (hrec k) (number_injective hk)

theorem freeSlot_some (h : m.freeSlot = some k) :
    m.faults.get k = none ∧ ∀ j, j < k → m.faults.get j ≠ none := by
  refine ⟨Option.isNone_iff_eq_none.1 (Table.find_some h), fun j hj hnone => ?_⟩
  have hheld := Table.find_lowest h j hj
  rw [hnone] at hheld
  exact absurd hheld (by decide)

end

/-! ### A record at a Compute (R87 to R90) -/

/-- What a change of severity from `b` to `a` makes of the pole's record (R87, R88, R90). -/
def FaultRec.takes (b a : Severity) (r now : Nat) (x : FaultRec) : FaultRec :=
  match b, a with
  | .unknown, .warning | .normal, .warning => x.rearise .warning r now
  | .unknown, .fault | .normal, .fault => x.rearise .fault r now
  | .warning, .fault => x.escalate r now
  | .warning, .normal | .fault, .normal => x.disappear
  | _, _ => x

/-- The pole's record after a Compute: its change of severity, and this cycle's resistance (R89). -/
def FaultRec.after (b a : Severity) (r now : Nat) (x : FaultRec) : FaultRec :=
  if a.raised then (x.takes b a r now).seen r now else x.takes b a r now

/-- The record that a pole without one gets (R87). -/
def FaultRec.born (p : Pole) (a : Severity) (r now : Nat) : FaultRec :=
  ⟨.pole p, .active, a, r, now, now, 1⟩

/-- What R77 leaves as changes of severity (`update_follows`). -/
def Severity.Follows (b a : Severity) : Prop := (a = .unknown → b = .unknown) ∧ (b = .fault → a ≠ .warning)

/-- R87: the pole has newly reached Warning or Fault. -/
def Severity.Rises (b a : Severity) : Prop := a.raised = true ∧ a ≠ b

theorem takes_origin (b a : Severity) (r now : Nat) (x : FaultRec) : (x.takes b a r now).origin = x.origin := by
  unfold FaultRec.takes
  split <;> rfl

theorem after_origin (b a : Severity) (r now : Nat) (x : FaultRec) : (x.after b a r now).origin = x.origin := by
  unfold FaultRec.after
  split <;> exact takes_origin b a r now x

theorem worse_eq {v a : Severity} (h : a = .warning ∨ a = .fault) :
    v.worse a = if v = .fault ∨ a = .fault then .fault else .warning := by
  rcases h with rfl | rfl <;> cases v <;> rfl

/-- A record after a Compute in the words of R87 to R90. -/
theorem after_eq {b a : Severity} (h : b.Follows a) (r now : Nat) (x : FaultRec) : x.after b a r now =
    if (a = .warning ∨ a = .fault) ∧ ¬ (b = .warning ∨ b = .fault) then
      { x with state := .active, count := min 65535 (x.count + 1), last := now,
               highest := if x.highest = .fault ∨ a = .fault then .fault else .warning,
               lowestR := min x.lowestR r }
    else if b = .warning ∧ a = .fault then
      { x with highest := .fault, last := now, lowestR := min x.lowestR r,
               state := if x.state = .acknowledged then .active else x.state }
    else if a = .warning ∨ a = .fault then { x with last := now, lowestR := min x.lowestR r }
    else if b = .warning ∨ b = .fault then
      { x with state := if x.state = .active then .cleared
                 else if x.state = .acknowledged then .resolved else x.state }
    else x := by
  obtain ⟨hunknown, hfault⟩ := h
  have hmin : min (min x.lowestR r) r = min x.lowestR r := by omega
  cases b <;> cases a <;>
    simp_all [FaultRec.after, FaultRec.takes, Severity.raised, FaultRec.rearise, FaultRec.escalate,
      FaultRec.seen, disappear_eq, worse_eq]

/-! ### One pole (R87 to R90) -/

section

variable {s : State} {p : Pole} {b a : Severity} {r : Nat} {i : Fin 8}

/-- Step 4 of a Compute for one pole. -/
def State.tableStep (p : Pole) (b a : Severity) (r : Nat) (s : State) : State :=
  (s.tableTakes p b a r).tableSees p a r

theorem modFault_imon (i : Fin 8) (f : FaultRec → FaultRec) (s : State) : (s.modFault i f).imon =
    { s.imon with faults := s.imon.faults.modify i (Option.map f) } := rfl

theorem modFault_origins {f : FaultRec → FaultRec} (hf : ∀ x, (f x).origin = x.origin) (i k : Fin 8) (s : State) :
    ((s.modFault i f).imon.faults.get k).map FaultRec.origin = (s.imon.faults.get k).map FaultRec.origin := by
  rw [modFault_imon, Table.get_modify]
  split
  · rw [Option.map_map]
    exact congrFun (congrArg Option.map (funext hf)) _
  · rfl

theorem modFault_id (i : Fin 8) (s : State) : (s.modFault i fun x => x) = s := by
  have htable : s.imon.faults.modify i (Option.map fun x => x) = s.imon.faults := Table.ext_get fun k => by
    rw [Table.get_modify]
    split
    · exact Option.map_id'
    · rfl
  change ({ s with imon := { s.imon with faults := s.imon.faults.modify i (Option.map fun x => x) } } : State) = s
  rw [htable]

theorem tableTakes_of_record (h : s.imon.recordOf (.pole p) = some i) :
    s.tableTakes p b a r = s.modFault i (FaultRec.takes b a r s.now) := by
  have harises : ∀ sev, s.conditionArises (.pole p) sev r = s.modFault i (FaultRec.rearise sev r s.now) := by
    simp [State.conditionArises, h]
  have hworsens : s.conditionWorsens (.pole p) r = s.modFault i (FaultRec.escalate r s.now) := by
    simp [State.conditionWorsens, h]
  have hends : s.conditionEnds (.pole p) = s.modFault i FaultRec.disappear := by
    simp [State.conditionEnds, h]
  have hsame := (modFault_id i s).symm
  match b, a with
  | .unknown, .warning | .normal, .warning => exact harises _
  | .unknown, .fault | .normal, .fault => exact harises _
  | .warning, .fault => exact hworsens
  | .warning, .normal | .fault, .normal => exact hends
  | .unknown, .unknown | .unknown, .normal | .normal, .unknown | .normal, .normal => exact hsame
  | .warning, .unknown | .warning, .warning => exact hsame
  | .fault, .unknown | .fault, .warning | .fault, .fault => exact hsame

/-- With its record in slot `i`, a pole's Compute changes that record. -/
theorem tableStep_of_record (h : s.imon.recordOf (.pole p) = some i) : (s.tableStep p b a r).imon =
    { s.imon with faults := s.imon.faults.modify i (Option.map (FaultRec.after b a r s.tck.wall)) } := by
  have hkept : (s.modFault i (FaultRec.takes b a r s.now)).imon.recordOf (.pole p) = some i :=
    (recordOf_congr (modFault_origins (takes_origin b a r s.now) i · s) _).trans h
  rw [State.tableStep, tableTakes_of_record h, State.tableSees]
  by_cases ha : a.raised = true
  · have hafter : FaultRec.after b a r s.tck.wall = FaultRec.seen r s.tck.wall ∘ FaultRec.takes b a r s.tck.wall :=
      funext fun x => if_pos ha
    rw [if_pos ha, State.conditionSeen, hkept, hafter]
    dsimp only
    rw [modFault_imon, modFault_imon]
    refine congrArg (fun t => { s.imon with faults := t }) (Table.ext_get fun k => ?_)
    simp only [Table.get_modify]
    split
    · rw [Option.map_map]
      rfl
    · rfl
  · have hafter : FaultRec.after b a r s.tck.wall = FaultRec.takes b a r s.tck.wall := funext fun x => if_neg ha
    rw [if_neg ha, hafter]
    rfl

theorem tableTakes_of_missing (h : s.imon.recordOf (.pole p) = none) (hfollows : b.Follows a) :
    (b.Rises a → s.tableTakes p b a r = s.newRecord (.pole p) a r) ∧
    (¬ b.Rises a → s.tableTakes p b a r = s) := by
  have harises : ∀ sev, s.conditionArises (.pole p) sev r = s.newRecord (.pole p) sev r := by
    simp [State.conditionArises, h]
  have hworsens : s.conditionWorsens (.pole p) r = s.newRecord (.pole p) .fault r := by
    simp [State.conditionWorsens, h]
  have hends : s.conditionEnds (.pole p) = s := by
    simp [State.conditionEnds, h]
  match b, a with
  | .unknown, .warning | .normal, .warning | .unknown, .fault | .normal, .fault =>
    exact ⟨fun _ => harises _, fun hnot => absurd ⟨rfl, nofun⟩ hnot⟩
  | .warning, .fault => exact ⟨fun _ => hworsens, fun hnot => absurd ⟨rfl, nofun⟩ hnot⟩
  | .warning, .normal | .fault, .normal => exact ⟨fun hrises => (nomatch hrises.1), fun _ => hends⟩
  | .unknown, .unknown | .unknown, .normal | .normal, .unknown | .normal, .normal | .warning, .unknown |
    .fault, .unknown => exact ⟨fun hrises => (nomatch hrises.1), fun _ => rfl⟩
  | .warning, .warning | .fault, .fault => exact ⟨fun hrises => absurd rfl hrises.2, fun _ => rfl⟩
  | .fault, .warning => exact absurd rfl (hfollows.2 rfl)

theorem tableStep_of_idle (h : s.imon.recordOf (.pole p) = none) (hfollows : b.Follows a) (hidle : ¬ b.Rises a) :
    (s.tableStep p b a r).imon = s.imon := by
  rw [State.tableStep, (tableTakes_of_missing h hfollows).2 hidle, State.tableSees]
  split
  · simp [State.conditionSeen, h]
  · rfl

/-- A pole newly at Warning or Fault without a record gets one in the lowest Free slot (R87, R88). -/
theorem tableStep_of_born (h : s.imon.recordOf (.pole p) = none)
    (hfree : s.imon.freeSlot = some i) (hfollows : b.Follows a) (hrises : b.Rises a) :
    (s.tableStep p b a r).imon =
      { s.imon with faults := s.imon.faults.set i (some (.born p a r s.tck.wall)) } := by
  have hnew : s.tableTakes p b a r = s.modImon fun m =>
      { m with faults := m.faults.set i (some (.born p a r s.tck.wall)) } := by
    rw [(tableTakes_of_missing h hfollows).1 hrises, State.newRecord, hfree]
    rfl
  have hfound : (s.tableTakes p b a r).imon.recordOf (.pole p) = some i := by
    rw [hnew]
    cases hrec : (s.modImon fun m =>
        { m with faults := m.faults.set i (some (.born p a r s.tck.wall)) }).imon.recordOf (.pole p) with
    | none => exact absurd rfl (recordOf_none hrec i (.born p a r s.tck.wall) (Table.get_set_self _ _ _))
    | some k =>
      obtain ⟨x, hx, hpole⟩ := recordOf_some hrec
      rw [modImon_imon, Table.get_set] at hx
      split at hx
      next hk => rw [hk]
      next => exact absurd hpole (recordOf_none h k x hx)
  have hseen : (FaultRec.born p a r s.tck.wall).seen r s.tck.wall = .born p a r s.tck.wall := by
    simp [FaultRec.seen, FaultRec.born]
  rw [State.tableStep, State.tableSees, if_pos hrises.1, State.conditionSeen, hfound]
  dsimp only
  rw [modFault_imon, hnew]
  refine congrArg (fun t => { s.imon with faults := t }) (Table.ext_get fun k => ?_)
  rw [modImon_imon, Table.get_modify]
  split
  next hk =>
    rw [hk, Table.get_set_self]
    exact congrArg some hseen
  next => rfl

/-- R87: the pole rises and the table holds no record of it. -/
def Insulation.Fresh (m : Insulation) (p : Pole) (b a : Severity) : Prop :=
  b.Rises a ∧ ∀ k x, m.faults.get k = some x → x.origin ≠ .pole p

/-- What a Compute of one pole does to the table, record by record (R87 to R90). -/
structure Insulation.Takes (m w : Insulation) (p : Pole) (b a : Severity) (r now : Nat) : Prop where
  rest : w = { m with faults := w.faults }
  one  : w.oneRecordEach = true
  old  : ∀ k x, m.faults.get k = some x →
    w.faults.get k = some (if x.origin = .pole p then x.after b a r now else x)
  free : ∀ k, m.faults.get k = none → w.faults.get k = none ∨ (m.Fresh p b a ∧
    w.faults.get k = some (.born p a r now) ∧ ∀ j, j < k → m.faults.get j ≠ none)
  born : m.Fresh p b a → ∃ k, m.faults.get k = none ∧ w.faults.get k = some (.born p a r now) ∧
    ∀ j, j < k → m.faults.get j ≠ none

theorem tableStep_takes (hone : s.imon.oneRecordEach = true) (hfollows : b.Follows a) (p : Pole) (r : Nat) :
    s.imon.Takes (s.tableStep p b a r).imon p b a r s.tck.wall := by
  cases hrec : s.imon.recordOf (.pole p) with
  | some i =>
    obtain ⟨x, hx, hpole⟩ := recordOf_some hrec
    have hstep := tableStep_of_record (b := b) (a := a) (r := r) hrec
    have hget : ∀ k, (s.tableStep p b a r).imon.faults.get k =
        if k = i then (s.imon.faults.get k).map (FaultRec.after b a r s.tck.wall) else s.imon.faults.get k := by
      intro k
      rw [hstep]
      exact Table.get_modify ..
    refine ⟨by rw [hstep], oneRecordEach_congr (fun k => ?_) hone, fun k y hy => ?_, fun k hk => .inl ?_,
      fun hfresh => absurd hpole (hfresh.2 i x hx)⟩
    · rw [hget]
      split
      · rw [Option.map_map]
        exact congrFun (congrArg Option.map (funext (after_origin b a r s.tck.wall))) _
      · rfl
    · rw [hget, hy]
      by_cases hki : k = i
      · subst hki
        cases hx.symm.trans hy
        rw [if_pos rfl, if_pos hpole]
        rfl
      · have hother : y.origin ≠ .pole p := fun ho => hki (slot_of_origin hone hy hx (ho.trans hpole.symm))
        rw [if_neg hki, if_neg hother]
    · rw [hget, hk]
      split <;> rfl
  | none =>
    have hmissing := recordOf_none hrec
    by_cases hrises : b.Rises a
    · obtain ⟨i, hi⟩ := freeSlot_of_missing hone hmissing
      obtain ⟨hfree, hlowest⟩ := freeSlot_some hi
      have hstep := tableStep_of_born (r := r) hrec hi hfollows hrises
      have hget : ∀ k, (s.tableStep p b a r).imon.faults.get k =
          if k = i then some (.born p a r s.tck.wall) else s.imon.faults.get k := by
        intro k
        rw [hstep]
        exact Table.get_set ..
      have hold : ∀ k y, s.imon.faults.get k = some y → k ≠ i := by
        rintro k y hy rfl
        exact nomatch hfree.symm.trans hy
      have hself : (s.tableStep p b a r).imon.faults.get i = some (.born p a r s.tck.wall) :=
        (hget i).trans (if_pos rfl)
      refine ⟨by rw [hstep], (oneRecordEach_iff _).2 fun k l x y hx hy heq => ?_, fun k y hy => ?_,
        fun k hk => ?_, fun _ => ⟨i, hfree, hself, hlowest⟩⟩
      · rw [hget] at hx hy
        split at hx <;> split at hy
        next hk hl => rw [hk, hl]
        next =>
          cases hx
          exact absurd heq.symm (hmissing l y hy)
        next =>
          cases hy
          exact absurd heq (hmissing k x hx)
        next => exact slot_of_origin hone hx hy heq
      · rw [hget, if_neg (hold k y hy), hy, if_neg (hmissing k y hy)]
      · by_cases hki : k = i
        · subst hki
          exact .inr ⟨⟨hrises, hmissing⟩, hself, hlowest⟩
        · exact .inl (by rw [hget, if_neg hki, hk])
    · have hstep := tableStep_of_idle (r := r) hrec hfollows hrises
      rw [hstep]
      exact ⟨rfl, hone, fun k y hy => by rw [if_neg (hmissing k y hy), hy], fun k hk => .inl hk,
        fun hfresh => absurd hfresh.1 hrises⟩

end

/-! ### Both poles, POS before NEG -/

section

variable {m v w : Insulation} {b a : Pole → Severity} {r : Pole → Nat} {now : Nat}

/-- A record of either pole after a Compute; a zone's record stands. -/
def FaultRec.afterBoth (b a : Pole → Severity) (r : Pole → Nat) (now : Nat) (x : FaultRec) : FaultRec :=
  match x.origin with
  | .pole q => x.after (b q) (a q) (r q) now
  | .zone _ => x

theorem afterBoth_origin (b a : Pole → Severity) (r : Pole → Nat) (now : Nat) (x : FaultRec) :
    (x.afterBoth b a r now).origin = x.origin := by
  unfold FaultRec.afterBoth
  split
  · exact after_origin ..
  · rfl

/-- What a Compute does to the table for both poles. -/
structure Insulation.TakesBoth (m w : Insulation) (b a : Pole → Severity) (r : Pole → Nat) (now : Nat) : Prop where
  rest : w = { m with faults := w.faults }
  one  : w.oneRecordEach = true
  old  : ∀ k x, m.faults.get k = some x → w.faults.get k = some (x.afterBoth b a r now)
  free : ¬ m.Fresh .pos (b .pos) (a .pos) → ¬ m.Fresh .neg (b .neg) (a .neg) →
    ∀ k, m.faults.get k = none → w.faults.get k = none
  born : ∀ q, m.Fresh q (b q) (a q) → ∃ k, m.faults.get k = none ∧
    w.faults.get k = some (.born q (a q) (r q) now) ∧
    ∀ j, j < k → m.faults.get j ≠ none ∨
      (q = .neg ∧ m.Fresh .pos (b .pos) (a .pos) ∧ ∀ i, i < j → m.faults.get i ≠ none)

/-- The record of NEG is neither found nor lost by POS's step. -/
theorem fresh_neg_iff (hpos : m.Takes v .pos (b .pos) (a .pos) (r .pos) now) :
    v.Fresh .neg (b .neg) (a .neg) ↔ m.Fresh .neg (b .neg) (a .neg) := by
  refine and_congr_right fun _ => ⟨fun h k x hx ho => ?_, fun h k x hx ho => ?_⟩
  · have hkept := hpos.old k x hx
    rw [if_neg (by rw [ho]; nofun)] at hkept
    exact h k x hkept ho
  · cases hk : m.faults.get k with
    | some y =>
      have hy := hpos.old k y hk
      cases hx.symm.trans hy
      refine h k y hk ?_
      split at ho
      · rw [after_origin] at ho
        exact ho
      · exact ho
    | none =>
      rcases hpos.free k hk with hnone | ⟨-, hborn, -⟩
      · exact nomatch hx.symm.trans hnone
      · cases hx.symm.trans hborn
        cases ho

theorem takesBoth_of_takes (hpos : m.Takes v .pos (b .pos) (a .pos) (r .pos) now)
    (hneg : v.Takes w .neg (b .neg) (a .neg) (r .neg) now) : m.TakesBoth w b a r now where
  rest := by
    have hw := hneg.rest
    rw [hpos.rest] at hw
    exact hw
  one := hneg.one
  old k x hx := by
    have hfirst := hpos.old k x hx
    unfold FaultRec.afterBoth
    split
    next q ho =>
      cases q with
      | pos =>
        rw [if_pos ho] at hfirst
        rw [hneg.old k _ hfirst, if_neg (by rw [after_origin, ho]; nofun)]
      | neg =>
        rw [if_neg (by rw [ho]; nofun)] at hfirst
        rw [hneg.old k _ hfirst, if_pos ho]
    next z ho =>
      rw [if_neg (by rw [ho]; nofun)] at hfirst
      rw [hneg.old k _ hfirst, if_neg (by rw [ho]; nofun)]
  free hp hn k hk := by
    have hfirst : v.faults.get k = none := (hpos.free k hk).resolve_right fun h => hp h.1
    exact (hneg.free k hfirst).resolve_right fun h => hn ((fresh_neg_iff hpos).1 h.1)
  born q hq := by
    cases q with
    | pos =>
      obtain ⟨k, hnone, hborn, hlowest⟩ := hpos.born hq
      refine ⟨k, hnone, ?_, fun j hj => .inl (hlowest j hj)⟩
      rw [hneg.old k _ hborn]
      rfl
    | neg =>
      obtain ⟨k, hnone, hborn, hlowest⟩ := hneg.born ((fresh_neg_iff hpos).2 hq)
      refine ⟨k, ?_, hborn, fun j hj => ?_⟩
      · cases hk : m.faults.get k with
        | none => rfl
        | some x => exact nomatch hnone.symm.trans (hpos.old k x hk)
      · cases hk : m.faults.get j with
        | some x => exact .inl nofun
        | none =>
          rcases hpos.free j hk with hstill | ⟨hfresh, -, hlow⟩
          · exact absurd hstill (hlowest j hj)
          · exact .inr ⟨rfl, hfresh, hlow⟩

/-- A pole that has risen has its record after the Compute. -/
theorem Insulation.TakesBoth.record (h : m.TakesBoth w b a r now) {q : Pole} (hrises : (b q).Rises (a q)) :
    ∃ k x, w.faults.get k = some x ∧ x.origin = .pole q := by
  by_cases hmissing : ∀ k x, m.faults.get k = some x → x.origin ≠ .pole q
  · obtain ⟨k, -, hborn, -⟩ := h.born q ⟨hrises, hmissing⟩
    exact ⟨k, _, hborn, rfl⟩
  · simp only [not_forall, not_not] at hmissing
    obtain ⟨k, x, hx, ho⟩ := hmissing
    exact ⟨k, _, h.old k x hx, (afterBoth_origin b a r now x).trans ho⟩

end

end Sys2Proof.Machine
end

section
/-! A stop taken whole (R104 to R107, R114), and what it leaves through the passes that follow. -/

namespace Sys2Proof.Machine

section

variable {s t : State} {c : StopCause}

/-! ### The parts of a stop -/

theorem abandoned_of_none {now : Nat} {l : Locating} (h : l.pole = none) : l.abandoned now = l := by
  unfold Locating.abandoned
  rw [h]

/-- R97: HZC's part of a stop leaves of IMON's record what an abandoned sequence leaves. -/
theorem zonesStop_imon (h : s.imon.loc.pole = none) : s.zonesStop.imon = s.imon := by
  unfold State.zonesStop
  dsimp only
  split
  · rw [abandonRecord_imon]
    simp only [tellImon_frame, modHzc_imon, modHzc_tck, abandoned_of_none h]
  · rfl

/-- R106: IMON's record after a stop. -/
theorem takeStop_imon (c : StopCause) (s : State) :
    (s.takeStop c).imon = { s.imon with loc := s.imon.loc.abandoned s.tck.wall } := by
  have hsuspended : ((s.bankStop c).autoSuspend .stop .suspendedStop).abandonLocating.imon =
      { s.imon with loc := s.imon.loc.abandoned s.tck.wall } := by
    rw [abandonLocating_imon]
    simp only [autoSuspend_frame, bankStop_frame]
  simp only [State.takeStop, triggerSafety_frame, raise_frame, withdrawEnable_frame]
  rw [zonesStop_imon (by rw [hsuspended]; exact abandoned_pole _ _), hsuspended]

/-- R105: the epoch advances and the bank holds a context. -/
theorem bankStop_stu (c : StopCause) (s : State) :
    (s.bankStop c).stu.epoch = (s.stu.epoch + 1) % 65536 ∧ (s.bankStop c).stu.bank.isSome = true := by
  unfold State.bankStop
  split
  · exact ⟨rfl, rfl⟩
  next h => exact ⟨rfl, by rw [modStu_stu, h]; rfl⟩

theorem takeStop_stu (c : StopCause) (s : State) : (s.takeStop c).stu = (s.bankStop c).stu := by
  simp [State.takeStop]

/-- R59: a zone at a stop. -/
theorem stopped_still (z : Zone) :
    z.stopped.enabled = false ∧ (z.stopped.state = .off ∨ z.stopped.state = .faulted) := by
  unfold Zone.stopped
  split
  next h => exact ⟨rfl, .inr h⟩
  all_goals exact ⟨rfl, .inl rfl⟩

theorem takeStop_zone (c : StopCause) (s : State) (i : Fin 6) :
    ((s.takeStop c).zone i).enabled = false ∧
    (((s.takeStop c).zone i).state = .off ∨ ((s.takeStop c).zone i).state = .faulted) := by
  have hzone : ∀ u : State, u.zonesStop.zone i = (u.zone i).stopped := by
    intro u
    have hhzc : u.zonesStop.hzc = { u.hzc with zones := u.hzc.zones.map Zone.stopped } := by
      unfold State.zonesStop
      dsimp only
      split
      · rw [(abandonRecord_frame _).2.2.1]
        rfl
      · rfl
    rw [State.zone, hhzc]
    exact Table.get_map ..
  have hstop : (s.takeStop c).zone i =
      (((s.bankStop c).autoSuspend .stop .suspendedStop).abandonLocating.zonesStop).zone i := by
    simp [State.takeStop, State.zone]
  rw [hstop, hzone]
  exact stopped_still _

/-- R155: a stop suspends the Active account, so that none is left. -/
theorem autoSuspend_activeSlot (hone : s.act.oneActive = true) (r : SuspendReason) (e : AcctEvent) :
    (s.autoSuspend r e).act.activeSlot = none := by
  unfold State.autoSuspend
  split
  next hnone => exact hnone
  next i hi =>
    refine Table.find_eq_none.2 fun j => ?_
    have hact : ((s.suspendSlot i r).raise .account (.account (s.act.handle i) e)).act =
        (s.modAccount i fun a => { a with state := .suspended, reason := some r }).act := by
      simp [State.suspendSlot]
    rw [hact]
    change ((s.act.slots.modify i _).get j).isActive = false
    rw [Table.get_modify]
    split
    · unfold Slot.isActive
      cases (s.act.slots.get j).acct <;> rfl
    next hj =>
      exact Bool.eq_false_iff.2 fun hactive => hj ((oneActive_iff _).1 hone j i hactive (activeSlot_isActive hi))

theorem takeStop_activeSlot (hone : s.act.oneActive = true) (c : StopCause) :
    (s.takeStop c).act.activeSlot = none := by
  have hact : (s.takeStop c).act = ((s.bankStop c).autoSuspend .stop .suspendedStop).act := by
    simp [State.takeStop]
  rw [hact]
  exact autoSuspend_activeSlot (by simpa using hone) _ _

/-- R12: INL withdraws its enable at a stop. -/
theorem withdrawEnable_state (s : State) : s.withdrawEnable.inl.state ≠ .ready ∧
    s.withdrawEnable.inl.state ≠ .drawing := by
  unfold State.withdrawEnable
  split
  case h_1 | h_2 => exact ⟨nofun, nofun⟩
  all_goals next h => exact ⟨by rw [h]; nofun, by rw [h]; nofun⟩

theorem takeStop_inlet (c : StopCause) (s : State) : (s.takeStop c).inl.state ≠ .ready ∧
    (s.takeStop c).inl.state ≠ .drawing := by
  simpa [State.takeStop] using withdrawEnable_state
    ((s.bankStop c).autoSuspend .stop .suspendedStop).abandonLocating.zonesStop

theorem leaveActive_queue (s : State) : s.leaveActive.rqp.queue = s.rqp.queue := by
  simp [State.leaveActive, disarmSupervision_rqp]

theorem takeStop_queue (c : StopCause) (s : State) : (s.takeStop c).rqp.queue = s.rqp.queue := by
  have hrqp : (s.takeStop c).rqp = ((s.bankStop c).autoSuspend .stop .suspendedStop).rqp := by
    simp [State.takeStop]
  rw [hrqp]
  unfold State.autoSuspend
  split
  · simp
  · simp only [raise_frame, State.suspendSlot]
    rw [leaveActive_queue]
    simp

/-! ### The sources (R91, R106, R155) -/

theorem autoSuspend_other_source (r : SuspendReason) (e : AcctEvent) (s : State) {k : Fin 11} (h : k ≠ 6) :
    (s.autoSuspend r e).atn.sources.get k = s.atn.sources.get k := by
  unfold State.autoSuspend
  split
  · rfl
  · rw [raise_other _ _ _ h, (suspendSlot_frame _ _ _).2.2.2.2.2.2.2.1]

theorem withdrawEnable_other_source (s : State) {k : Fin 11} (h : k ≠ 5) :
    s.withdrawEnable.atn.sources.get k = s.atn.sources.get k := by
  unfold State.withdrawEnable
  split
  case h_1 | h_2 => exact enterInlet_other_source _ _ h
  all_goals rfl

/-- A stop raises STOP, and INLET and ACCOUNT where they change; before STOP is raised the others stand. -/
theorem stopping_source (c : StopCause) (s : State) {k : Fin 11} (h5 : k ≠ 5) (h6 : k ≠ 6) :
    (((s.bankStop c).autoSuspend .stop .suspendedStop).abandonLocating.zonesStop.withdrawEnable).atn.sources.get k =
      s.atn.sources.get k := by
  rw [withdrawEnable_other_source _ h5, (zonesStop_frame _).2.2.2.2.2.2.1, abandonLocating_atn,
    autoSuspend_other_source _ _ _ h6, (bankStop_frame _ _).2.2.2.2.2.2.2.1]

theorem takeStop_other_source (c : StopCause) (s : State) {k : Fin 11} (h3 : k ≠ 3) (h5 : k ≠ 5) (h6 : k ≠ 6) :
    (s.takeStop c).atn.sources.get k = s.atn.sources.get k := by
  simp only [State.takeStop, triggerSafety_frame]
  rw [raise_other _ _ _ h3, stopping_source c s h5 h6]

/-- R106: STOP is raised with the epoch, the cause and whether the context was banked. -/
theorem takeStop_stopSource (c : StopCause) (s : State) : (s.takeStop c).atn.sources.get 3 =
    { s.atn.sources.get 3 with
      flag := true, detail := some (.stop ((s.stu.epoch + 1) % 65536) c s.stu.bank.isNone) } := by
  have hepoch : (((s.bankStop c).autoSuspend .stop .suspendedStop).abandonLocating.zonesStop.withdrawEnable).stu.epoch =
      (s.stu.epoch + 1) % 65536 := by
    simp only [withdrawEnable_frame, zonesStop_frame, abandonLocating_frame, autoSuspend_frame, bankStop_stu]
  simp only [State.takeStop, triggerSafety_frame]
  rw [show (3 : Fin 11) = Source.stop.index from rfl, raise_self, hepoch,
    show Source.stop.index = (3 : Fin 11) from rfl, stopping_source c s (by decide) (by decide)]

/-! ### No account, no enable -/

/-- What a stop leaves of the accounts and of INL: no Active account, and no enable. -/
def State.Halted (s : State) : Prop :=
  s.act.activeSlot = none ∧ s.inl.state ≠ .ready ∧ s.inl.state ≠ .drawing

/-- R24: without an Active account a pass grants nothing from the grid. -/
theorem grant_of_no_account (h : s.act.activeSlot = none) : s.passGrid.grant = 0 := by
  have hgated : s.passInputs.gated = true := by
    refine gated_iff.2 (.inl ?_)
    change s.act.active.isSome = false
    rw [active_of_none h]
    rfl
  have hpDc : s.passInputs.pDc s.rqp.config.wired = 0 := if_pos hgated
  have hle : s.passGrid.bGrant + s.passGrid.hGrant = 0 := by
    simp only [State.passGrid, PassInputs.grid, hpDc, heatGuarantee, batteryGrant, heatGrant]
    omega
  exact hle

theorem decided_halted {n : Nat} {st : InletState} (h : st ≠ .ready ∧ st ≠ .drawing) :
    decided 0 n st ≠ .ready ∧ decided 0 n st ≠ .drawing := by
  cases st <;> simp_all [decided]

theorem pass_halted (h : s.Halted) : s.pass.Halted := by
  obtain ⟨hslot, hinlet⟩ := h
  refine ⟨(activeSlot_alike (pass_alike s)).trans hslot, ?_⟩
  rw [pass_state, grant_of_no_account hslot]
  exact decided_halted hinlet

theorem survives_halted : Survives State.Halted :=
  survives_of_pass (fun i _ act => act.activeSlot = none ∧ i.state ≠ .ready ∧ i.state ≠ .drawing)
    fun _ h => pass_halted h

/-! ### What a stop leaves -/

/-- The state `t` after a stop taken at `s`, through the passes that follow it. -/
structure State.StoppedAs (c : StopCause) (s t : State) : Prop where
  imon    : t.imon = { s.imon with loc := s.imon.loc.abandoned s.tck.wall }
  epoch   : t.stu.epoch = (s.stu.epoch + 1) % 65536
  bank    : t.stu.bank.isSome = true
  stop    : t.atn.sources.get 3 = { s.atn.sources.get 3 with
    flag := true, detail := some (.stop ((s.stu.epoch + 1) % 65536) c s.stu.bank.isNone) }
  sources : ∀ k : Fin 11, k ≠ 3 → k ≠ 5 → k ≠ 6 → k ≠ 7 → t.atn.sources.get k = s.atn.sources.get k
  halted  : t.Halted
  zones   : ∀ i, (t.zone i).enabled = false ∧ ((t.zone i).state = .off ∨ (t.zone i).state = .faulted)
  queue   : t.rqp.queue = s.rqp.queue

theorem takeStop_stoppedAs (hone : s.act.oneActive = true) (c : StopCause) : s.StoppedAs c (s.takeStop c) where
  imon := takeStop_imon c s
  epoch := by rw [takeStop_stu]; exact (bankStop_stu c s).1
  bank := by rw [takeStop_stu]; exact (bankStop_stu c s).2
  stop := takeStop_stopSource c s
  sources _ h3 h5 h6 _ := takeStop_other_source c s h3 h5 h6
  halted := ⟨takeStop_activeSlot hone c, takeStop_inlet c s⟩
  zones := takeStop_zone c s
  queue := takeStop_queue c s

theorem still_of_stopped {z : Zone} (h : z.enabled = false ∧ (z.state = .off ∨ z.state = .faulted)) : z.Still :=
  h.2.elim (fun hoff => .inr (.inr ⟨hoff, h.1⟩)) fun hfault => .inr (.inl hfault)

/-- Outside a Sample phase the passes that follow a stop leave it as it was taken. -/
theorem settle_stoppedAs (hclosed : s.sampleOpen = false) (h : s.StoppedAs c t) : s.StoppedAs c t.settle := by
  have hclosed' : t.sampleOpen = false := by
    rw [State.sampleOpen, h.imon]
    exact hclosed
  have hzone : ∀ i, t.settle.zone i = t.zone i := fun i => settle_zone_of_still (still_of_stopped (h.zones i))
  obtain ⟨hstu, -, -, hrqp, -⟩ := settle_frame t
  exact {
    imon := (settle_imon_of_closed hclosed').trans h.imon
    epoch := by rw [hstu, h.epoch]
    bank := by rw [hstu, h.bank]
    stop := (settle_other_source t (by decide) (by decide)).trans h.stop
    sources := fun k h3 h5 h6 h7 => (settle_other_source t h5 h7).trans (h.sources k h3 h5 h6 h7)
    halted := settle_survives survives_halted h.halted
    zones := fun i => by rw [hzone]; exact h.zones i
    queue := by rw [hrqp, h.queue] }

theorem trigger_stoppedAs (h : s.StoppedAs c t) : s.StoppedAs c t.trigger :=
  ⟨h.imon, h.epoch, h.bank, h.stop, h.sources, h.halted, h.zones, h.queue⟩

/-- Passes before the stop change nothing that a stop takes, but for what they may raise themselves. -/
theorem stoppedAs_of_settle (hclosed : s.sampleOpen = false) (h : s.settle.StoppedAs c t) : s.StoppedAs c t := by
  obtain ⟨hstu, -, htck, hrqp, -⟩ := settle_frame s
  exact {
    imon := by rw [h.imon, settle_imon_of_closed hclosed, htck]
    epoch := by rw [h.epoch, hstu]
    bank := h.bank
    stop := by rw [h.stop, hstu, settle_other_source s (by decide) (by decide)]
    sources := fun k h3 h5 h6 h7 => (h.sources k h3 h5 h6 h7).trans (settle_other_source s h5 h7)
    halted := h.halted
    zones := h.zones
    queue := by rw [h.queue, hrqp] }

theorem settle_oneActive (h : s.act.oneActive = true) : s.settle.act.oneActive = true :=
  settle_survives (survives_of_pass (fun _ _ act => act.oneActive = true)
    fun u hu => oneActive_of_within (within_of_alike (pass_alike u)) hu) h

/-- R79: in either order a Compute with a new Fault takes one stop. -/
theorem passAndStop_stoppedAs (hclosed : s.sampleOpen = false) (hone : s.act.oneActive = true) :
    s.StoppedAs .insulationFault (s.passAndStop true) := by
  have hclosed' : s.nextChoice.sampleOpen = false := hclosed
  have hchoice : ∀ {u : State}, s.nextChoice.StoppedAs .insulationFault u → s.StoppedAs .insulationFault u :=
    fun h => ⟨h.imon, h.epoch, h.bank, h.stop, h.sources, h.halted, h.zones, h.queue⟩
  simp only [State.passAndStop, if_true]
  split
  · have hafter : s.nextChoice.settle.sampleOpen = false := by
      rw [sampleOpen_congr (settle_imon_of_closed hclosed')]
      exact hclosed'
    exact hchoice (stoppedAs_of_settle hclosed'
      (settle_stoppedAs hafter (takeStop_stoppedAs (settle_oneActive (s := s.nextChoice) hone) _)))
  · exact hchoice (settle_stoppedAs hclosed' (trigger_stoppedAs
      (settle_stoppedAs hclosed' (takeStop_stoppedAs (s := s.nextChoice) hone _))))

end

end Sys2Proof.Machine
end

section
/-! Locating at a Compute (R92 to R97): what its requests leave alone, and a sequence that starts. -/

namespace Sys2Proof.Machine

/-! ### What locating leaves alone -/

/-- Locating changes its own record and zones, and raises LOCATING_DONE and ZONE. -/
structure State.Seeks (s t : State) : Prop where
  imon    : t.imon = { s.imon with loc := t.imon.loc }
  sources : ∀ k : Fin 11, k ≠ 2 → k ≠ 8 → t.atn.sources.get k = s.atn.sources.get k

section

variable {s t u : State} {p : Pole} {z : Fin 6}

theorem State.Seeks.refl (s : State) : s.Seeks s := ⟨rfl, fun _ _ _ => rfl⟩

theorem State.Seeks.trans (h : s.Seeks t) (k : t.Seeks u) : s.Seeks u where
  imon := by
    have hu := k.imon
    rw [h.imon] at hu
    exact hu
  sources i h2 h8 := (k.sources i h2 h8).trans (h.sources i h2 h8)

theorem seeks_of_same (himon : t.imon = s.imon) (hatn : t.atn = s.atn) : s.Seeks t :=
  ⟨by rw [himon], fun _ _ _ => by rw [hatn]⟩

theorem modLoc_seeks (f : Locating → Locating) (s : State) : s.Seeks (s.modLoc f) := ⟨rfl, fun _ _ _ => rfl⟩

theorem releaseZone_seeks (z : Fin 6) (s : State) : s.Seeks (s.releaseZone z) :=
  seeks_of_same (by simp) (by simp)

theorem isolateZone_seeks (z : Fin 6) (s : State) : s.Seeks (s.isolateZone z) :=
  seeks_of_same (by simp) (by simp)

theorem insulationFault_seeks (z : Fin 6) (s : State) : s.Seeks (s.insulationFault z) :=
  ⟨by simp, fun _ _ h8 => (raise_other _ _ _ h8).trans (by simp)⟩

theorem isolateNext_seeks : (l : List (Fin 6)) → {s t : State} → s.isolateNext l = some t → s.Seeks t
  | [], _, _, h => nomatch h
  | z :: rest, s, t, h => by
    unfold State.isolateNext at h
    split at h
    · cases h
      exact (isolateZone_seeks z s).trans (modLoc_seeks _ _)
    · exact isolateNext_seeks rest h

theorem completeRecord_seeks (o : LocateOutcome) (g : Origin) (s : State) : s.Seeks (s.completeRecord o g) :=
  ⟨rfl, fun _ h2 _ => raise_other _ _ _ h2⟩

theorem takeDeferred_seeks (s : State) : s.Seeks s.takeDeferred := by
  unfold State.takeDeferred
  split
  · exact .refl s
  next p _ =>
    have hbegun : s.Seeks ((s.modLoc fun l => { l with deferred := none }).beginSequence p) :=
      ⟨rfl, fun _ _ _ => rfl⟩
    dsimp only
    split
    · split
      next h => exact hbegun.trans (isolateNext_seeks _ h)
      next => exact hbegun.trans (completeRecord_seeks _ _ _)
    · exact modLoc_seeks _ s

theorem completeSequence_seeks (o : LocateOutcome) (g : Origin) (s : State) : s.Seeks (s.completeSequence o g) :=
  (completeRecord_seeks o g s).trans (takeDeferred_seeks _)

theorem continueSequence_seeks (p : Pole) (l : List (Fin 6)) (s : State) : s.Seeks (s.continueSequence p l) := by
  unfold State.continueSequence
  split
  next h => exact isolateNext_seeks _ h
  next => exact completeSequence_seeks _ _ s

theorem requestLocating_seeks (p : Pole) (s : State) : s.Seeks (s.requestLocating p) := by
  unfold State.requestLocating
  split
  · exact (modLoc_seeks _ s).trans (continueSequence_seeks _ _ _)
  · split
    · exact .refl s
    · exact modLoc_seeks _ s

theorem locateSeverity_seeks (p : Pole) (b a : Severity) (s : State) : s.Seeks (s.locateSeverity p b a) := by
  unfold State.locateSeverity
  split
  · exact requestLocating_seeks p s
  · exact .refl s

theorem abandonLocating_seeks (s : State) : s.Seeks s.abandonLocating :=
  ⟨by rw [abandonLocating_imon], fun _ _ _ => by rw [abandonLocating_atn]⟩

/-! ### A judgement and the record that it moves (R94, R95) -/

/-- Step 5 of a Compute also moves records: all but those whose origin is not `kept`. -/
structure State.HandsOn (kept : Origin → Prop) (s t : State) : Prop where
  imon    : t.imon = { s.imon with loc := t.imon.loc, faults := t.imon.faults }
  sources : ∀ k : Fin 11, k ≠ 2 → k ≠ 8 → t.atn.sources.get k = s.atn.sources.get k
  faults  : ∀ k x, s.imon.faults.get k = some x → kept x.origin → t.imon.faults.get k = some x
  free    : ∀ k, s.imon.faults.get k = none → t.imon.faults.get k = none

variable {kept : Origin → Prop}

theorem handsOn_of_seeks (h : s.Seeks t) : s.HandsOn kept t := by
  have hfaults : t.imon.faults = s.imon.faults := by rw [h.imon]
  exact ⟨by rw [hfaults]; exact h.imon, h.sources, fun k x hx _ => by rw [hfaults, hx],
    fun k hk => by rw [hfaults, hk]⟩

theorem State.HandsOn.trans (h : s.HandsOn kept t) (k : t.HandsOn kept u) : s.HandsOn kept u where
  imon := by
    have hu := k.imon
    rw [h.imon] at hu
    exact hu
  sources i h2 h8 := (k.sources i h2 h8).trans (h.sources i h2 h8)
  faults i x hx ho := k.faults i x (h.faults i x hx ho) ho
  free i hi := k.free i (h.free i hi)

/-- R95: a record is moved from pole `p` to zone `z`; the others stand. -/
theorem moveRecord_handsOn (p : Pole) (z : Fin 6) (s : State) :
    s.HandsOn (fun o => o ≠ .pole p ∧ o ≠ .zone z) (s.moveRecord p z) := by
  have hmodified : ∀ (u : State) (j : Fin 8) (f : FaultRec → FaultRec) (o : Origin), u.imon.recordOf o = some j →
      (o = .pole p ∨ o = .zone z) → u.HandsOn (fun o => o ≠ .pole p ∧ o ≠ .zone z) (u.modFault j f) := by
    intro u j f o hj ho
    obtain ⟨y, hy, hyo⟩ := recordOf_some hj
    refine ⟨rfl, fun _ _ _ => rfl, fun k x hx hkept => ?_, fun k hk => ?_⟩
    · have hkj : k ≠ j := by
        rintro rfl
        cases hy.symm.trans hx
        exact ho.elim (fun h => hkept.1 (hyo.trans h)) fun h => hkept.2 (hyo.trans h)
      rw [modFault_imon, Table.get_modify_ne _ _ hkj, hx]
    · rw [modFault_imon, Table.get_modify]
      split <;> simp [hk]
  unfold State.moveRecord
  split
  · exact handsOn_of_seeks (.refl s)
  next i hi =>
    split
    next rec j hrec hj =>
      refine (hmodified s j (fun x => x.merge s.now rec) _ hj (.inr rfl)).trans ?_
      obtain ⟨y, hy, hyo⟩ := recordOf_some hi
      have hi' : ∃ y', (s.modFault j fun x => x.merge s.now rec).imon.faults.get i = some y' ∧
          (y'.origin = .pole p ∨ y'.origin = .zone z) := by
        rw [modFault_imon, Table.get_modify]
        split
        next hij =>
          subst hij
          obtain ⟨w, hw, hwo⟩ := recordOf_some hj
          cases hw.symm.trans hy
          exact nomatch hyo.symm.trans hwo
        next => exact ⟨y, hy, .inl hyo⟩
      obtain ⟨y', hy', ho'⟩ := hi'
      refine ⟨rfl, fun _ _ _ => rfl, fun k x hx hkept => ?_, fun k hk => ?_⟩
      · have hki : k ≠ i := by
          rintro rfl
          cases hy'.symm.trans hx
          exact ho'.elim hkept.1 hkept.2
        rw [modImon_imon, Table.get_set_ne _ _ hki, hx]
      · rw [modImon_imon, Table.get_set]
        split
        · rfl
        · exact hk
    next => exact hmodified s i _ _ hi (.inl rfl)
    next => exact handsOn_of_seeks (.refl s)

theorem judge_handsOn (p : Pole) (z : Fin 6) (r : Nat) (s : State) :
    s.HandsOn (fun o => o ≠ .pole p ∧ o ≠ .zone z) (s.judge p z r) := by
  unfold State.judge
  split
  · exact (handsOn_of_seeks (insulationFault_seeks z s)).trans ((moveRecord_handsOn p z _).trans
      (handsOn_of_seeks (completeSequence_seeks _ _ _)))
  · exact handsOn_of_seeks ((releaseZone_seeks z s).trans ((modLoc_seeks _ _).trans (continueSequence_seeks _ _ _)))

/-- The origins whose records a judgement moves (R95). -/
def movedBy (fault : Bool) (ran : Option (Pole × Fin 6)) (o : Origin) : Prop :=
  fault = false ∧ ∃ q z, ran = some (q, z) ∧ (o = .pole q ∨ o = .zone z)

theorem stepLocating_handsOn (fault : Bool) (ran : Option (Pole × Fin 6)) (s : State) :
    s.HandsOn (fun o => ¬ movedBy fault ran o) (s.stepLocating fault ran) := by
  unfold State.stepLocating
  split
  · exact handsOn_of_seeks (abandonLocating_seeks s)
  next hfault =>
    cases ran with
    | none => exact handsOn_of_seeks (.refl s)
    | some qz =>
      obtain ⟨q, z⟩ := qz
      obtain ⟨himon, hsources, hfaults, hfree⟩ := judge_handsOn q z
        (match q with | .pos => s.imon.rPos | .neg => s.imon.rNeg) s
      refine ⟨himon, hsources, fun k x hx hkept => hfaults k x hx ?_, hfree⟩
      have hfault' : fault = false := Bool.eq_false_iff.2 hfault
      exact ⟨fun ho => hkept ⟨hfault', q, z, rfl, .inl ho⟩, fun ho => hkept ⟨hfault', q, z, rfl, .inr ho⟩⟩

/-- R97: a new Fault leaves no sequence active. -/
theorem stepLocating_fault (ran : Option (Pole × Fin 6)) (s : State) :
    (s.stepLocating true ran).imon.loc.pole = none := by
  change s.abandonLocating.imon.loc.pole = none
  rw [abandonLocating_imon]
  exact abandoned_pole _ _

end

/-! ### A sequence that starts (R92, R93, R96) -/

section

variable {s : State} {p q : Pole} {y : Fin 6} {rest : List (Fin 6)}

/-- A request while no sequence is active begins one. -/
theorem requestLocating_begins (h : s.imon.loc.pole = none) :
    s.requestLocating p = (s.beginSequence p).continueSequence p s.candidates := by
  unfold State.requestLocating
  rw [h]
  rfl

/-- R96: a request while the other pole's sequence is active is deferred. -/
theorem requestLocating_defers (h : s.imon.loc.pole = some q) (hq : q ≠ p) :
    s.requestLocating p = s.modLoc fun l => { l with deferred := some p } := by
  unfold State.requestLocating
  rw [h]
  exact if_neg hq

theorem mem_candidates {z : Fin 6} : z ∈ s.candidates ↔ (s.zone z).state.connected = true := by
  simp [State.candidates, mem_fins]

theorem not_isolated_of_connected {st : ZoneState} (h : st.connected = true) : st ≠ .isolated := by
  rintro rfl
  exact nomatch h

/-- R56: the zone that is isolated keeps the state that it leaves. -/
theorem isolateZone_zone (h : (s.zone y).state.connected = true) : (s.isolateZone y).zone y = (s.zone y).toIsolated := by
  have hreleased : ∀ j, s.isolatedZone = some j → j ≠ y := by
    rintro j hj rfl
    exact not_isolated_of_connected h (isolatedZone_state hj)
  have hsame : ∀ u : State, u.zone y = s.zone y →
      (if (u.zone y).state.connected then (u.modZone y Zone.toIsolated).trigger else u).zone y =
        (s.zone y).toIsolated := by
    intro u hu
    rw [hu, if_pos h, State.zone, (trigger_frame _).2.2.1]
    exact ((zone_modZone y y _ u).trans (if_pos rfl)).trans (by rw [hu])
  unfold State.isolateZone
  dsimp only
  cases hfound : s.isolatedZone with
  | none => exact hsame s rfl
  | some j =>
    have hj := hreleased j hfound
    dsimp only
    simp only [if_neg hj]
    refine hsame _ ?_
    unfold State.releaseZone
    split
    · rw [State.zone, (trigger_frame _).2.2.1]
      exact (zone_modZone j y _ s).trans (if_neg hj.symm)
    · rfl

/-- R93: with zones to try, the sequence of a pole isolates the first of them. -/
theorem requestLocating_isolates (hnone : s.imon.loc.pole = none) (hlist : s.candidates = y :: rest) (p : Pole) :
    (s.requestLocating p).imon.loc = { s.imon.loc with
      pole := some p, current := some y, candidates := rest, tried := 0 } ∧
    (s.requestLocating p).zone y = (s.zone y).toIsolated ∧ (s.requestLocating p).atn = s.atn := by
  have hconnected : (s.zone y).state.connected = true := mem_candidates.1 (hlist ▸ List.mem_cons_self)
  have hstate : s.requestLocating p = ((s.beginSequence p).isolateZone y).modLoc fun l =>
      { l with current := some y, candidates := rest } := by
    have hnext : (s.beginSequence p).isolateNext (y :: rest) = some _ := if_pos hconnected
    rw [requestLocating_begins hnone, hlist, State.continueSequence, hnext]
  rw [hstate]
  refine ⟨?_, ?_, ?_⟩
  · simp only [State.modLoc, modImon_imon, isolateZone_frame]
    rfl
  · simp only [State.zone, modLoc_frame]
    exact isolateZone_zone (s := s.beginSequence p) hconnected
  · simp only [modLoc_frame, isolateZone_frame]
    rfl

/-- The locating record of a sequence that finds no zone to try (R93, R96). -/
def Locating.unexplained (p : Pole) (now : Nat) (l : Locating) : Locating :=
  { l with pole := none, candidates := [], current := none, tried := 0, deferred := none,
           outcome := .notExplained, origin := some (.pole p), endTime := now }

/-- LOCATING_DONE once it has been raised for the record of pole `p` (R96). -/
def SourceRec.raisedFor (m : Insulation) (p : Pole) (r : SourceRec) : SourceRec :=
  { r with flag := true, detail := some (.faultSlot ((m.recordOf (.pole p)).map Fin.val |>.getD 0)) }

/-- The pole whose sequence is the last of those that a request brings: the deferred one, if it still warns. -/
def Insulation.lastSought (p : Pole) (m : Insulation) : Pole :=
  match m.loc.deferred with
  | none => p
  | some d => if (m.pole d).severity = .warning then d else p

/-- The state after one or two sequences that found no zone to try, the last for pole `p`. -/
structure State.Unexplained (p : Pole) (s t : State) : Prop where
  imon   : t.imon = { s.imon with loc := s.imon.loc.unexplained p s.tck.wall }
  source : t.atn.sources.get 2 = (s.atn.sources.get 2).raisedFor s.imon p
  hzc    : t.hzc = s.hzc

/-- A sequence of pole `p` that begins and completes as not explained. -/
def State.vainly (s : State) (p : Pole) : State := (s.beginSequence p).completeRecord .notExplained (.pole p)

theorem vainly_loc (s : State) (p : Pole) : (s.vainly p).imon.loc = { s.imon.loc with
    pole := none, current := none, candidates := [], tried := 0, outcome := .notExplained,
    origin := some (.pole p), endTime := s.tck.wall } := rfl

theorem vainly_seeks (s : State) (p : Pole) : s.Seeks (s.vainly p) := ⟨rfl, fun _ h2 _ => raise_other _ _ _ h2⟩

theorem vainly_source (s : State) (p : Pole) :
    (s.vainly p).atn.sources.get 2 = (s.atn.sources.get 2).raisedFor s.imon p := raise_self .locatingDone _ _

theorem vainly_hzc (s : State) (p : Pole) : (s.vainly p).hzc = s.hzc := by
  simp [State.vainly]

/-- The slot that LOCATING_DONE carries depends on the fault table alone. -/
theorem raisedFor_congr {m w : Insulation} (h : w.faults = m.faults) (p : Pole) (r : SourceRec) :
    r.raisedFor w p = r.raisedFor m p := by
  rw [SourceRec.raisedFor, SourceRec.raisedFor, Insulation.recordOf, Insulation.recordOf, h]

/-- A deferred pole is cleared; its own sequence completes at once as well. -/
theorem cleared_vainly (s : State) (d : Pole) :
    s.Unexplained d ((s.modLoc fun l => { l with deferred := none }).vainly d) where
  imon := rfl
  source := (vainly_source _ d).trans (raisedFor_congr rfl d _)
  hzc := vainly_hzc _ d

theorem Locating.unexplained_twice (p q : Pole) (now : Nat) (l m : Locating)
    (h : m = { l.unexplained p now with deferred := l.deferred }) : m.unexplained q now = l.unexplained q now := by
  subst h
  rfl

theorem candidates_congr {t : State} (h : t.hzc = s.hzc) : t.candidates = s.candidates := by
  simp only [State.candidates, State.zone, h]

theorem takeDeferred_none (h : s.imon.loc.deferred = none) : s.takeDeferred = s := by
  unfold State.takeDeferred
  rw [h]

theorem takeDeferred_some {d : Pole} (h : s.imon.loc.deferred = some d) (hlist : s.candidates = []) :
    s.takeDeferred = if (s.imon.pole d).severity = .warning
      then (s.modLoc fun l => { l with deferred := none }).vainly d
      else s.modLoc fun l => { l with deferred := none } := by
  have hcandidates : ((s.modLoc fun l => { l with deferred := none }).beginSequence d).candidates = [] := hlist
  have hpole : (s.modLoc fun l => { l with deferred := none }).imon.pole d = s.imon.pole d := by cases d <;> rfl
  unfold State.takeDeferred
  simp only [h, hpole, hcandidates]
  rfl

/-- R93, R96: with no zone to try, the sequence of a pole completes at once, and so does a deferred one. -/
theorem requestLocating_unexplained (hnone : s.imon.loc.pole = none) (hlist : s.candidates = []) (p : Pole) :
    s.Unexplained (s.imon.lastSought p) (s.requestLocating p) := by
  have hstate : s.requestLocating p = (s.vainly p).takeDeferred := by
    rw [requestLocating_begins hnone, hlist]
    rfl
  have hdeferred : (s.vainly p).imon.loc.deferred = s.imon.loc.deferred := rfl
  have hpole : ∀ d, (s.vainly p).imon.pole d = s.imon.pole d := fun d => by cases d <;> rfl
  rw [hstate]
  unfold Insulation.lastSought
  cases hd : s.imon.loc.deferred with
  | none =>
    rw [takeDeferred_none (hdeferred.trans hd)]
    have hloc : (s.vainly p).imon.loc = s.imon.loc.unexplained p s.tck.wall :=
      congrArg (fun d => { s.imon.loc.unexplained p s.tck.wall with deferred := d }) hd
    exact ⟨by rw [(vainly_seeks s p).imon, hloc], vainly_source s p, vainly_hzc s p⟩
  | some d =>
    rw [takeDeferred_some (hdeferred.trans hd) ((candidates_congr (vainly_hzc s p)).trans hlist), hpole]
    dsimp only
    split
    · obtain ⟨himon, hsource, hhzc⟩ := cleared_vainly (s.vainly p) d
      have hloc := Locating.unexplained_twice p d s.tck.wall _ _ (vainly_loc s p)
      refine ⟨?_, ?_, hhzc.trans (vainly_hzc s p)⟩
      · rw [himon, (vainly_seeks s p).imon]
        exact congrArg (fun l => { s.imon with loc := l }) hloc
      · rw [hsource, vainly_source]
        rfl
    · have hcleared : s.Seeks ((s.vainly p).modLoc fun l => { l with deferred := none }) :=
        (vainly_seeks s p).trans (modLoc_seeks _ _)
      have hloc : ((s.vainly p).modLoc fun l => { l with deferred := none }).imon.loc =
        s.imon.loc.unexplained p s.tck.wall := rfl
      exact ⟨by rw [hcleared.imon, hloc], vainly_source s p, rfl⟩

end

end Sys2Proof.Machine
end

section
/-! A Compute in its steps (R75 to R77, R79, R87 to R92): what is evaluated, what the table takes, which sources
are raised, and what is sought. -/

namespace Sys2Proof.Machine

/-! ### Steps 1 to 3: resistances, grades and severities (R75 to R77) -/

def Insulation.severity (m : Insulation) (q : Pole) : Severity := (m.pole q).severity

def Insulation.ohms (m : Insulation) : Pole → Nat
  | .pos => m.rPos
  | .neg => m.rNeg

/-- IMON's record once a Compute has evaluated the cycle. -/
def Insulation.computed (m : Insulation) (now : Nat) : Insulation :=
  { m.evaluate m.meanP m.meanN with
    cycle := .idle, phaseMs := 0, sumP := 0, sumN := 0, samples := 0, shifted := none, outcome := .measured,
    endTime := now }

/-- R75 with the shifted pole L and the other pole S chosen by one flag. -/
theorem resistances_eq (shifted : Option Pole) (uP0 uN0 uP1 uN1 : Nat) :
    resistances (shifted.getD .pos) uP0 uN0 uP1 uN1 =
      (let lPos : Bool := decide (shifted ≠ some .neg)
       let uL0 := if lPos then uP0 else uN0
       let uS0 := if lPos then uN0 else uP0
       let uL1 := if lPos then uP1 else uN1
       let uS1 := if lPos then uN1 else uP1
       let rS := if uL1 = 0 ∨ uS1 * uL0 ≤ uS0 * uL1 then 50000
         else min 50000 (400 * (uS1 * uL0 - uS0 * uL1) / (uL1 * uL0))
       let rL := if uS0 = 0 then 50000 else min 50000 (rS * uL0 / uS0)
       (if lPos then rL else rS, if lPos then rS else rL)) := by
  have hS : ∀ uL0 uS0 uL1 uS1, resistanceS uL0 uS0 uL1 uS1 = if uL1 = 0 ∨ uS1 * uL0 ≤ uS0 * uL1 then 50000
      else min 50000 (400 * (uS1 * uL0 - uS0 * uL1) / (uL1 * uL0)) := by
    intro uL0 uS0 uL1 uS1
    unfold resistanceS
    by_cases h : uL1 = 0
    · simp [h, Config.maxKOhm]
    · simp [h, Config.maxKOhm, Config.measuringKOhm]
  match shifted with
  | none | some .pos | some .neg =>
    simp only [resistances, Option.getD, resistanceL, hS]
    rfl

theorem computed_follows (m : Insulation) (now : Nat) (q : Pole) :
    (m.severity q).Follows ((m.computed now).severity q) := by
  cases q <;> exact update_follows _ _

/-! ### Step 4: the table, and the sources (R79, R87 to R91) -/

section

variable {s : State} {b a : Pole → Severity} {r : Pole → Nat}

/-- The table once it has taken both poles. -/
def State.tabled (b a : Pole → Severity) (r : Pole → Nat) (s : State) : State :=
  (s.tableStep .pos (b .pos) (a .pos) (r .pos)).tableStep .neg (b .neg) (a .neg) (r .neg)

theorem newRecord_rest (o : Origin) (a : Severity) (r : Nat) (s : State) :
    (s.newRecord o a r).imon = { s.imon with faults := (s.newRecord o a r).imon.faults } := by
  unfold State.newRecord
  split <;> rfl

theorem tableTakes_rest (p : Pole) (b a : Severity) (r : Nat) (s : State) :
    (s.tableTakes p b a r).imon = { s.imon with faults := (s.tableTakes p b a r).imon.faults } := by
  cases hrec : s.imon.recordOf (.pole p) with
  | some i => rw [tableTakes_of_record hrec, modFault_imon]
  | none =>
    unfold State.tableTakes State.conditionArises State.conditionWorsens State.conditionEnds
    simp only [hrec]
    split
    case h_1 | h_2 | h_3 | h_4 | h_5 => exact newRecord_rest _ _ _ s
    all_goals rfl

theorem tableStep_rest (p : Pole) (b a : Severity) (r : Nat) (s : State) :
    (s.tableStep p b a r).imon = { s.imon with faults := (s.tableStep p b a r).imon.faults } := by
  have hseen : ∀ u : State, (u.tableSees p a r).imon = { u.imon with faults := (u.tableSees p a r).imon.faults } := by
    intro u
    unfold State.tableSees State.conditionSeen
    split
    · split <;> rfl
    · rfl
  have hstep := hseen (s.tableTakes p b a r)
  rw [tableTakes_rest] at hstep
  exact hstep

theorem rest_trans {m w v : Insulation} (h : w = { m with faults := w.faults })
    (k : v = { w with faults := v.faults }) : v = { m with faults := v.faults } := by
  rw [h] at k
  exact k

theorem tabled_rest (b a : Pole → Severity) (r : Pole → Nat) (s : State) :
    (s.tabled b a r).imon = { s.imon with faults := (s.tabled b a r).imon.faults } :=
  rest_trans (tableStep_rest ..) (tableStep_rest ..)

theorem tableStep_frame (p : Pole) (b a : Severity) (r : Nat) (s : State) :
    (s.tableStep p b a r).hzc = s.hzc ∧ (s.tableStep p b a r).tck = s.tck ∧ (s.tableStep p b a r).atn = s.atn := by
  simp [State.tableStep]

theorem tabled_frame (b a : Pole → Severity) (r : Pole → Nat) (s : State) :
    (s.tabled b a r).hzc = s.hzc ∧ (s.tabled b a r).tck = s.tck ∧ (s.tabled b a r).atn = s.atn := by
  simp [State.tabled, tableStep_frame]

theorem tabled_takesBoth (hone : s.imon.oneRecordEach = true) (hfollows : ∀ q, (b q).Follows (a q))
    (r : Pole → Nat) : s.imon.TakesBoth (s.tabled b a r).imon b a r s.tck.wall := by
  have hpos := tableStep_takes hone (hfollows .pos) .pos (r .pos)
  have hneg := tableStep_takes (s := s.tableStep .pos (b .pos) (a .pos) (r .pos)) hpos.one (hfollows .neg) .neg (r .neg)
  rw [(tableStep_frame _ _ _ _ s).2.1] at hneg
  exact takesBoth_of_takes hpos hneg

/-- The pole is newly at severity `v`. -/
@[reducible] def Newly (b a : Pole → Severity) (v : Severity) (q : Pole) : Prop := a q = v ∧ b q ≠ v

/-- The source that a severity raises (R91). -/
def Severity.source : Severity → Option (Fin 11)
  | .warning => some 1
  | .fault => some 0
  | .unknown | .normal => none

theorem source_injective {v w : Severity} {k : Fin 11} (hv : v.source = some k) (hw : w.source = some k) :
    v = w := by
  match v, w with
  | .warning, .warning | .fault, .fault => rfl
  | .warning, .fault | .fault, .warning => exact absurd (hv.trans hw.symm) (by decide)
  | .unknown, _ | .normal, _ => exact nomatch hv
  | _, .unknown | _, .normal => exact nomatch hw

theorem raiseSeverity_source {v : Severity} {k : Fin 11} (hk : v.source = some k) (p : Pole) (s : State) :
    (s.raiseSeverity p (b p) (a p)).atn.sources.get k =
      if Newly b a v p then (s.atn.sources.get k).raisedFor s.imon p else s.atn.sources.get k := by
  have hraised : ∀ src : Source, (a p).source = some src.index → b p ≠ a p →
      (s.raiseSlot src (.pole p)).atn.sources.get k =
        if Newly b a v p then (s.atn.sources.get k).raisedFor s.imon p else s.atn.sources.get k := by
    intro src hsrc hchanged
    by_cases hav : a p = v
    · have hk' : k = src.index := Option.some.inj (hk.symm.trans (hav ▸ hsrc))
      rw [if_pos ⟨hav, hav ▸ hchanged⟩, hk']
      exact raise_self src _ _
    · have hk' : k ≠ src.index := fun h => hav (source_injective hsrc (h ▸ hk))
      rw [if_neg fun h => hav h.1]
      exact raise_other src _ _ hk'
  unfold State.raiseSeverity
  split
  next hsame => rw [if_neg fun h => h.2 (hsame.trans h.1)]
  next hchanged =>
    split
    next ha => exact hraised .insWarning (by rw [ha]; rfl) hchanged
    next ha => exact hraised .insFault (by rw [ha]; rfl) hchanged
    all_goals
      next ha =>
        have hidle : ¬ Newly b a v p := fun h => by
          rw [← h.1, ha] at hk
          cases hk
        rw [if_neg hidle]

theorem raiseSeverity_other (p : Pole) (b a : Severity) (s : State) {k : Fin 11} (h0 : k ≠ 0) (h1 : k ≠ 1) :
    (s.raiseSeverity p b a).atn.sources.get k = s.atn.sources.get k := by
  unfold State.raiseSeverity
  split
  · rfl
  · split
    · exact raise_other _ _ _ h1
    · exact raise_other _ _ _ h0
    all_goals rfl

/-- Both poles raise their sources, and a change of severity triggers a pass. -/
def State.alerted (b a : Pole → Severity) (s : State) : State :=
  if b .pos ≠ a .pos ∨ b .neg ≠ a .neg then
    ((s.raiseSeverity .pos (b .pos) (a .pos)).raiseSeverity .neg (b .neg) (a .neg)).trigger
  else (s.raiseSeverity .pos (b .pos) (a .pos)).raiseSeverity .neg (b .neg) (a .neg)

theorem alerted_frame (b a : Pole → Severity) (s : State) :
    (s.alerted b a).imon = s.imon ∧ (s.alerted b a).hzc = s.hzc ∧ (s.alerted b a).tck = s.tck := by
  unfold State.alerted
  split <;> simp

theorem alerted_atn (b a : Pole → Severity) (s : State) : (s.alerted b a).atn =
    ((s.raiseSeverity .pos (b .pos) (a .pos)).raiseSeverity .neg (b .neg) (a .neg)).atn := by
  unfold State.alerted
  split <;> simp

theorem alerted_other {k : Fin 11} (h0 : k ≠ 0) (h1 : k ≠ 1) :
    (s.alerted b a).atn.sources.get k = s.atn.sources.get k := by
  rw [alerted_atn, raiseSeverity_other _ _ _ _ h0 h1, raiseSeverity_other _ _ _ _ h0 h1]

section

variable {v : Severity} {k : Fin 11}

theorem alerted_source (hk : v.source = some k) {q : Pole} (hq : Newly b a v q)
    (hlast : q = .pos → ¬ Newly b a v .neg) :
    (s.alerted b a).atn.sources.get k = (s.atn.sources.get k).raisedFor s.imon q := by
  rw [alerted_atn, raiseSeverity_source hk, raiseSeverity_source hk]
  cases q with
  | pos =>
    rw [if_neg (hlast rfl), if_pos hq]
  | neg =>
    rw [if_pos hq, (raiseSeverity_frame _ _ _ _).2.2.2.1]
    split <;> rfl

theorem alerted_flag (hk : v.source = some k) (h : Newly b a v .pos ∨ Newly b a v .neg) :
    ((s.alerted b a).atn.sources.get k).flag = true := by
  by_cases hneg : Newly b a v .neg
  · rw [alerted_source hk hneg nofun]
    rfl
  · rw [alerted_source hk (h.resolve_right hneg) fun _ => hneg]
    rfl

theorem alerted_idle (hk : v.source = some k) (h : ¬ (Newly b a v .pos ∨ Newly b a v .neg)) :
    (s.alerted b a).atn.sources.get k = s.atn.sources.get k := by
  rw [alerted_atn, raiseSeverity_source hk, raiseSeverity_source hk, if_neg (fun hn => h (.inr hn)),
    if_neg (fun hp => h (.inl hp))]

end

/-! ### The requests to locate, and step 5 (R79, R92) -/

/-- Both poles have requested locating. -/
def State.sought (b a : Pole → Severity) (s : State) : State :=
  (s.locateSeverity .pos (b .pos) (a .pos)).locateSeverity .neg (b .neg) (a .neg)

theorem sought_seeks (b a : Pole → Severity) (s : State) : s.Seeks (s.sought b a) :=
  (locateSeverity_seeks ..).trans (locateSeverity_seeks ..)

end

end Sys2Proof.Machine
end

section
/-! What a Compute's requests start (R92, R93, R96): the zones that the window's end leaves connected, a zone that
is isolated, and sequences without a zone to try. -/

namespace Sys2Proof.Machine

/-! ### The zones that a sequence tries (R52, R93) -/

section

variable {s : State} {z : Zone} {i : Fin 6}

/-- R93: the zone stands enabled once it has been brought in line. -/
def Zone.joins (z : Zone) : Bool :=
  decide (z.state ≠ .isolated) && decide (z.state ≠ .faulted) && z.enabled

theorem inLine_enabled (live : Bool) (z : Zone) : (z.inLine live).enabled = z.enabled := by
  unfold Zone.inLine
  (repeat' split) <;> rfl

theorem drive_faulted (g : Nat) (z : Zone) : (z.drive g).state = .faulted ↔ z.state = .faulted := by
  unfold Zone.drive
  split
  next hst => by_cases hg : 0 < g <;> simp [hst, hg]
  all_goals rfl

theorem inLine_faulted (live : Bool) (z : Zone) : (z.inLine live).state = .faulted ↔ z.state = .faulted := by
  unfold Zone.inLine
  (repeat' split) <;> simp_all [Zone.toOff, Zone.rest, Zone.connect, Zone.recompute]

theorem drive_joins (g : Nat) (z : Zone) : (z.drive g).joins = z.joins := by
  simp only [Zone.joins, ne_eq, drive_isolated, drive_faulted, drive_enabled]

theorem inLine_joins (live : Bool) (z : Zone) : (z.inLine live).joins = z.joins := by
  simp only [Zone.joins, ne_eq, inLine_isolated, inLine_faulted, inLine_enabled]

theorem connected_of_aligned (h : z.Aligned) : z.state.connected = z.joins := by
  obtain ⟨hon, hoff⟩ := h
  unfold Zone.joins
  cases hst : z.state <;> simp_all [ZoneState.connected]

/-- R52: after the end of a Sample phase the zones that join are the connected ones. -/
theorem windowEnd_connected (s : State) (i : Fin 6) :
    (s.windowEnd.zone i).state.connected = (s.zone i).joins := by
  rw [connected_of_aligned (windowEnd_aligned s i)]
  exact windowEnd_zone (P := fun z => z.joins = (s.zone i).joins) (fun g z h => (drive_joins g z).trans h)
    (fun live z h => (inLine_joins live z).trans h) rfl

theorem windowEnd_candidates (s : State) :
    s.windowEnd.candidates = (fins 6).filter fun i => (s.zone i).joins :=
  List.filter_congr fun i _ => windowEnd_connected s i

/-- A zone that heats or holds stands as it is through the end of a Sample phase. -/
theorem windowEnd_heats (hon : (s.zone i).enabled = true)
    (h : (s.zone i).state = .heating ∨ (s.zone i).state = .holding) :
    (s.windowEnd.zone i).state = (s.zone i).state := by
  have hst : (s.zone i).state.connected = true := by rcases h with h | h <;> rw [h] <;> rfl
  have hserved : (s.zone i).ServedAs (s.windowEnd.zone i) :=
    windowEnd_zone (P := (s.zone i).ServedAs) (fun g _ hz => drive_servedAs hz g) (fun live z hz => by
      rw [inLine_of_enabled (by rw [hz.record]; exact hon) (connected_of_servedAs hz hst)]
      exact hz) (.refl _)
  refine hserved.state.resolve_right fun hreq => ?_
  rcases h with h | h <;> exact nomatch h.symm.trans hreq.1

/-- A zone that is enabled while Off or Requested stands Requested or Heating after the end of a Sample phase. -/
theorem windowEnd_asks (hon : (s.zone i).enabled = true)
    (h : (s.zone i).state = .off ∨ (s.zone i).state = .requested) :
    (s.windowEnd.zone i).state = .requested ∨ (s.windowEnd.zone i).state = .heating := by
  have hkept : (s.windowEnd.zone i).enabled = true ∧ ((s.windowEnd.zone i).state = .off ∨
      (s.windowEnd.zone i).state = .requested ∨ (s.windowEnd.zone i).state = .heating) := by
    refine windowEnd_zone (P := fun z => z.enabled = true ∧
      (z.state = .off ∨ z.state = .requested ∨ z.state = .heating)) (fun g z hz => ?_) (fun live z hz => ?_)
      ⟨hon, h.imp_right .inl⟩
    · refine ⟨(drive_enabled g z).trans hz.1, ?_⟩
      rcases hz.2 with hst | hst | hst
      · exact .inl ((drive_off g z).2 hst)
      · by_cases hg : 0 < g <;> simp [Zone.drive, hst, hg]
      · simp [Zone.drive, hst]
    · refine ⟨(inLine_enabled live z).trans hz.1, ?_⟩
      rcases hz.2 with hst | hst | hst <;> simp [Zone.inLine, hst, hz.1, Zone.connect, Zone.recompute]
  refine hkept.2.resolve_left fun hoff => ?_
  rw [(windowEnd_aligned s i).2 hoff] at hkept
  exact nomatch hkept.1

end

/-! ### The requests of both poles -/

section

variable {s : State} {b a : Pole → Severity} {y : Fin 6} {rest : List (Fin 6)}

theorem locateSeverity_newly (p : Pole) (s : State) : s.locateSeverity p (b p) (a p) =
    if Newly b a .warning p then s.requestLocating p else s := by
  refine if_congr ⟨fun h => ⟨h.2, fun hb => h.1 (hb.trans h.2.symm)⟩, fun h => ⟨fun hb => h.2 (hb.trans h.1), h.1⟩⟩
    rfl rfl

theorem sought_idle (h : ¬ (Newly b a .warning .pos ∨ Newly b a .warning .neg)) : s.sought b a = s := by
  rw [State.sought, locateSeverity_newly, locateSeverity_newly, if_neg fun hp => h (.inl hp),
    if_neg fun hn => h (.inr hn)]

/-- The first pole that requests a sequence. -/
def firstSought (b a : Pole → Severity) : Pole := if Newly b a .warning .pos then .pos else .neg

/-- R92, R93: the first pole's sequence isolates the first zone; NEG waits if POS has started. -/
theorem sought_isolates (hnone : s.imon.loc.pole = none) (hlist : s.candidates = y :: rest)
    (h : Newly b a .warning .pos ∨ Newly b a .warning .neg) :
    (s.sought b a).imon.loc = { s.imon.loc with
      pole := some (firstSought b a), current := some y, candidates := rest, tried := 0
      deferred := if Newly b a .warning .pos ∧ Newly b a .warning .neg then some .neg else s.imon.loc.deferred } ∧
    (s.sought b a).zone y = (s.zone y).toIsolated ∧ (s.sought b a).atn = s.atn := by
  rw [State.sought, locateSeverity_newly, locateSeverity_newly, firstSought]
  by_cases hpos : Newly b a .warning .pos
  · obtain ⟨hloc, hzone, hatn⟩ := requestLocating_isolates hnone hlist .pos
    rw [if_pos hpos, if_pos hpos]
    by_cases hneg : Newly b a .warning .neg
    · have hpole : (s.requestLocating .pos).imon.loc.pole = some .pos := by rw [hloc]
      rw [if_pos hneg, if_pos ⟨hpos, hneg⟩, requestLocating_defers hpole (by decide)]
      refine ⟨?_, hzone, hatn⟩
      rw [State.modLoc, modImon_imon, hloc]
    · rw [if_neg hneg, if_neg fun h => hneg h.2]
      exact ⟨hloc, hzone, hatn⟩
  · have hneg := h.resolve_left hpos
    rw [if_neg hpos, if_neg hpos, if_pos hneg, if_neg fun h => hpos h.1]
    exact requestLocating_isolates hnone hlist .neg

/-- The last pole whose sequence completes without a zone to try. -/
def Insulation.lastOf (b a : Pole → Severity) (m : Insulation) : Pole :=
  if Newly b a .warning .pos ∧ Newly b a .warning .neg then .neg else m.lastSought (firstSought b a)

/-- R93, R96: with no zone to try, every requested sequence completes at once. -/
theorem sought_unexplained (hnone : s.imon.loc.pole = none) (hlist : s.candidates = [])
    (h : Newly b a .warning .pos ∨ Newly b a .warning .neg) :
    s.Unexplained (s.imon.lastOf b a) (s.sought b a) := by
  rw [State.sought, locateSeverity_newly, locateSeverity_newly, Insulation.lastOf, firstSought]
  by_cases hpos : Newly b a .warning .pos
  · have hfirst := requestLocating_unexplained hnone hlist .pos
    rw [if_pos hpos, if_pos hpos]
    by_cases hneg : Newly b a .warning .neg
    · rw [if_pos hneg, if_pos ⟨hpos, hneg⟩]
      have hloc : (s.requestLocating .pos).imon.loc = s.imon.loc.unexplained (s.imon.lastSought .pos) s.tck.wall := by
        rw [hfirst.imon]
      have hlast : (s.requestLocating .pos).imon.lastSought .neg = .neg := by
        unfold Insulation.lastSought
        rw [hloc]
        rfl
      have hsecond := requestLocating_unexplained (s := s.requestLocating .pos) (by rw [hloc]; rfl)
        ((candidates_congr hfirst.hzc).trans hlist) .neg
      rw [hlast] at hsecond
      have htck : (s.requestLocating .pos).tck = s.tck := by simp
      refine ⟨?_, ?_, hsecond.hzc.trans hfirst.hzc⟩
      · rw [hsecond.imon, htck, hfirst.imon]
        rfl
      · rw [hsecond.source, hfirst.source, hfirst.imon]
        rfl
    · rw [if_neg hneg, if_neg fun h => hneg h.2]
      exact hfirst
  · have hneg := h.resolve_left hpos
    rw [if_neg hpos, if_neg hpos, if_pos hneg, if_neg fun h => hpos h.1]
    exact requestLocating_unexplained hnone hlist .neg

end

end Sys2Proof.Machine
end

section
/-! The completion of ShiftSample (R69, R71, R75 to R79, R87 to R93): O39. -/

namespace Sys2Proof.Machine

section

variable {s : State}

/-! ### The Compute as a chain of states -/

/-- Steps 1 to 3: the window has ended and the cycle is evaluated. -/
def State.evaluated (s : State) : State :=
  s.endCycle.windowEnd.modImon fun m =>
    { { m with shifted := s.imon.shifted }.evaluate s.imon.meanP s.imon.meanN with
      shifted := none, outcome := .measured, endTime := s.now }

/-- The severities that the Compute gives. -/
def State.graded (s : State) : Pole → Severity := (s.imon.computed s.tck.wall).severity

/-- R79: some pole is newly at Fault. -/
def State.faulting (s : State) : Bool :=
  newFault (s.imon.severity .pos) (s.graded .pos) || newFault (s.imon.severity .neg) (s.graded .neg)

/-- Step 4, before the requests to locate. -/
def State.alert (s : State) : State :=
  (s.evaluated.tabled s.imon.severity s.graded (s.imon.computed s.tck.wall).ohms).alerted s.imon.severity s.graded

/-- Steps 4 and 5. -/
def State.handed (s : State) : State :=
  (s.alert.sought s.imon.severity s.graded).stepLocating s.faulting s.imon.loc.running

theorem evaluated_imon (s : State) : s.evaluated.imon = s.imon.computed s.tck.wall := by
  rw [State.evaluated, modImon_imon, (windowEnd_frame _).1]
  rfl

theorem handed_eq (s : State) :
    s.evaluated.handOn (s.imon.severity .pos) (s.imon.severity .neg) = s.handed := by
  have hloc : s.evaluated.imon.loc = s.imon.loc := by rw [evaluated_imon]; rfl
  rw [State.handed, State.alert, State.faulting, State.graded, ← hloc, ← evaluated_imon]
  rfl

theorem completeShift_eq (s : State) : s.completeShift = s.handed.nextCycle.passAndStop s.faulting := by
  rw [← handed_eq, State.faulting, State.graded, ← evaluated_imon]
  rfl

theorem exec_shiftSampleEnd (hcycle : s.imon.cycle = .shiftSample) (hover : 500 ≤ s.imon.phaseMs) :
    exec .shiftSampleEnd s = .next s.completeShift :=
  congrArg _ (if_pos ((phaseOver_iff _ s).2 ⟨hcycle, hover⟩))

theorem newFault_iff (b a : Severity) : newFault b a = true ↔ a = .fault ∧ b ≠ .fault := by
  simp only [newFault, Bool.and_eq_true, decide_eq_true_eq]
  exact ⟨fun h => ⟨h.2, fun hb => h.1 (hb.trans h.2.symm)⟩, fun h => ⟨fun hba => h.2 (hba.trans h.1), h.1⟩⟩

theorem faulting_iff (s : State) : s.faulting = true ↔
    Newly s.imon.severity s.graded .fault .pos ∨ Newly s.imon.severity s.graded .fault .neg := by
  rw [State.faulting, Bool.or_eq_true, newFault_iff, newFault_iff]

/-! ### What steps 4 and 5 keep -/

theorem evaluated_frame (s : State) : s.evaluated.hzc = s.endCycle.windowEnd.hzc ∧ s.evaluated.tck = s.tck ∧
    s.evaluated.atn = s.endCycle.windowEnd.atn := by
  refine ⟨rfl, ?_, rfl⟩
  simp [State.evaluated]

theorem evaluated_source (s : State) {k : Fin 11} (h5 : k ≠ 5) (h7 : k ≠ 7) :
    s.evaluated.atn.sources.get k = s.atn.sources.get k := by
  rw [(evaluated_frame s).2.2, windowEnd_other_source _ h5 h7]
  rfl

theorem alert_imon (s : State) :
    s.alert.imon = { s.imon.computed s.tck.wall with faults := s.alert.imon.faults } := by
  have himon := (alerted_frame s.imon.severity s.graded
    (s.evaluated.tabled s.imon.severity s.graded (s.imon.computed s.tck.wall).ohms)).1
  have hrest := tabled_rest s.imon.severity s.graded (s.imon.computed s.tck.wall).ohms s.evaluated
  rw [evaluated_imon] at hrest
  exact himon.trans (hrest.trans (by rw [State.alert, himon]))

theorem alert_hzc (s : State) : s.alert.hzc = s.endCycle.windowEnd.hzc := by
  rw [State.alert, (alerted_frame _ _ _).2.1, (tabled_frame _ _ _ _).1, (evaluated_frame s).1]

theorem alert_tck (s : State) : s.alert.tck = s.tck := by
  rw [State.alert, (alerted_frame _ _ _).2.2, (tabled_frame _ _ _ _).2.1, (evaluated_frame s).2.1]

theorem tabled_source (s : State) {k : Fin 11} (h5 : k ≠ 5) (h7 : k ≠ 7) :
    (s.evaluated.tabled s.imon.severity s.graded (s.imon.computed s.tck.wall).ohms).atn.sources.get k =
      s.atn.sources.get k := by
  rw [(tabled_frame _ _ _ _).2.2, evaluated_source s h5 h7]

/-- R85, R87 to R90: the table once it has taken both poles. -/
theorem alert_takesBoth (hone : s.imon.oneRecordEach = true) :
    s.imon.TakesBoth { s.imon with faults := s.alert.imon.faults } s.imon.severity s.graded
      (s.imon.computed s.tck.wall).ohms s.tck.wall := by
  have hboth := tabled_takesBoth (s := s.evaluated) (by rw [evaluated_imon]; exact hone)
    (computed_follows s.imon s.tck.wall) (s.imon.computed s.tck.wall).ohms
  rw [(evaluated_frame s).2.1, evaluated_imon] at hboth
  have himon := (alerted_frame s.imon.severity s.graded
    (s.evaluated.tabled s.imon.severity s.graded (s.imon.computed s.tck.wall).ohms)).1
  rw [State.alert, himon]
  exact ⟨rfl, hboth.one, hboth.old, hboth.free, hboth.born⟩

theorem handed_handsOn (s : State) :
    s.alert.HandsOn (fun o => ¬ movedBy s.faulting s.imon.loc.running o) s.handed :=
  (handsOn_of_seeks (sought_seeks ..)).trans (stepLocating_handsOn ..)

theorem handed_imon (s : State) : s.handed.imon =
    { s.imon.computed s.tck.wall with loc := s.handed.imon.loc, faults := s.handed.imon.faults } := by
  have himon := (handed_handsOn s).imon
  rw [alert_imon] at himon
  exact himon

theorem handed_frame (s : State) : s.handed.stu = s.stu ∧ s.handed.rqp = s.rqp ∧ s.handed.pwc = s.pwc ∧
    s.handed.act = s.endCycle.windowEnd.act := by
  rw [← handed_eq]
  simp only [handOn_frame, State.evaluated, modImon_stu, modImon_rqp, modImon_pwc, modImon_act, windowEnd_frame]
  exact ⟨rfl, rfl, rfl, trivial⟩

theorem handed_alike (s : State) : s.act.Alike s.handed.act := by
  rw [(handed_frame s).2.2.2]
  exact windowEnd_survives (s := s.endCycle) (survives_of_pass (fun _ _ act => s.act.Alike act)
    fun u hu i => (pass_alike u i).trans (hu i)) fun _ => rfl

/-! ### The next cycle (R71) -/

theorem nextCycle_imon (hidle : s.imon.cycle = .idle) : s.nextCycle.imon =
    if s.imon.pos.pendingConfirm = true ∨ s.imon.neg.pendingConfirm = true ∨ s.imon.loc.current ≠ none ∨
      (if s.pwc.state = .keepWarm then 600000 else 10000) ≤ s.imon.periodMs then s.imon.started else s.imon := by
  unfold State.nextCycle
  split
  next h =>
    rw [if_pos, startCycle_imon]
    simp only [Bool.or_eq_true, Option.isSome_iff_ne_none] at h
    rcases h with (h | h) | h
    · exact .inl h
    · exact .inr (.inl h)
    · exact .inr (.inr (.inl h))
  next h =>
    rw [startCycleIfDue_imon, cyclePeriod_eq]
    refine if_congr ⟨fun hdue => .inr (.inr (.inr hdue.2)), fun hdue => ⟨hidle, ?_⟩⟩ rfl rfl
    simp only [Bool.or_eq_true, Option.isSome_iff_ne_none, not_or] at h
    obtain ⟨⟨hpos, hneg⟩, hcurrent⟩ := h
    exact ((hdue.resolve_left hpos).resolve_left hneg).resolve_left hcurrent

/-- R71: only the cycle's own counters depend on whether the next one starts. -/
theorem nextCycle_rest (s : State) : s.nextCycle.imon =
    { s.imon with
      cycle := s.nextCycle.imon.cycle, phaseMs := s.nextCycle.imon.phaseMs, discards := s.nextCycle.imon.discards
      shifted := s.nextCycle.imon.shifted, sumP := s.nextCycle.imon.sumP, sumN := s.nextCycle.imon.sumN
      samples := s.nextCycle.imon.samples, periodMs := s.nextCycle.imon.periodMs } := by
  unfold State.nextCycle State.startCycleIfDue
  (repeat' split) <;> rfl

theorem handed_idle (s : State) : s.handed.imon.cycle = .idle ∧ s.handed.imon.shifted = none := by
  rw [handed_imon]
  exact ⟨rfl, rfl⟩

theorem nextCycle_closed (hidle : s.imon.cycle = .idle) : s.nextCycle.sampleOpen = false := by
  have hcycle : s.nextCycle.imon.cycle = .baseSettle ∨ s.nextCycle.imon.cycle = .idle := by
    rw [nextCycle_imon hidle]
    exact (ite_eq_or_eq _ _ _).imp (fun h => by rw [h]; rfl) fun h => by rw [h, hidle]
  rcases hcycle with h | h <;> rw [State.sampleOpen, h]

/-! ### The passes and the stop (R79) -/

theorem handed_oneActive (hone : s.act.oneActive = true) : s.handed.nextCycle.act.oneActive = true := by
  rw [(nextCycle_frame _).2.2.2.2.2.2.1]
  exact oneActive_of_within (within_of_alike (handed_alike s)) hone

theorem completeShift_stoppedAs (hone : s.act.oneActive = true) (hfault : s.faulting = true) :
    s.handed.nextCycle.StoppedAs .insulationFault s.completeShift := by
  rw [completeShift_eq, hfault]
  exact passAndStop_stoppedAs (nextCycle_closed (handed_idle s).1) (handed_oneActive hone)

theorem completeShift_settled (hfault : s.faulting = false) : s.completeShift = s.handed.nextCycle.settle := by
  rw [completeShift_eq, hfault]
  rfl

/-- R97: a new Fault leaves no sequence active. -/
theorem handed_abandoned (hfault : s.faulting = true) : s.handed.imon.loc.pole = none := by
  rw [State.handed, hfault]
  exact stepLocating_fault ..

theorem nextCycle_loc (s : State) : s.nextCycle.imon.loc = s.imon.loc := by rw [nextCycle_rest]

theorem completeShift_imon (hone : s.act.oneActive = true) : s.completeShift.imon = s.handed.nextCycle.imon := by
  cases hfault : s.faulting with
  | true =>
    have hnone : s.handed.nextCycle.imon.loc.pole = none := by rw [nextCycle_loc, handed_abandoned hfault]
    rw [(completeShift_stoppedAs hone hfault).imon, abandoned_of_none hnone]
  | false => rw [completeShift_settled hfault, settle_imon_of_closed (nextCycle_closed (handed_idle s).1)]

theorem completeShift_source (hone : s.act.oneActive = true) {k : Fin 11} (hk : k < 3) :
    s.completeShift.atn.sources.get k = s.handed.atn.sources.get k := by
  have hne : ∀ j : Fin 11, 3 ≤ j → k ≠ j := fun j hj hkj => by omega
  rw [← (nextCycle_frame s.handed).2.2.2.2.2.2.2.1]
  cases hfault : s.faulting with
  | true =>
    exact (completeShift_stoppedAs hone hfault).sources k (hne 3 (by decide)) (hne 5 (by decide)) (hne 6 (by decide))
      (hne 7 (by decide))
  | false =>
    rw [completeShift_settled hfault]
    exact settle_other_source _ (hne 5 (by decide)) (hne 7 (by decide))

end

end Sys2Proof.Machine
end

section
/-! The completion of ShiftSample, clause by clause (R71, R75 to R79, R87 to R93): O39. -/

namespace Sys2Proof.Machine

section

variable {s : State}

/-! ### Sources and records (R87 to R91) -/

theorem completeShift_alerted (hone : s.act.oneActive = true) {k : Fin 11} (hk : k < 2) :
    s.completeShift.atn.sources.get k = s.alert.atn.sources.get k := by
  rw [completeShift_source hone (by omega)]
  exact (handed_handsOn s).sources k (by omega) (by omega)

theorem completeShift_flag (hone : s.act.oneActive = true) {v : Severity} {k : Fin 11} (hk : v.source = some k)
    (hlow : k < 2) (h : Newly s.imon.severity s.graded v .pos ∨ Newly s.imon.severity s.graded v .neg) :
    (s.completeShift.atn.sources.get k).flag = true := by
  rw [completeShift_alerted hone hlow]
  exact alerted_flag hk h

theorem completeShift_idle (hone : s.act.oneActive = true) {v : Severity} {k : Fin 11} (hk : v.source = some k)
    (hlow : k < 2) (h : ¬ (Newly s.imon.severity s.graded v .pos ∨ Newly s.imon.severity s.graded v .neg)) :
    s.completeShift.atn.sources.get k = s.atn.sources.get k := by
  rw [completeShift_alerted hone hlow]
  exact (alerted_idle hk h).trans (tabled_source s (by omega) (by omega))

theorem completeShift_faults (hone : s.act.oneActive = true) :
    s.completeShift.imon.faults = s.handed.imon.faults := by
  rw [completeShift_imon hone, nextCycle_rest]

/-- A record that no judgement moves stands after the Compute as the table took it. -/
theorem completeShift_kept (hone : s.act.oneActive = true) {k : Fin 8} {x : FaultRec}
    (hx : s.alert.imon.faults.get k = some x) (hkept : ¬ movedBy s.faulting s.imon.loc.running x.origin) :
    s.completeShift.imon.faults.get k = some x := by
  rw [completeShift_faults hone]
  exact (handed_handsOn s).faults k x hx hkept

theorem completeShift_old (hone : s.act.oneActive = true) (heach : s.imon.oneRecordEach = true) {k : Fin 8}
    {x : FaultRec} (hx : s.imon.faults.get k = some x)
    (hkept : ¬ movedBy s.faulting s.imon.loc.running x.origin) : s.completeShift.imon.faults.get k =
      some (x.afterBoth s.imon.severity s.graded (s.imon.computed s.tck.wall).ohms s.tck.wall) :=
  completeShift_kept hone ((alert_takesBoth heach).old k x hx) (by rwa [afterBoth_origin])

theorem completeShift_free (hone : s.act.oneActive = true) (heach : s.imon.oneRecordEach = true)
    (hpos : ¬ s.imon.Fresh .pos (s.imon.severity .pos) (s.graded .pos))
    (hneg : ¬ s.imon.Fresh .neg (s.imon.severity .neg) (s.graded .neg)) {k : Fin 8}
    (hk : s.imon.faults.get k = none) : s.completeShift.imon.faults.get k = none := by
  rw [completeShift_faults hone]
  exact (handed_handsOn s).free k ((alert_takesBoth heach).free hpos hneg k hk)

theorem rises_of_newly {b a : Pole → Severity} {v : Severity} {q : Pole} (hv : v.raised = true)
    (h : Newly b a v q) : (b q).Rises (a q) := ⟨h.1 ▸ hv, fun hab => h.2 (hab.symm.trans h.1)⟩

theorem rises_iff {b a : Pole → Severity} {q : Pole} :
    (b q).Rises (a q) ↔ Newly b a .warning q ∨ Newly b a .fault q := by
  refine ⟨fun ⟨hraised, hchanged⟩ => ?_, fun h => h.elim (rises_of_newly rfl) (rises_of_newly rfl)⟩
  cases ha : a q with
  | warning => exact .inl ⟨ha, fun hb => hchanged (ha.trans hb.symm)⟩
  | fault => exact .inr ⟨ha, fun hb => hchanged (ha.trans hb.symm)⟩
  | unknown | normal => rw [ha] at hraised; exact nomatch hraised

/-- R91: the source carries the slot of the record of the last pole that raised it. -/
theorem completeShift_detail (hone : s.act.oneActive = true) (heach : s.imon.oneRecordEach = true) {v : Severity}
    {j : Fin 11} (hv : v.raised = true) (hj : v.source = some j) (hlow : j < 2) {q : Pole}
    (hq : Newly s.imon.severity s.graded v q) (hlast : q = .pos → ¬ Newly s.imon.severity s.graded v .neg)
    (hkept : ¬ movedBy s.faulting s.imon.loc.running (.pole q)) :
    ∃ k x, s.completeShift.imon.faults.get k = some x ∧ x.origin = .pole q ∧
      (s.completeShift.atn.sources.get j).detail = some (.faultSlot k.val) := by
  obtain ⟨k, x, hx, ho⟩ := (alert_takesBoth heach).record (rises_of_newly hv hq)
  refine ⟨k, x, completeShift_kept hone hx (ho ▸ hkept), ho, ?_⟩
  have hslot : s.alert.imon.recordOf (.pole q) = some k :=
    ho ▸ recordOf_of_get (alert_takesBoth heach).one hx
  have hraised : (s.alert.atn.sources.get j).detail =
      some (.faultSlot ((s.alert.imon.recordOf (.pole q)).map Fin.val |>.getD 0)) := by
    rw [State.alert, alerted_source hj hq hlast, (alerted_frame _ _ _).1]
    rfl
  rw [completeShift_alerted hone hlow, hraised, hslot]
  rfl

/-! ### A new Fault (R79, R97, R105, R106) -/

theorem completeShift_fault (hone : s.act.oneActive = true) (hfault : s.faulting = true) :
    s.completeShift.stu.epoch = (s.stu.epoch + 1) % 65536 ∧ s.completeShift.stu.bank.isSome = true ∧
    (s.completeShift.atn.sources.get 3).flag = true ∧
    (s.completeShift.atn.sources.get 3).detail =
      some (.stop ((s.stu.epoch + 1) % 65536) .insulationFault s.stu.bank.isNone) ∧
    s.completeShift.act.activeSlot = none ∧ s.completeShift.imon.loc.pole = none ∧
    (∀ i, (s.completeShift.zone i).enabled = false ∧
      ((s.completeShift.zone i).state = .off ∨ (s.completeShift.zone i).state = .faulted)) ∧
    s.completeShift.inl.state ≠ .ready ∧ s.completeShift.inl.state ≠ .drawing := by
  have h := completeShift_stoppedAs hone hfault
  have hstu : s.handed.nextCycle.stu = s.stu := (nextCycle_frame _).2.2.2.1.trans (handed_frame s).1
  obtain ⟨hslot, hready, hdrawing⟩ := h.halted
  have hloc : s.completeShift.imon.loc.pole = none := by
    rw [completeShift_imon hone, nextCycle_loc, handed_abandoned hfault]
  exact ⟨by rw [h.epoch, hstu], h.bank, by rw [h.stop], by rw [h.stop, hstu], hslot, hloc, h.zones, hready, hdrawing⟩

/-- R79: without a new Fault no stop is taken. -/
theorem completeShift_unstopped (hone : s.act.oneActive = true) (hfault : s.faulting = false) :
    s.completeShift.stu = s.stu ∧
    s.completeShift.atn.sources.get 0 = s.atn.sources.get 0 ∧
    s.completeShift.atn.sources.get 3 = s.atn.sources.get 3 ∧ s.completeShift.rqp = s.rqp ∧
    s.completeShift.act.activeSlot = s.act.activeSlot := by
  have hidle := completeShift_idle (v := .fault) hone rfl (by decide)
    (fun h => absurd ((faulting_iff s).2 h) (by rw [hfault]; nofun))
  obtain ⟨hstu, hrqp, -, -⟩ := handed_frame s
  have hact : s.handed.nextCycle.settle.act.activeSlot = s.act.activeSlot := by
    have hnext : s.handed.nextCycle.act = s.handed.act := by simp only [nextCycle_frame]
    refine settle_survives (P := fun t => t.act.activeSlot = s.act.activeSlot)
      (survives_of_pass (fun _ _ act => act.activeSlot = s.act.activeSlot)
        fun u hu => (activeSlot_alike (pass_alike u)).trans hu) ?_
    rw [hnext]
    exact activeSlot_alike (handed_alike s)
  have hstop : s.handed.nextCycle.settle.atn.sources.get 3 = s.atn.sources.get 3 := by
    rw [settle_other_source _ (by decide) (by decide), (nextCycle_frame _).2.2.2.2.2.2.2.1,
      (handed_handsOn s).sources 3 (by decide) (by decide)]
    exact (alerted_other (by decide) (by decide)).trans (tabled_source s (by decide) (by decide))
  refine ⟨?_, hidle, ?_, ?_, ?_⟩
  · rw [completeShift_settled hfault]
    simp only [settle_frame, nextCycle_frame, hstu]
  · rw [completeShift_settled hfault, hstop]
  · rw [completeShift_settled hfault]
    simp only [settle_frame, nextCycle_frame, hrqp]
  · rw [completeShift_settled hfault, hact]

theorem completeShift_queue (hone : s.act.oneActive = true) : s.completeShift.rqp.queue = s.rqp.queue := by
  have hrqp : s.handed.nextCycle.rqp = s.rqp := by simp only [nextCycle_frame, handed_frame]
  cases hfault : s.faulting with
  | true => rw [(completeShift_stoppedAs hone hfault).queue, hrqp]
  | false => rw [(completeShift_unstopped hone hfault).2.2.2.1]

/-! ### A sequence that starts (R92, R93) -/

theorem completeShift_loc (hone : s.act.oneActive = true) : s.completeShift.imon.loc = s.handed.imon.loc := by
  rw [completeShift_imon hone, nextCycle_loc]

/-- With no sequence active and no new Fault the requests to locate are step 5's last word. -/
theorem handed_sought (hfault : s.faulting = false) (hnone : s.imon.loc.pole = none) :
    s.handed = s.alert.sought s.imon.severity s.graded := by
  have hran : s.imon.loc.running = none := by
    unfold Locating.running
    rw [hnone]
  rw [State.handed, hfault, hran]
  rfl

theorem alert_loc (s : State) : s.alert.imon.loc = s.imon.loc := by
  rw [alert_imon]
  rfl

theorem alert_lastSought (p : Pole) (s : State) : s.alert.imon.lastSought p =
    match s.imon.loc.deferred with
    | none => p
    | some d => if s.graded d = .warning then d else p := by
  have hpole : ∀ d, (s.alert.imon.pole d).severity = s.graded d := fun d => by
    rw [alert_imon]
    cases d <;> rfl
  unfold Insulation.lastSought
  rw [alert_loc]
  cases s.imon.loc.deferred with
  | none => rfl
  | some d => exact if_congr (by rw [hpole]) rfl rfl

theorem alert_located (s : State) : s.alert.atn.sources.get 2 = s.atn.sources.get 2 :=
  (alerted_other (by decide) (by decide)).trans (tabled_source s (by decide) (by decide))

theorem alert_candidates (s : State) : s.alert.candidates = (fins 6).filter fun i => (s.zone i).joins :=
  (candidates_congr (alert_hzc s)).trans (windowEnd_candidates s.endCycle)

/-- A pole newly at Warning. -/
def State.warning (s : State) : Prop :=
  Newly s.imon.severity s.graded .warning .pos ∨ Newly s.imon.severity s.graded .warning .neg

theorem completeShift_unsought (hone : s.act.oneActive = true) (hfault : s.faulting = false)
    (hnone : s.imon.loc.pole = none) (h : ¬ s.warning) :
    s.completeShift.imon.loc = s.imon.loc ∧ s.completeShift.atn.sources.get 2 = s.atn.sources.get 2 := by
  rw [completeShift_loc hone, completeShift_source hone (by decide), handed_sought hfault hnone, sought_idle h]
  exact ⟨alert_loc s, alert_located s⟩

theorem completeShift_isolates (hone : s.act.oneActive = true) (hfault : s.faulting = false)
    (hnone : s.imon.loc.pole = none) (h : s.warning) {y : Fin 6} {rest : List (Fin 6)}
    (hlist : ((fins 6).filter fun i => (s.zone i).joins) = y :: rest) :
    s.completeShift.imon.loc = { s.imon.loc with
      pole := some (firstSought s.imon.severity s.graded), current := some y, candidates := rest, tried := 0
      deferred := if Newly s.imon.severity s.graded .warning .pos ∧ Newly s.imon.severity s.graded .warning .neg
        then some .neg else s.imon.loc.deferred } ∧
    s.completeShift.atn.sources.get 2 = s.atn.sources.get 2 ∧
    s.completeShift.zone y = (s.endCycle.windowEnd.zone y).toIsolated := by
  obtain ⟨hloc, hzone, hatn⟩ := sought_isolates (b := s.imon.severity) (a := s.graded) (s := s.alert)
    (by rw [alert_loc, hnone]) ((alert_candidates s).trans hlist) h
  rw [alert_loc] at hloc
  rw [completeShift_loc hone, completeShift_source hone (by decide), completeShift_settled hfault,
    handed_sought hfault hnone]
  refine ⟨hloc, (congrArg (fun t : Attention => t.sources.get 2) hatn).trans (alert_located s), ?_⟩
  have hnext : (s.alert.sought s.imon.severity s.graded).nextCycle.zone y =
      (s.endCycle.windowEnd.zone y).toIsolated := by
    rw [State.zone, (nextCycle_frame _).2.2.1]
    refine hzone.trans ?_
    rw [State.zone, alert_hzc]
    rfl
  rw [settle_zone_of_still (by rw [hnext]; exact .inl rfl), hnext]

theorem completeShift_unexplained (hone : s.act.oneActive = true) (hfault : s.faulting = false)
    (hnone : s.imon.loc.pole = none) (h : s.warning) (hlist : ((fins 6).filter fun i => (s.zone i).joins) = []) :
    s.completeShift.imon.loc = s.imon.loc.unexplained (s.alert.imon.lastOf s.imon.severity s.graded) s.tck.wall ∧
    s.completeShift.imon.faults = s.alert.imon.faults ∧
    s.completeShift.atn.sources.get 2 =
      (s.atn.sources.get 2).raisedFor s.alert.imon (s.alert.imon.lastOf s.imon.severity s.graded) := by
  have hsought := sought_unexplained (b := s.imon.severity) (a := s.graded) (s := s.alert)
    (by rw [alert_loc, hnone]) ((alert_candidates s).trans hlist) h
  rw [completeShift_loc hone, completeShift_faults hone, completeShift_source hone (by decide),
    handed_sought hfault hnone, hsought.source, hsought.imon, alert_located, alert_tck]
  exact ⟨by rw [alert_loc], rfl, rfl⟩

end

end Sys2Proof.Machine
end

section
/-! O39: the completion of ShiftSample in the words of its statement. -/

namespace Sys2Proof.Machine

section

variable {s : State}

/-- R75, R76: a Compute's figures where the resistances are known. -/
theorem computed_figures {m : Insulation} {now r1 r2 : Nat}
    (h : resistances (m.shifted.getD .pos) m.uP0 m.uN0 m.meanP m.meanN = (r1, r2)) :
    m.computed now = { m with
      uP1 := m.meanP, uN1 := m.meanN, rPos := r1, rNeg := r2
      warnK := thresholdK m.warnTh m.vbus, faultK := thresholdK m.faultTh m.vbus
      returnK := returnLevel (thresholdK m.warnTh m.vbus)
      pos := m.pos.update (gradeOf r1 (thresholdK m.warnTh m.vbus) (thresholdK m.faultTh m.vbus)
        (returnLevel (thresholdK m.warnTh m.vbus)))
      neg := m.neg.update (gradeOf r2 (thresholdK m.warnTh m.vbus) (thresholdK m.faultTh m.vbus)
        (returnLevel (thresholdK m.warnTh m.vbus)))
      cycle := .idle, phaseMs := 0, sumP := 0, sumN := 0, samples := 0, shifted := none
      outcome := .measured, endTime := now } := by
  rw [Insulation.computed, Insulation.evaluate, h]

theorem running_iff {l : Locating} {q : Pole} {z : Fin 6} :
    l.running = some (q, z) ↔ l.pole = some q ∧ l.current = some z := by
  unfold Locating.running
  cases l.pole <;> cases l.current <;> simp

theorem movedBy_iff {l : Locating} {o : Origin} : movedBy s.faulting l.running o ↔
    ¬ (s.faulting = true) ∧ ∃ q z, l.pole = some q ∧ l.current = some z ∧ (o = .pole q ∨ o = .zone z) := by
  simp only [movedBy, running_iff, Bool.not_eq_true, and_assoc]

theorem fresh_iff {m : Insulation} {b a : Pole → Severity} {q : Pole} : m.Fresh q (b q) (a q) ↔
    (Newly b a .warning q ∨ Newly b a .fault q) ∧ ∀ k x, m.faults.get k = some x → x.origin ≠ .pole q :=
  and_congr_left fun _ => rises_iff

/-- R71: the fields of the measurement after the Compute, and whether the next cycle starts at once. -/
theorem completeShift_measured (hone : s.act.oneActive = true) :
    s.completeShift.imon = { s.imon.computed s.tck.wall with
      cycle := s.completeShift.imon.cycle, discards := s.completeShift.imon.discards
      periodMs := s.completeShift.imon.periodMs, faults := s.completeShift.imon.faults
      loc := s.completeShift.imon.loc } := by
  have hfields : ∀ w, w = s.handed.imon.started ∨ w = s.handed.imon → w = { s.imon.computed s.tck.wall with
      cycle := w.cycle, discards := w.discards, periodMs := w.periodMs, faults := w.faults, loc := w.loc } := by
    rintro w (rfl | rfl)
    · rw [handed_imon]
      rfl
    · rw [handed_imon]
  rw [completeShift_imon hone, nextCycle_imon (handed_idle s).1]
  exact hfields _ (ite_eq_or_eq _ _ _)

theorem completeShift_cycle (hone : s.act.oneActive = true) : s.completeShift.imon.cycle =
    if (s.imon.computed s.tck.wall).pos.pendingConfirm = true ∨
      (s.imon.computed s.tck.wall).neg.pendingConfirm = true ∨ s.completeShift.imon.loc.current ≠ none ∨
      (if s.pwc.state = .keepWarm then 600000 else 10000) ≤ s.imon.periodMs then .baseSettle else .idle := by
  rw [completeShift_loc hone, completeShift_imon hone, nextCycle_imon (handed_idle s).1, (handed_frame s).2.2.1]
  have hperiod : s.handed.imon.periodMs = s.imon.periodMs := by rw [handed_imon]; rfl
  have hpos : s.handed.imon.pos = (s.imon.computed s.tck.wall).pos := by rw [handed_imon]
  have hneg : s.handed.imon.neg = (s.imon.computed s.tck.wall).neg := by rw [handed_imon]
  rw [hperiod, hpos, hneg]
  refine (apply_ite Insulation.cycle _ _ _).trans ?_
  rw [(handed_idle s).1]
  rfl

end

/-- Settles O39: the Compute is a chain of states; each clause says what one of them, and the passes and the stop
after them, make of the record. -/
theorem shiftSampleComputes : Obligations.ShiftSampleComputes := by
  intro s hcycle hover hone m mean u1 n1 lPos uL0 uS0 uL1 uS1 rS rL warnK faultK grade pos neg newFault newWarning
    period
  obtain ⟨hmeanP, hmeanN⟩ := mean_eq s.imon
  rw [hcycle] at hmeanP hmeanN
  have hu1 : s.imon.meanP = u1 := hmeanP
  have hn1 : s.imon.meanN = n1 := hmeanN
  have hfigures := computed_figures (m := s.imon) (now := s.tck.wall)
    (r1 := if lPos then rL else rS) (r2 := if lPos then rS else rL) (by
      rw [hu1, hn1]
      exact resistances_eq ..)
  rw [hu1, hn1] at hfigures
  have hpos : (s.imon.computed s.tck.wall).pos = pos := by rw [hfigures]; rfl
  have hneg : (s.imon.computed s.tck.wall).neg = neg := by rw [hfigures]; rfl
  have hohms : ∀ q, (s.imon.computed s.tck.wall).ohms q = if lPos = decide (q = .pos) then rL else rS := by
    intro q
    rw [hfigures]
    cases q <;> cases lPos <;> rfl
  have hgraded : ∀ q, (match q with | .pos => pos.severity | .neg => neg.severity) = s.graded q := fun q => by
    cases q
    · exact (congrArg PoleRec.severity hpos).symm
    · exact (congrArg PoleRec.severity hneg).symm
  have hmeasured := completeShift_measured hone
  have hcycle' := completeShift_cycle hone
  rw [hpos, hneg] at hcycle'
  have hfault : newFault ↔ s.faulting = true := by
    rw [faulting_iff, Newly, Newly, ← hgraded, ← hgraded]
    rfl
  have hwarning : newWarning ↔ s.warning := by
    rw [State.warning, Newly, Newly, ← hgraded, ← hgraded]
    rfl
  rw [hfigures] at hmeasured
  have hfield : ∀ {α : Type} (f : Insulation → α), f s.completeShift.imon = f _ := fun f => congrArg f hmeasured
  refine ⟨_, exec_shiftSampleEnd hcycle hover, hfield (·.uP0), hfield (·.uN0),
    hfield (·.vbus), hfield (·.uP1), hfield (·.uN1),
    hfield (·.rPos), hfield (·.rNeg), hfield (·.warnK),
    hfield (·.faultK), hfield (·.returnK), hfield (·.pos),
    hfield (·.neg), hfield (·.outcome),
    hfield (·.endTime), hfield (·.shifted), hcycle', fun h => ?_,
    fun h => completeShift_flag hone (v := .warning) rfl (by decide) (hwarning.1 h),
    fun h => completeShift_unstopped hone (Bool.eq_false_iff.2 fun hf => h (hfault.2 hf)),
    fun h => completeShift_idle hone (v := .warning) rfl (by decide) fun hw => h (hwarning.2 hw), ?_,
    fun h hnone => ?_, completeShift_queue hone, ?_⟩
  · obtain ⟨hepoch, hbank, hrest⟩ := completeShift_fault hone (hfault.1 h)
    exact ⟨hepoch, hbank, completeShift_flag hone (v := .fault) rfl (by decide) ((faulting_iff s).1 (hfault.1 h)),
      hrest⟩
  · intro before after ohms raised newly judged fresh changed heach
    have hbefore : ∀ q, before q = s.imon.severity q := fun q => by cases q <;> rfl
    replace hgraded : ∀ q, after q = s.graded q := hgraded
    have hnewly : ∀ q v, newly q v ↔ Newly s.imon.severity s.graded v q := fun q v => by
      rw [Newly, ← hbefore, ← hgraded]
    have hfresh : ∀ q, fresh q ↔ s.imon.Fresh q (s.imon.severity q) (s.graded q) := fun q => by
      rw [fresh_iff, ← hnewly, ← hnewly]
    have hkept : ∀ {o}, ¬ judged o → ¬ movedBy s.faulting s.imon.loc.running o := fun hj hm => hj (by
      obtain ⟨hnot, hmoved⟩ := movedBy_iff.1 hm
      exact ⟨fun hf => hnot (hfault.1 hf), hmoved⟩)
    have hchanged : ∀ q x, x.after (s.imon.severity q) (s.graded q) ((s.imon.computed s.tck.wall).ohms q) s.tck.wall =
        changed q x := fun q x => by
      have hfollows : (s.imon.severity q).Follows (s.graded q) := computed_follows s.imon s.tck.wall q
      rw [after_eq hfollows, hohms]
      change _ = ite _ _ _
      simp only [raised, hbefore, hgraded]
      rfl
    refine ⟨fun k x hx hj => ?_, fun q hq hj => ?_, fun hp hn k hk => ?_, fun q hq hj => ?_, fun q hq => ?_⟩
    · refine (completeShift_old hone heach hx (hkept hj)).trans (congrArg some ?_)
      unfold FaultRec.afterBoth
      rcases x.origin with q | z
      · exact hchanged q x
      · rfl
    · obtain ⟨k, hnone, hborn, hlow⟩ := (alert_takesBoth heach).born q ((hfresh q).1 hq)
      refine ⟨k, hnone, ?_, fun j hj => (hlow j hj).imp_right fun ⟨hneg', hpos', hfull⟩ =>
        ⟨hneg', (hfresh _).2 hpos', hfull⟩⟩
      rw [completeShift_kept hone hborn (hkept hj), FaultRec.born, hgraded, hohms]
    · exact completeShift_free hone heach (fun h => hp ((hfresh _).2 h)) (fun h => hn ((hfresh _).2 h)) hk
    · exact completeShift_detail hone heach (v := .warning) rfl rfl (by decide) ((hnewly _ _).1 hq.1)
        (fun hqp hn => hq.2 hqp ((hnewly _ _).2 hn)) (hkept hj)
    · refine completeShift_detail hone heach (v := .fault) rfl rfl (by decide) ((hnewly _ _).1 hq.1)
        (fun hqp hn => hq.2 hqp ((hnewly _ _).2 hn)) fun hm => (movedBy_iff.1 hm).1 ((faulting_iff s).2 ?_)
      have hnew := (hnewly _ _).1 hq.1
      cases q
      · exact .inl hnew
      · exact .inr hnew
  · intro joins list after warns first both last
    have hquiet : s.faulting = false := Bool.eq_false_iff.2 fun hf => h (hfault.2 hf)
    replace hgraded : ∀ q, after q = s.graded q := hgraded
    have hwarns : ∀ q, warns q = true ↔ Newly s.imon.severity s.graded .warning q := fun q => by
      rw [Newly, ← hgraded]
      simp only [warns, Bool.and_eq_true, decide_eq_true_eq]
      rfl
    have hfirst : first = firstSought s.imon.severity s.graded := if_congr (hwarns .pos) rfl rfl
    have hboth : both = true ↔
        Newly s.imon.severity s.graded .warning .pos ∧ Newly s.imon.severity s.graded .warning .neg := by
      rw [← hwarns, ← hwarns]
      exact Bool.and_eq_true_iff
    have hlast : s.alert.imon.lastOf s.imon.severity s.graded = last := by
      refine if_congr hboth.symm rfl ?_
      rw [alert_lastSought, ← hfirst]
      cases s.imon.loc.deferred with
      | none => rfl
      | some d => exact if_congr (by rw [hgraded]) rfl rfl
    refine ⟨fun hw => completeShift_unsought hone hquiet hnone fun hs => hw (hwarning.2 hs),
      fun y rest hw hlist => ?_, fun hw hlist => ?_⟩
    · obtain ⟨hloc, hsource, hzone⟩ := completeShift_isolates hone hquiet hnone (hwarning.1 hw) hlist
      have hmem : y ∈ list := hlist ▸ List.mem_cons_self
      have hjoins := List.of_mem_filter (p := fun i => (s.zone i).joins) hmem
      have hon : (s.zone y).enabled = true := (Bool.and_eq_true_iff.1 hjoins).2
      rw [hzone, hloc, ← hfirst, if_congr hboth.symm rfl rfl]
      exact ⟨rfl, hsource, rfl, rfl, fun hst => congrArg some (windowEnd_heats (s := s.endCycle) hon hst),
        fun hst => (windowEnd_asks (s := s.endCycle) hon hst).imp (congrArg some) (congrArg some)⟩
    · obtain ⟨hloc, hfaults, hsource⟩ := completeShift_unexplained hone hquiet hnone (hwarning.1 hw) hlist
      rw [hlast] at hloc hsource
      rw [hsource]
      refine ⟨hloc, rfl, fun heach k x hx ho => ?_⟩
      rw [hfaults] at hx
      have hslot : s.alert.imon.recordOf (.pole last) = some k :=
        ho ▸ recordOf_of_get (alert_takesBoth heach).one hx
      change some (Detail.faultSlot ((s.alert.imon.recordOf (.pole last)).map Fin.val |>.getD 0)) = _
      rw [hslot]
      rfl
  · simp

end Sys2Proof.Machine
end

section
/-! The fault table through each operation that writes it (R85, R95, R99, R100): no origin gets a second record. -/

namespace Sys2Proof.Machine

section

variable {s t : State} {m w : Insulation} {p : Pole} {z : Fin 6}

/-! ### Tables of one origin each (R85) -/

theorem oneRecordEach_of_faults (h : w.faults = m.faults) : w.oneRecordEach = m.oneRecordEach := by
  rw [Insulation.oneRecordEach, Insulation.oneRecordEach, h]

/-- Slots that hold what they held, but for the origin's sake, or are freed, keep the origins apart. -/
theorem oneRecordEach_of_within (hm : m.oneRecordEach = true)
    (h : ∀ k x, w.faults.get k = some x → ∃ u, m.faults.get k = some u ∧ u.origin = x.origin) :
    w.oneRecordEach = true := by
  refine (oneRecordEach_iff w).2 fun k l x y hx hy heq => ?_
  obtain ⟨u, hu, hux⟩ := h k x hx
  obtain ⟨v, hv, hvy⟩ := h l y hy
  exact slot_of_origin hm hu hv (hux.trans (heq.trans hvy.symm))

theorem modFault_oneRecordEach (h : s.imon.oneRecordEach = true) {f : FaultRec → FaultRec}
    (hf : ∀ x, (f x).origin = x.origin) (i : Fin 8) : (s.modFault i f).imon.oneRecordEach = true :=
  oneRecordEach_congr (fun k => modFault_origins hf i k s) h

theorem freeFault_oneRecordEach (h : m.oneRecordEach = true) (i : Fin 8) :
    ({ m with faults := m.faults.set i none } : Insulation).oneRecordEach = true := by
  refine oneRecordEach_of_within h fun k x hx => ?_
  rw [Table.get_set] at hx
  split at hx
  · exact nomatch hx
  · exact ⟨x, hx, rfl⟩

theorem State.Seeks.faults (h : s.Seeks t) : t.imon.faults = s.imon.faults := by rw [h.imon]

theorem State.Seeks.oneRecordEach (h : s.Seeks t) (hs : s.imon.oneRecordEach = true) :
    t.imon.oneRecordEach = true := (oneRecordEach_of_faults h.faults).trans hs

/-! ### A record that is moved (R95) -/

variable {i j : Fin 8} {x : FaultRec}

theorem moveRecord_missing (h : s.imon.recordOf (.pole p) = none) : s.moveRecord p z = s := by
  unfold State.moveRecord
  rw [h]

/-- R95, Re-key. -/
theorem moveRecord_rekeys (hi : s.imon.recordOf (.pole p) = some i) (hz : s.imon.recordOf (.zone z) = none) :
    s.moveRecord p z = s.modFault i fun y => { y with origin := .zone z, last := s.now } := by
  obtain ⟨y, hy, -⟩ := recordOf_some hi
  unfold State.moveRecord
  rw [hi]
  dsimp only
  rw [hy, hz]

/-- R95, Merge. -/
theorem moveRecord_merges (hi : s.imon.recordOf (.pole p) = some i) (hx : s.imon.faults.get i = some x)
    (hj : s.imon.recordOf (.zone z) = some j) : s.moveRecord p z =
      (s.modFault j fun y => y.merge s.now x).modImon fun m => { m with faults := m.faults.set i none } := by
  unfold State.moveRecord
  rw [hi]
  dsimp only
  rw [hx, hj]

theorem moveRecord_oneRecordEach (h : s.imon.oneRecordEach = true) (p : Pole) (z : Fin 6) :
    (s.moveRecord p z).imon.oneRecordEach = true := by
  cases hi : s.imon.recordOf (.pole p) with
  | none => rwa [moveRecord_missing hi]
  | some i =>
    cases hj : s.imon.recordOf (.zone z) with
    | some j =>
      obtain ⟨x, hx, -⟩ := recordOf_some hi
      rw [moveRecord_merges hi hx hj]
      exact freeFault_oneRecordEach (modFault_oneRecordEach (f := fun y => y.merge s.now x) h (fun _ => rfl) j) i
    | none =>
      rw [moveRecord_rekeys hi hj]
      have hget : ∀ k y, (s.modFault i fun y => { y with origin := .zone z, last := s.now }).imon.faults.get k =
          some y → (k = i ∧ y.origin = .zone z) ∨ s.imon.faults.get k = some y := by
        intro k y hy
        rw [modFault_imon, Table.get_modify] at hy
        split at hy
        next hk =>
          obtain ⟨u, -, rfl⟩ := Option.map_eq_some_iff.1 hy
          exact .inl ⟨hk, rfl⟩
        next => exact .inr hy
      have hmissing := recordOf_none hj
      refine (oneRecordEach_iff _).2 fun k l y v hy hv heq => ?_
      rcases hget k y hy with ⟨hk, hyz⟩ | hy' <;> rcases hget l v hv with ⟨hl, hvz⟩ | hv'
      · rw [hk, hl]
      · exact absurd (heq.symm.trans hyz) (hmissing l v hv')
      · exact absurd (heq.trans hvz) (hmissing k y hy')
      · exact slot_of_origin h hy' hv' heq

/-! ### A Compute (R79, R85) -/

theorem judge_oneRecordEach (h : s.imon.oneRecordEach = true) (p : Pole) (z : Fin 6) (r : Nat) :
    (s.judge p z r).imon.oneRecordEach = true := by
  unfold State.judge
  split
  · exact (completeSequence_seeks _ _ _).oneRecordEach
      (moveRecord_oneRecordEach ((insulationFault_seeks z s).oneRecordEach h) p z)
  · exact ((releaseZone_seeks z s).trans ((modLoc_seeks _ _).trans (continueSequence_seeks _ _ _))).oneRecordEach h

theorem stepLocating_oneRecordEach (h : s.imon.oneRecordEach = true) (fault : Bool)
    (ran : Option (Pole × Fin 6)) : (s.stepLocating fault ran).imon.oneRecordEach = true := by
  unfold State.stepLocating
  split
  · exact (abandonLocating_seeks s).oneRecordEach h
  · split
    · exact h
    · exact judge_oneRecordEach h _ _ _

theorem handed_oneRecordEach (h : s.imon.oneRecordEach = true) : s.handed.imon.oneRecordEach = true := by
  have htable : s.alert.imon.oneRecordEach = true := (alert_takesBoth h).one
  exact stepLocating_oneRecordEach ((sought_seeks _ _ _).oneRecordEach htable) _ _

theorem settle_oneRecordEach (h : s.imon.oneRecordEach = true) : s.settle.imon.oneRecordEach = true :=
  (oneRecordEach_of_faults (settle_records s).1).trans h

theorem takeStop_oneRecordEach (h : s.imon.oneRecordEach = true) (c : StopCause) :
    (s.takeStop c).imon.oneRecordEach = true := by
  rw [takeStop_imon]
  exact h

theorem passAndStop_oneRecordEach (h : s.imon.oneRecordEach = true) (fault : Bool) :
    (s.passAndStop fault).imon.oneRecordEach = true := by
  have hchoice : s.nextChoice.imon.oneRecordEach = true := h
  unfold State.passAndStop
  (repeat' split)
  · exact settle_oneRecordEach (takeStop_oneRecordEach (settle_oneRecordEach hchoice) _)
  · exact settle_oneRecordEach (settle_oneRecordEach (takeStop_oneRecordEach hchoice _))
  · exact settle_oneRecordEach h

theorem completeShift_oneRecordEach (h : s.imon.oneRecordEach = true) :
    s.completeShift.imon.oneRecordEach = true := by
  rw [completeShift_eq]
  refine passAndStop_oneRecordEach ?_ _
  rw [nextCycle_rest]
  exact handed_oneRecordEach h

/-! ### The other events that write IMON's record -/

theorem startCycle_oneRecordEach (h : s.imon.oneRecordEach = true) : s.startCycle.imon.oneRecordEach = true := h

theorem startCycleIfDue_oneRecordEach (h : s.imon.oneRecordEach = true) :
    s.startCycleIfDue.imon.oneRecordEach = true := by
  unfold State.startCycleIfDue
  split <;> exact h

theorem completeBase_oneRecordEach (h : s.imon.oneRecordEach = true) :
    s.completeBase.imon.oneRecordEach = true := by
  rw [completeBase_imon]
  exact h

theorem poleConditionsEnd_oneRecordEach (h : s.imon.oneRecordEach = true) :
    s.poleConditionsEnd.imon.oneRecordEach = true :=
  conditionEnds_oneRecordEach (conditionEnds_oneRecordEach h _) _

/-- R74, R90: a reading without a bus ends the conditions of both poles. -/
theorem poleReading_oneRecordEach (h : s.imon.oneRecordEach = true) (up un : Nat) :
    (s.poleReading up un).imon.oneRecordEach = true := by
  unfold State.poleReading
  (repeat' split)
  · rw [noBus_imon]
    exact poleConditionsEnd_oneRecordEach (s := s.unbussed up un) h
  · exact h
  · exact h

theorem abandonRecord_oneRecordEach (h : s.imon.oneRecordEach = true) :
    s.abandonRecord.imon.oneRecordEach = true := by
  rw [abandonRecord_imon]
  exact h

theorem resetZone_oneRecordEach (h : s.imon.oneRecordEach = true) (i : Fin 6) :
    (s.resetZone i).imon.oneRecordEach = true := by
  unfold State.resetZone
  dsimp only
  split
  · exact conditionEnds_oneRecordEach (by exact h) _
  · exact h

end

end Sys2Proof.Machine
end

section
/-! The fault table through every command (R85): O43. -/

namespace Sys2Proof.Machine

section

variable {s t : State}

/-! ### Events that write no fault record -/

theorem readZones_oneRecordEach (h : s.imon.oneRecordEach = true) (x : ZoneTemps) :
    (s.readZones x).imon.oneRecordEach = true := by
  rw [readZones_eq, readList_imon (fins_nodup 6)]
  exact h

theorem wake_oneRecordEach (h : s.imon.oneRecordEach = true) (cause : WakeCause) (f : FrontEnd) :
    (s.wake cause f).imon.oneRecordEach = true := by
  unfold State.wake
  dsimp only
  split
  · exact startCycleIfDue_oneRecordEach (by simpa [State.startPasses] using h)
  all_goals exact h

theorem readProximity_oneRecordEach (h : s.imon.oneRecordEach = true) (ohms : Nat) (f : FrontEnd) :
    (s.readProximity ohms f).imon.oneRecordEach = true := by
  simp only [State.readProximity]
  split
  · unfold State.bandAccepted
    split
    · unfold State.plugOrWake
      split
      · exact wake_oneRecordEach (by simpa using h) _ _
      · simpa [State.plug] using h
    · rw [(unplug_frame _).1]
      exact h
    · simpa [State.classChange] using h
    · exact h
  · exact h

theorem pilotWindow_imon (w : PilotWindow) (s : State) : (s.pilotWindow w).imon = s.imon := by
  rw [pilotWindow_eq]
  split
  · rfl
  · rcases offerChange_cases s.inl.offerValid (s.inl.takeWindow w).offerValid
      (s.modInl (Inlet.takeWindow w)) with ⟨-, hsame⟩ | henter
    · rw [hsame]; rfl
    · rw [henter]; rfl

/-! ### Power states (R82, R84, R101, R199) -/

/-- R101: a port reset and Dormant entry leave the fault table. -/
theorem imonReset_oneRecordEach (m : Insulation) : m.portReset.oneRecordEach = m.oneRecordEach :=
  oneRecordEach_of_faults rfl

theorem portReset_oneRecordEach (h : s.imon.oneRecordEach = true) (c : ResetCauses) :
    (s.portReset c).imon.oneRecordEach = true := by
  simp only [State.portReset, clearWork_imon, suspendAtReset_frame, modPwc_imon, modRqp_imon, modAtn_imon,
    modMtr_imon, modStu_imon, modHzc_imon, modAlc_imon, modInl_imon, modImon_imon, imonReset_oneRecordEach]
  exact poleConditionsEnd_oneRecordEach (abandonRecord_oneRecordEach h)

theorem enterDormant_oneRecordEach (h : s.imon.oneRecordEach = true) :
    s.enterDormant.imon.oneRecordEach = true := by
  have hended : (s.poleConditionsEnd.abandonLocating.modImon Insulation.sleep).imon.oneRecordEach = true :=
    (imonReset_oneRecordEach _).trans
      ((abandonLocating_seeks _).oneRecordEach (poleConditionsEnd_oneRecordEach h))
  simp only [State.enterDormant, clearWork_imon, modRqp_imon, setPower_frame, stopMeter_frame, modAlc_imon,
    modHzc_imon]
  split
  · rw [(zonesInLine_frame _).2.2.1]
    exact hended
  · exact hended

theorem takePark_oneRecordEach (h : s.imon.oneRecordEach = true) (mode : ParkMode) (n : Nat) :
    (s.takePark mode n).imon.oneRecordEach = true := by
  unfold State.takePark State.enterMode
  (repeat' split)
  · exact h
  · exact settle_oneRecordEach (startCycleIfDue_oneRecordEach (by simpa using h))
  · exact enterDormant_oneRecordEach h
  · exact h

theorem endResumption_oneRecordEach (h : s.imon.oneRecordEach = true) (f : FrontEnd) (x : ZoneTemps) :
    (s.endResumption f x).imon.oneRecordEach = true := by
  have hawake : ((s.modPwc fun p => { p with resuming := false }).modHzc fun x =>
      { x with zones := x.zones.map Zone.wake }).imon.oneRecordEach = true := h
  rw [State.endResumption, (startPasses_frame _).2.2.1]
  refine startCycle_oneRecordEach ?_
  rw [(startMeter_frame _ _).2.2.1]
  exact readZones_oneRecordEach hawake x

theorem endStarting_oneRecordEach (h : s.imon.oneRecordEach = true) (ohms : Nat) (f : FrontEnd) (x : ZoneTemps) :
    (s.endStarting ohms f x).imon.oneRecordEach = true := by
  rw [State.endStarting, (startPasses_frame _).2.2.1]
  exact startCycle_oneRecordEach (readZones_oneRecordEach (by simpa using h) x)

/-! ### The requests -/

/-- A request keeps one record for each origin where its owner does. -/
theorem request_oneRecordEach {codes : Byte → Bool} {owner : List Byte → State → State × Reply}
    (h : Keeps (fun t => t.imon.oneRecordEach = true) owner) (hs : s.imon.oneRecordEach = true) :
    (s.runRequest codes owner).imon.oneRecordEach = true :=
  request_keeps (P := fun t => t.imon.oneRecordEach = true) (fun _ _ ht => ht) h hs

theorem report_request_oneRecordEach {codes : Byte → Bool} (f : State → List Byte)
    (hs : s.imon.oneRecordEach = true) :
    (s.runRequest codes (noPayload (report f))).imon.oneRecordEach = true :=
  request_oneRecordEach (keeps_noPayload (keeps_report f)) hs

theorem heartbeat_imon (s : State) : s.heartbeat.imon = s.imon := by
  unfold State.heartbeat
  (repeat' split) <;> rfl

theorem ownConfigure_oneRecordEach : Keeps (fun t => t.imon.oneRecordEach = true) ownConfigure := by
  intro p s h
  unfold ownConfigure
  (repeat' split)
  · exact h
  · exact settle_oneRecordEach h
  · exact h

theorem ownPark_oneRecordEach : Keeps (fun t => t.imon.oneRecordEach = true) ownPark := by
  intro p s h
  unfold ownPark
  (repeat' split)
  · exact h
  · exact h
  · exact takePark_oneRecordEach h _ _
  · exact h

theorem ownSetChargeLimits_oneRecordEach : Keeps (fun t => t.imon.oneRecordEach = true) ownSetChargeLimits := by
  intro p s h
  unfold ownSetChargeLimits
  split
  · exact settle_oneRecordEach h
  · exact h

theorem ownReportBattery_oneRecordEach : Keeps (fun t => t.imon.oneRecordEach = true) ownReportBattery := by
  intro p s h
  unfold ownReportBattery
  split
  · exact settle_oneRecordEach h
  · exact h

theorem ownWriteCurve_oneRecordEach : Keeps (fun t => t.imon.oneRecordEach = true) ownWriteCurve := by
  intro p s h
  unfold ownWriteCurve
  (repeat' split)
  · exact h
  · exact h
  · exact h
  · exact settle_oneRecordEach h
  · exact h

theorem ownWriteZone_oneRecordEach : Keeps (fun t => t.imon.oneRecordEach = true) ownWriteZone := by
  intro p s h
  unfold ownWriteZone
  (repeat' split)
  · exact h
  · exact h
  · exact settle_oneRecordEach h
  · exact h

theorem ownReadZone_oneRecordEach : Keeps (fun t => t.imon.oneRecordEach = true) ownReadZone := by
  intro p s h
  unfold ownReadZone
  (repeat' split) <;> exact h

theorem ownResetZone_oneRecordEach : Keeps (fun t => t.imon.oneRecordEach = true) ownResetZone := by
  intro p s h
  unfold ownResetZone
  (repeat' split)
  · exact h
  · exact h
  · exact h
  · exact settle_oneRecordEach (resetZone_oneRecordEach h _)
  · exact h

theorem ownSetAllowance_oneRecordEach : Keeps (fun t => t.imon.oneRecordEach = true) ownSetAllowance := by
  intro p s h
  unfold ownSetAllowance
  split
  · refine settle_oneRecordEach ?_
    unfold State.setAllowance
    dsimp only
    (repeat' split) <;> exact h
  · exact h

theorem ownSetThresholds_oneRecordEach : Keeps (fun t => t.imon.oneRecordEach = true) ownSetThresholds := by
  intro p s h
  unfold ownSetThresholds
  dsimp only
  (repeat' split) <;> exact h

theorem ownReadFault_oneRecordEach (n : Nat) (s : State) (h : s.imon.oneRecordEach = true) :
    (ownReadFault n s).1.imon.oneRecordEach = true := by
  unfold ownReadFault
  split <;> exact h

/-- R99: an acknowledged record keeps its origin. -/
theorem ownAcknowledgeFault_oneRecordEach (n : Nat) (s : State) (h : s.imon.oneRecordEach = true) :
    (ownAcknowledgeFault n s).1.imon.oneRecordEach = true := by
  unfold ownAcknowledgeFault
  (repeat' split)
  · exact h
  · exact modFault_oneRecordEach (f := FaultRec.acknowledge) h (fun _ => rfl) _
  · exact h

/-- R100: a retired record leaves its slot Free. -/
theorem ownRetireFault_oneRecordEach (n : Nat) (s : State) (h : s.imon.oneRecordEach = true) :
    (ownRetireFault n s).1.imon.oneRecordEach = true := by
  unfold ownRetireFault
  (repeat' split)
  · exact h
  · exact freeFault_oneRecordEach h _
  · exact h

theorem restore_imon (c : Context) (s : State) : (s.restore c).imon = s.imon := by
  have key : ∀ (l : List (Fin 6)) (t : State), (l.foldl (State.restoreZone c) t).imon = t.imon := by
    intro l
    induction l with
    | nil => exact fun _ => rfl
    | cons i rest ih => exact fun t => ih (t.restoreZone c i)
  exact key (fins 6) s

theorem reactivate_imon (x : Option Handle) (s : State) : (s.reactivate x).imon = s.imon := by
  unfold State.reactivate
  (repeat' split) <;> simp

theorem ownResume_oneRecordEach (s : State) (h : s.imon.oneRecordEach = true) :
    (ownResume s).1.imon.oneRecordEach = true := by
  unfold ownResume
  (repeat' split)
  · exact h
  · exact h
  · refine settle_oneRecordEach ?_
    simp only [State.takeResume, trigger_frame, modStu_imon, reactivate_imon, restore_imon]
    exact h

theorem ownDiscardSnapshot_oneRecordEach (s : State) (h : s.imon.oneRecordEach = true) :
    (ownDiscardSnapshot s).1.imon.oneRecordEach = true := by
  unfold ownDiscardSnapshot
  split <;> exact h

theorem ownSetClock_oneRecordEach : Keeps (fun t => t.imon.oneRecordEach = true) ownSetClock := by
  intro p s h
  unfold ownSetClock
  split <;> exact h

theorem ownWriteTariff_oneRecordEach : Keeps (fun t => t.imon.oneRecordEach = true) ownWriteTariff := by
  intro p s h
  unfold ownWriteTariff
  dsimp only
  (repeat' split) <;> exact h

theorem ownReadTariff_oneRecordEach (n : Nat) (s : State) (h : s.imon.oneRecordEach = true) :
    (ownReadTariff n s).1.imon.oneRecordEach = true := by
  unfold ownReadTariff
  split <;> exact h

theorem ownOpenAccount_oneRecordEach : Keeps (fun t => t.imon.oneRecordEach = true) ownOpenAccount := by
  intro p s h
  unfold ownOpenAccount
  (repeat' split) <;> exact h

theorem ownFindAccount_oneRecordEach : Keeps (fun t => t.imon.oneRecordEach = true) ownFindAccount := by
  intro p s h
  unfold ownFindAccount
  (repeat' split) <;> exact h

theorem ownReadAccount_oneRecordEach (i : Fin 16) (a : Account) (p : List Byte) (s : State)
    (h : s.imon.oneRecordEach = true) : (ownReadAccount i a p s).1.imon.oneRecordEach = true := by
  unfold ownReadAccount
  (repeat' split) <;> exact h

theorem amendTo_oneRecordEach (pending : Option (Fin 8)) (i : Fin 16) (a : Account) (p : List Byte) (s : State)
    (h : s.imon.oneRecordEach = true) : (amendTo pending i a p s).1.imon.oneRecordEach = true := by
  unfold amendTo
  split
  · exact h
  · split
    · exact h
    next u hrefs =>
      have hu : u.imon.oneRecordEach = true := by rw [(amendRefs_frame hrefs).2.2.2.1]; exact h
      refine settle_oneRecordEach ?_
      split <;> simpa using hu

theorem ownAmendAccount_oneRecordEach (i : Fin 16) (a : Account) (p : List Byte) (s : State)
    (h : s.imon.oneRecordEach = true) : (ownAmendAccount i a p s).1.imon.oneRecordEach = true := by
  unfold ownAmendAccount
  (repeat' split)
  · exact h
  · exact amendTo_oneRecordEach _ _ _ _ _ h
  · exact amendTo_oneRecordEach _ _ _ _ _ h

theorem ownActivateAccount_oneRecordEach (i : Fin 16) (a : Account) (p : List Byte) (s : State)
    (h : s.imon.oneRecordEach = true) : (ownActivateAccount i a p s).1.imon.oneRecordEach = true := by
  unfold ownActivateAccount
  split
  · exact settle_oneRecordEach (by simpa using h)
  · exact h

theorem ownSuspendAccount_oneRecordEach (i : Fin 16) (a : Account) (p : List Byte) (s : State)
    (h : s.imon.oneRecordEach = true) : (ownSuspendAccount i a p s).1.imon.oneRecordEach = true := by
  unfold ownSuspendAccount
  split
  · exact settle_oneRecordEach (by simpa using h)
  · exact h

theorem ownCloseAccount_oneRecordEach (i : Fin 16) (a : Account) (p : List Byte) (s : State)
    (h : s.imon.oneRecordEach = true) : (ownCloseAccount i a p s).1.imon.oneRecordEach = true := by
  unfold ownCloseAccount
  split
  · exact h
  · refine settle_oneRecordEach ?_
    simp only [State.closeSlot]
    split <;> simpa using h

theorem ownRetireAccount_oneRecordEach (i : Fin 16) (a : Account) (p : List Byte) (s : State)
    (h : s.imon.oneRecordEach = true) : (ownRetireAccount i a p s).1.imon.oneRecordEach = true := by
  unfold ownRetireAccount
  split <;> exact h

theorem ownTakeAttention_oneRecordEach (s : State) (h : s.imon.oneRecordEach = true) :
    (ownTakeAttention s).1.imon.oneRecordEach = true := by
  unfold ownTakeAttention
  (repeat' split) <;> exact h

theorem ownReleaseAttention_oneRecordEach (s : State) (h : s.imon.oneRecordEach = true) :
    (ownReleaseAttention s).1.imon.oneRecordEach = true := by
  unfold ownReleaseAttention
  split <;> exact h

theorem ownSetAttentionSource_oneRecordEach :
    Keeps (fun t => t.imon.oneRecordEach = true) ownSetAttentionSource := by
  intro p s h
  unfold ownSetAttentionSource
  (repeat' split) <;> exact h

end

/-! ### Every command -/

/-- O43 for one command: by the operations of its event, or by its owner. -/
theorem exec_oneRecordEach {c : Instr} {s t : State} (h : s.imon.oneRecordEach = true) (ht : exec c s = .next t) :
    t.imon.oneRecordEach = true := by
  cases c <;> cases ht
  case identify | readResetCauses | readInlet | readCurve | readAllowance | readInsulation | readSnapshot |
      readClock | listAccounts => exact report_request_oneRecordEach _ h
  case configure => exact request_oneRecordEach ownConfigure_oneRecordEach h
  case heartbeat =>
    exact request_oneRecordEach
      (keeps_noPayload fun s hs => settle_oneRecordEach (by rw [heartbeat_imon]; exact hs)) h
  case restart => exact request_oneRecordEach (keeps_noPayload fun _ hs => portReset_oneRecordEach hs _) h
  case park => exact request_oneRecordEach ownPark_oneRecordEach h
  case clearResetCauses | clearUnbilled => exact request_oneRecordEach (keeps_noPayload fun _ hs => hs) h
  case setChargeLimits => exact request_oneRecordEach ownSetChargeLimits_oneRecordEach h
  case reportBattery => exact request_oneRecordEach ownReportBattery_oneRecordEach h
  case writeCurve => exact request_oneRecordEach ownWriteCurve_oneRecordEach h
  case readAllocation | readMeter => exact request_oneRecordEach (keeps_oneByte fun _ _ hs => hs) h
  case writeZone => exact request_oneRecordEach ownWriteZone_oneRecordEach h
  case readZone => exact request_oneRecordEach ownReadZone_oneRecordEach h
  case resetZone => exact request_oneRecordEach ownResetZone_oneRecordEach h
  case setAllowance => exact request_oneRecordEach ownSetAllowance_oneRecordEach h
  case setThresholds => exact request_oneRecordEach ownSetThresholds_oneRecordEach h
  case readFault => exact request_oneRecordEach (keeps_oneByte ownReadFault_oneRecordEach) h
  case acknowledgeFault => exact request_oneRecordEach (keeps_oneByte ownAcknowledgeFault_oneRecordEach) h
  case retireFault => exact request_oneRecordEach (keeps_oneByte ownRetireFault_oneRecordEach) h
  case stop =>
    exact request_oneRecordEach
      (keeps_noPayload fun _ hs => settle_oneRecordEach (takeStop_oneRecordEach hs _)) h
  case resume => exact request_oneRecordEach (keeps_noPayload ownResume_oneRecordEach) h
  case discardSnapshot => exact request_oneRecordEach (keeps_noPayload ownDiscardSnapshot_oneRecordEach) h
  case setClock => exact request_oneRecordEach ownSetClock_oneRecordEach h
  case writeTariff => exact request_oneRecordEach ownWriteTariff_oneRecordEach h
  case readTariff => exact request_oneRecordEach (keeps_oneByte ownReadTariff_oneRecordEach) h
  case openAccount => exact request_oneRecordEach ownOpenAccount_oneRecordEach h
  case findAccount => exact request_oneRecordEach ownFindAccount_oneRecordEach h
  case readAccount => exact request_oneRecordEach (keeps_withHandle ownReadAccount_oneRecordEach) h
  case amendAccount => exact request_oneRecordEach (keeps_withHandle ownAmendAccount_oneRecordEach) h
  case activateAccount => exact request_oneRecordEach (keeps_withHandle ownActivateAccount_oneRecordEach) h
  case suspendAccount => exact request_oneRecordEach (keeps_withHandle ownSuspendAccount_oneRecordEach) h
  case closeAccount => exact request_oneRecordEach (keeps_withHandle ownCloseAccount_oneRecordEach) h
  case retireAccount => exact request_oneRecordEach (keeps_withHandle ownRetireAccount_oneRecordEach) h
  case takeAttention => exact request_oneRecordEach (keeps_noPayload ownTakeAttention_oneRecordEach) h
  case releaseAttention => exact request_oneRecordEach (keeps_noPayload ownReleaseAttention_oneRecordEach) h
  case setAttentionSource => exact request_oneRecordEach ownSetAttentionSource_oneRecordEach h
  case unknownRequest => exact request_oneRecordEach (fun _ _ hs => hs) h
  case transactionStart | transactionEnd | baseSettleEnd | shiftSettleEnd => split <;> exact h
  case proximityReading ohms f =>
    split
    · exact settle_oneRecordEach (readProximity_oneRecordEach h ohms f)
    · exact h
  case pilotWindowEnd w =>
    split
    · exact settle_oneRecordEach (by rw [pilotWindow_imon]; exact h)
    · exact h
  case idleTimerExpiry | pausingTimerExpiry | periodicPass | batteryReportStale | supervisionExpiry =>
    split
    · exact settle_oneRecordEach h
    · exact h
  case quickReading | clockAdvance =>
    split
    · exact settle_oneRecordEach (by simpa using h)
    · exact h
  case zoneSensorReading x =>
    split
    · exact settle_oneRecordEach (readZones_oneRecordEach h x)
    · exact h
  case poleVoltageReading up un =>
    split
    · exact h
    · exact settle_oneRecordEach (poleReading_oneRecordEach h _ _)
  case cyclePeriodExpiry =>
    split
    · exact startCycleIfDue_oneRecordEach h
    · exact h
  case baseSampleEnd =>
    split
    · exact settle_oneRecordEach (completeBase_oneRecordEach h)
    · exact h
  case shiftSampleEnd =>
    split
    · exact completeShift_oneRecordEach h
    · exact h
  case wakeLineEdge | wakeTimerExpiry =>
    split
    · exact settle_oneRecordEach (wake_oneRecordEach h _ _)
    · exact h
  case resumptionEnd f x =>
    split
    · exact settle_oneRecordEach (endResumption_oneRecordEach h f x)
    · exact h
  case startingEnd ohms f x =>
    split
    · exact settle_oneRecordEach (endStarting_oneRecordEach h ohms f x)
    · exact h
  case supplyReset => rfl
  case resetPin =>
    split
    · exact h
    · exact portReset_oneRecordEach h _
  case resetPinRelease => exact h

/-- Settles O43: one ms moves IMON's timers alone, and every command keeps one record for each origin. -/
theorem oneRecordPerOrigin : Obligations.OneRecordPerOrigin := by
  intro s t h hstep
  unfold step at hstep
  split at hstep
  · cases hstep
    rw [tick_imon]
    split <;> exact h
  next _ rest _ => exact exec_oneRecordEach (s := s.withPending rest) h hstep

end Sys2Proof.Machine
end

section
/-! The fault table's requests (R99, R100): O42. -/

namespace Sys2Proof.Machine

/-! ### A request that carries one byte (R185) -/

section

variable {s : State} {p : List Byte} {owner : Nat → State → State × Reply} {limit : Nat}

theorem field_first (b : Byte) (rest : List Byte) : field (b :: rest) 0 1 = b.toNat := by
  simp [field, ofBytes]

theorem oneByte_length (h : p = [] ∨ (field p 0 1 ≤ limit ∧ p.length ≠ 1)) :
    oneByte limit owner p s = refuse .length s := by
  cases p with
  | nil => rfl
  | cons b rest =>
    obtain ⟨hle, hlen⟩ := h.resolve_left nofun
    rw [field_first] at hle
    have hrest : rest.length ≠ 0 := fun hnone => hlen (congrArg (· + 1) hnone)
    exact (if_neg (Nat.not_lt.2 hle)).trans (if_neg hrest)

theorem oneByte_range (h : limit < field p 0 1) : oneByte limit owner p s = refuse .range s := by
  cases p with
  | nil => exact absurd h (Nat.not_lt.2 (field_nil 0 1 ▸ Nat.zero_le _))
  | cons b rest =>
    rw [field_first] at h
    exact if_pos h

theorem oneByte_slot (i : Fin 8) : oneByte 7 owner [BitVec.ofNat 8 i.val] s = owner i.val s := by
  have hval : (BitVec.ofNat 8 i.val).toNat = i.val := (be_one_toNat (by omega)).2
  unfold oneByte
  dsimp only
  rw [hval]
  exact (if_neg (by omega)).trans (if_pos rfl)

end

/-! ### Acknowledge and Retire by the slot's state (R99, R100) -/

section

variable {s : State} {i : Fin 8} {x : FaultRec}

theorem slotReply_eq (st : Status) (i : Fin 8) (s : State) :
    slotReply st i s = ⟨st, [BitVec.ofNat 8 i.val, BitVec.ofNat 8 (faultCode (s.imon.faults.get i))]⟩ := by
  simp [slotReply, be]

theorem acknowledge_eq (x : FaultRec) : x.acknowledge = { x with
    state := if x.state = .active ∨ x.state = .acknowledged then .acknowledged else .resolved } := by
  unfold FaultRec.acknowledge
  cases x.state <;> rfl

theorem ownAcknowledgeFault_free (h : s.imon.faults.get i = none) :
    ownAcknowledgeFault i.val s = (s, ⟨.state, [BitVec.ofNat 8 i.val, 0#8]⟩) := by
  unfold ownAcknowledgeFault
  rw [slotOf8_val]
  refine (if_neg (by rw [h]; nofun)).trans ?_
  rw [slotReply_eq, h]
  rfl

theorem ownAcknowledgeFault_held (h : s.imon.faults.get i = some x) : ownAcknowledgeFault i.val s =
    ({ s with imon := { s.imon with faults := s.imon.faults.set i (some x.acknowledge) } },
      ⟨.ok, [BitVec.ofNat 8 i.val, BitVec.ofNat 8 x.acknowledge.state.code]⟩) := by
  have htable : s.modFault i FaultRec.acknowledge =
      { s with imon := { s.imon with faults := s.imon.faults.set i (some x.acknowledge) } } := by
    change ({ s with imon := { s.imon with faults := s.imon.faults.set i _ } } : State) = _
    rw [h]
    rfl
  unfold ownAcknowledgeFault
  rw [slotOf8_val]
  dsimp only
  rw [h, htable, slotReply_eq]
  dsimp only
  rw [Table.get_set_self]
  rfl

theorem ownRetireFault_refuses (h : (s.imon.faults.get i).map FaultRec.state ≠ some .resolved) :
    ownRetireFault i.val s = (s, ⟨.state,
      [BitVec.ofNat 8 i.val, BitVec.ofNat 8 (faultCode (s.imon.faults.get i))]⟩) := by
  unfold ownRetireFault
  rw [slotOf8_val]
  refine (if_neg h).trans ?_
  rw [slotReply_eq]

theorem ownRetireFault_frees (h : (s.imon.faults.get i).map FaultRec.state = some .resolved) :
    ownRetireFault i.val s = ({ s with imon := { s.imon with faults := s.imon.faults.set i none } },
      ⟨.ok, [BitVec.ofNat 8 i.val, 0#8]⟩) := by
  unfold ownRetireFault
  rw [slotOf8_val]
  dsimp only
  rw [if_pos h, slotReply_eq, modImon_imon]
  dsimp only
  rw [Table.get_set_self]
  rfl

end

/-- Settles O42: the checks are those of a request of one byte; the rest goes by the slot's state. -/
theorem faultRecordsAcknowledgeAndRetire : Obligations.FaultRecordsAcknowledgeAndRetire := by
  rintro s c code (⟨rfl, rfl⟩ | ⟨rfl, rfl⟩)
  · refine ⟨fun p hp h => next_of_serves hp (oneByte_length h), fun p hp h => next_of_serves hp (oneByte_range h),
      fun i hp => ⟨fun hfree => ?_, fun r hr _ => ?_, nofun⟩⟩
    · exact next_of_serves hp ((oneByte_slot i).trans (ownAcknowledgeFault_free hfree))
    · have hheld := ownAcknowledgeFault_held hr
      rw [acknowledge_eq] at hheld
      exact next_of_serves hp ((oneByte_slot i).trans hheld)
  · refine ⟨fun p hp h => next_of_serves hp (oneByte_length h), fun p hp h => next_of_serves hp (oneByte_range h),
      fun i hp => ⟨fun hfree => ?_, nofun, fun r hr _ => ⟨fun hst => ?_, fun hst => ?_⟩⟩⟩
    · have hrefused := ownRetireFault_refuses (s := s) (i := i) (by rw [hfree]; nofun)
      rw [hfree] at hrefused
      exact next_of_serves hp ((oneByte_slot i).trans hrefused)
    · exact next_of_serves hp ((oneByte_slot i).trans (ownRetireFault_frees (by rw [hr, Option.map_some, hst])))
    · have hrefused := ownRetireFault_refuses (s := s) (i := i) (by
        rw [hr]
        exact fun h => hst (Option.some.inj h))
      rw [hr] at hrefused
      exact next_of_serves hp ((oneByte_slot i).trans hrefused)

end Sys2Proof.Machine
end

section
/-! Locating's steps (R57, R93 to R96): the next zone that is isolated, and a sequence that completes and gives a
deferred pole its turn. -/

namespace Sys2Proof.Machine

section

variable {s t : State} {y i : Fin 6} {rest : List (Fin 6)}

/-! ### The zones (R56, R57) -/

theorem releaseZone_other (h : i ≠ y) (s : State) : (s.releaseZone y).zone i = s.zone i := by
  unfold State.releaseZone
  split
  · exact (zone_modZone y i _ s).trans (if_neg h)
  · rfl

theorem releaseZone_self (h : (s.zone y).state = .isolated) :
    (s.releaseZone y).zone y = (s.zone y).released s.blocksRun := by
  unfold State.releaseZone
  rw [if_pos h]
  exact (zone_modZone y y _ s).trans (if_pos rfl)

/-- R56: an isolation touches the zone that it is for, and the one that stands Isolated. -/
theorem isolateZone_other (h : i ≠ y) (hst : (s.zone i).state ≠ .isolated) :
    (s.isolateZone y).zone i = s.zone i := by
  have hsame : ∀ u : State, u.zone i = s.zone i →
      (if (u.zone y).state.connected then (u.modZone y Zone.toIsolated).trigger else u).zone i = s.zone i := by
    intro u hu
    split
    · exact ((zone_modZone y i _ u).trans (if_neg h)).trans hu
    · exact hu
  unfold State.isolateZone
  dsimp only
  cases hfound : s.isolatedZone with
  | none => exact hsame s rfl
  | some j =>
    have hij : i ≠ j := by
      rintro rfl
      exact hst (isolatedZone_state hfound)
    dsimp only
    split
    · exact hsame s rfl
    · exact hsame _ (releaseZone_other hij s)

/-! ### What a step of a sequence does to the zones -/

/-- A step of locating: of the zones that stand free it isolates at most the current one, and that was connected. -/
structure State.Tries (s t : State) : Prop where
  seeks   : s.Seeks t
  zone    : ∀ i, (s.zone i).state ≠ .isolated →
    t.zone i = if t.imon.loc.current = some i then (s.zone i).toIsolated else s.zone i
  current : ∀ i, t.imon.loc.current = some i → (s.zone i).state.connected = true

theorem tries_of_zones (hseeks : s.Seeks t) (hhzc : t.hzc = s.hzc) (hnone : t.imon.loc.current = none) :
    s.Tries t :=
  ⟨hseeks, fun i _ => by rw [hnone, State.zone, hhzc]; rfl, fun i hi => nomatch hnone.symm.trans hi⟩

/-- R93 steps 3 and 5: zone `y` becomes the current zone. -/
def State.isolating (y : Fin 6) (rest : List (Fin 6)) (s : State) : State :=
  (s.isolateZone y).modLoc fun l => { l with current := some y, candidates := rest }

theorem isolating_loc (y : Fin 6) (rest : List (Fin 6)) (s : State) :
    (s.isolating y rest).imon.loc = { s.imon.loc with current := some y, candidates := rest } := by
  simp only [State.isolating, State.modLoc, modImon_imon, isolateZone_frame]

theorem isolating_atn (y : Fin 6) (rest : List (Fin 6)) (s : State) : (s.isolating y rest).atn = s.atn := by
  simp [State.isolating]

theorem isolating_tries (h : (s.zone y).state.connected = true) (rest : List (Fin 6)) :
    s.Tries (s.isolating y rest) where
  seeks := (isolateZone_seeks y s).trans (modLoc_seeks _ _)
  zone i hi := by
    rw [isolating_loc]
    by_cases hiy : i = y
    · subst hiy
      exact (isolateZone_zone h).trans (if_pos rfl).symm
    · exact (isolateZone_other hiy hi).trans (if_neg fun hy => hiy (Option.some.inj hy).symm).symm
  current i hi := by
    rw [isolating_loc] at hi
    cases hi
    exact h

theorem isolateNext_some {l : List (Fin 6)} (h : (l.find? fun i => (s.zone i).state.connected) = some y) :
    ∃ rest, s.isolateNext l = some (s.isolating y rest) := by
  induction l with
  | nil => exact nomatch h
  | cons z rest ih =>
    rw [List.find?_cons] at h
    unfold State.isolateNext
    split at h
    next hz =>
      cases h
      exact ⟨rest, if_pos hz⟩
    next hz =>
      obtain ⟨rest', hrest⟩ := ih h
      exact ⟨rest', (if_neg (by rw [hz]; nofun)).trans hrest⟩

theorem isolateNext_none {l : List (Fin 6)} (h : (l.find? fun i => (s.zone i).state.connected) = none) :
    s.isolateNext l = none := by
  induction l with
  | nil => rfl
  | cons z rest ih =>
    obtain ⟨hz, hrest⟩ := List.forall_mem_cons.1 (List.find?_eq_none.1 h)
    unfold State.isolateNext
    exact (if_neg hz).trans (ih (List.find?_eq_none.2 hrest))

/-! ### A deferred pole (R96) -/

/-- The deferred pole, where it still stands at Warning. -/
def Insulation.second (m : Insulation) : Option Pole :=
  match m.loc.deferred with
  | none => none
  | some q => if (m.pole q).severity = .warning then some q else none

/-- A deferred pole leaves its place, and its sequence begins. -/
def State.turnOf (q : Pole) (s : State) : State := (s.modLoc fun l => { l with deferred := none }).beginSequence q

theorem turnOf_loc (q : Pole) (s : State) : (s.turnOf q).imon.loc =
    { s.imon.loc with pole := some q, tried := 0, current := none, candidates := [], deferred := none } := rfl

theorem turnOf_seeks (q : Pole) (s : State) : s.Seeks (s.turnOf q) := ⟨rfl, fun _ _ _ => rfl⟩

theorem takeDeferred_idle (h : s.imon.second = none) :
    s.takeDeferred = s.modLoc fun l => { l with deferred := none } := by
  unfold Insulation.second at h
  unfold State.takeDeferred
  cases hd : s.imon.loc.deferred with
  | none =>
    have hloc : ({ s.imon.loc with deferred := none } : Locating) = s.imon.loc := by rw [← hd]
    change s = { s with imon := { s.imon with loc := { s.imon.loc with deferred := none } } }
    rw [hloc]
  | some q =>
    rw [hd] at h
    have hpole : (s.modLoc fun l => { l with deferred := none }).imon.pole q = s.imon.pole q := by cases q <;> rfl
    dsimp only
    rw [hpole]
    exact if_neg fun hw => nomatch (if_pos hw).symm.trans h

theorem takeDeferred_turn {q : Pole} (h : s.imon.second = some q) : s.takeDeferred =
    ((s.turnOf q).isolateNext s.candidates).getD ((s.turnOf q).completeRecord .notExplained (.pole q)) := by
  unfold Insulation.second at h
  unfold State.takeDeferred
  cases hd : s.imon.loc.deferred with
  | none =>
    rw [hd] at h
    exact nomatch h
  | some d =>
    rw [hd] at h
    have hpole : (s.modLoc fun l => { l with deferred := none }).imon.pole d = s.imon.pole d := by cases d <;> rfl
    dsimp only at h ⊢
    rw [hpole]
    split at h
    next hw =>
      cases h
      rw [if_pos hw]
      change (match (s.turnOf q).isolateNext s.candidates with | some t => t | none => _) = _
      cases (s.turnOf q).isolateNext s.candidates <;> rfl
    next => exact nomatch h

/-! ### A sequence that completes (R96) -/

/-- The record of a sequence that has completed for origin `g`. -/
def Locating.ended (o : LocateOutcome) (g : Origin) (now : Nat) (l : Locating) : Locating :=
  { l with pole := none, current := none, candidates := [], deferred := none, outcome := o, origin := some g,
           endTime := now }

/-- The record once the deferred pole, if any, has had its turn over the zones of a list. -/
def Locating.completed (o : LocateOutcome) (g : Origin) (now : Nat) (second : Option Pole) (list : List (Fin 6))
    (l : Locating) : Locating :=
  match second, list with
  | none, _ => l.ended o g now
  | some q, y :: rest =>
    { l.ended o g now with pole := some q, current := some y, candidates := rest, tried := 0 }
  | some q, [] => { l.ended .notExplained (.pole q) now with tried := 0 }

/-- LOCATING_DONE once it has been raised for the record of an origin (R96). -/
def SourceRec.located (m : Insulation) (g : Origin) (r : SourceRec) : SourceRec :=
  { r with flag := true, detail := some (.faultSlot ((m.recordOf g).map Fin.val |>.getD 0)) }

/-- The state `t` after a sequence at `s` has completed and the deferred pole has had its turn. -/
structure State.Completes (o : LocateOutcome) (g : Origin) (s t : State) : Prop where
  tries  : s.Tries t
  loc    : t.imon.loc = s.imon.loc.completed o g s.tck.wall s.imon.second s.candidates
  source : ∀ x, t.imon.loc.origin = some x → t.atn.sources.get 2 = (s.atn.sources.get 2).located s.imon x
  others : ∀ k : Fin 11, k ≠ 2 → t.atn.sources.get k = s.atn.sources.get k

theorem completeRecord_loc (o : LocateOutcome) (g : Origin) (s : State) : (s.completeRecord o g).imon.loc =
    { s.imon.loc with pole := none, current := none, candidates := [], outcome := o, origin := some g,
                      endTime := s.tck.wall } := rfl

theorem completeRecord_source (o : LocateOutcome) (g : Origin) (s : State) :
    (s.completeRecord o g).atn.sources.get 2 = (s.atn.sources.get 2).located s.imon g :=
  raise_self .locatingDone _ _

theorem completeRecord_others (o : LocateOutcome) (g : Origin) (s : State) {k : Fin 11} (h : k ≠ 2) :
    (s.completeRecord o g).atn.sources.get k = s.atn.sources.get k :=
  raise_other .locatingDone _ _ h

theorem completeSequence_completes (o : LocateOutcome) (g : Origin) (s : State) :
    s.Completes o g (s.completeSequence o g) := by
  have hrecord := completeRecord_seeks o g s
  have hsecond : (s.completeRecord o g).imon.second = s.imon.second := rfl
  have hlist : (s.completeRecord o g).candidates = s.candidates := candidates_congr (by simp)
  unfold State.completeSequence
  cases hq : s.imon.second with
  | none =>
    rw [takeDeferred_idle (hsecond.trans hq)]
    refine ⟨tries_of_zones (hrecord.trans (modLoc_seeks _ _)) (by simp) rfl, by rw [hq]; rfl, fun x hx => ?_,
      fun k hk => completeRecord_others o g s hk⟩
    cases hx
    exact completeRecord_source o g s
  | some q =>
    rw [takeDeferred_turn (hsecond.trans hq), hlist]
    have hturn := hrecord.trans (turnOf_seeks q _)
    cases hcand : s.candidates with
    | nil =>
      change s.Completes o g (((s.completeRecord o g).turnOf q).completeRecord .notExplained (.pole q))
      have hvain := completeRecord_seeks .notExplained (.pole q) ((s.completeRecord o g).turnOf q)
      have htck : ((s.completeRecord o g).turnOf q).tck = s.tck := by simp [State.turnOf]
      have hloc : (((s.completeRecord o g).turnOf q).completeRecord .notExplained (.pole q)).imon.loc =
          s.imon.loc.completed o g s.tck.wall (some q) [] := by
        rw [completeRecord_loc, turnOf_loc, completeRecord_loc, htck]
        rfl
      have hhzc : (((s.completeRecord o g).turnOf q).completeRecord .notExplained (.pole q)).hzc = s.hzc := by
        simp [State.turnOf]
      refine ⟨tries_of_zones (hturn.trans hvain) hhzc (by rw [hloc]; rfl), by rw [hq, hcand, hloc], fun x hx => ?_,
        fun k hk => (completeRecord_others _ _ _ hk).trans (completeRecord_others o g s hk)⟩
      rw [hloc] at hx
      cases hx
      rw [completeRecord_source]
      change ((s.completeRecord o g).atn.sources.get 2).located s.imon (.pole q) = _
      rw [completeRecord_source]
      rfl
    | cons y rest =>
      have hconnected : (s.zone y).state.connected = true := mem_candidates.1 (hcand ▸ List.mem_cons_self)
      have hnext : ((s.completeRecord o g).turnOf q).isolateNext (y :: rest) =
          some (((s.completeRecord o g).turnOf q).isolating y rest) := if_pos hconnected
      obtain ⟨hseeks, hzone, hcurrent⟩ := isolating_tries (s := (s.completeRecord o g).turnOf q) hconnected rest
      rw [hnext, Option.getD_some]
      refine ⟨⟨hturn.trans hseeks, hzone, hcurrent⟩, ?_, fun x hx => ?_, fun k hk => ?_⟩
      · rw [isolating_loc, hq, hcand]
        rfl
      · rw [isolating_loc] at hx
        cases hx
        rw [isolating_atn]
        exact completeRecord_source o g s
      · rw [isolating_atn]
        exact completeRecord_others o g s hk

end

/-! ### A judgement (R94) -/

section

variable {s : State} {p : Pole} {z y : Fin 6} {r : Nat}

/-- R55, R95: zone `z` explains the condition of pole `p`. -/
def State.explained (p : Pole) (z : Fin 6) (s : State) : State := (s.insulationFault z).moveRecord p z

/-- R57: zone `z` does not, and the sequence goes on. -/
def State.passedOver (z : Fin 6) (s : State) : State :=
  (s.releaseZone z).modLoc fun l => { l with tried := l.tried + 1, current := none }

theorem judge_found (h : s.imon.warnK ≤ r) :
    s.judge p z r = (s.explained p z).completeSequence .found (.zone z) := if_pos h

theorem judge_below (h : r < s.imon.warnK) :
    s.judge p z r = (s.passedOver z).continueSequence p (s.passedOver z).imon.loc.candidates :=
  if_neg (Nat.not_le.2 h)

theorem judge_next (h : r < s.imon.warnK)
    (hnext : (s.imon.loc.candidates.find? fun i => ((s.passedOver z).zone i).state.connected) = some y) :
    ∃ rest, s.judge p z r = (s.passedOver z).isolating y rest := by
  have hcand : (s.passedOver z).imon.loc.candidates = s.imon.loc.candidates := by simp [State.passedOver, State.modLoc]
  obtain ⟨rest, hrest⟩ := isolateNext_some hnext
  exact ⟨rest, by rw [judge_below h, hcand, State.continueSequence, hrest]⟩

theorem judge_unexplained (h : r < s.imon.warnK)
    (hnext : (s.imon.loc.candidates.find? fun i => ((s.passedOver z).zone i).state.connected) = none) :
    s.judge p z r = (s.passedOver z).completeSequence .notExplained (.pole p) := by
  have hcand : (s.passedOver z).imon.loc.candidates = s.imon.loc.candidates := by simp [State.passedOver, State.modLoc]
  rw [judge_below h, hcand, State.continueSequence, isolateNext_none hnext]

theorem moveRecord_loc (p : Pole) (z : Fin 6) (s : State) : (s.moveRecord p z).imon.loc = s.imon.loc := by
  unfold State.moveRecord
  (repeat' split) <;> rfl

theorem explained_imon (p : Pole) (z : Fin 6) (s : State) :
    (s.explained p z).imon = { s.imon with faults := (s.explained p z).imon.faults } := by
  have himon := (moveRecord_handsOn p z (s.insulationFault z)).imon
  rw [moveRecord_loc, (insulationFault_frame z s).2.2.1] at himon
  exact himon

end

end Sys2Proof.Machine
end

section
/-! The fault table under a judgement (R85, R95), and which records a Compute's table step leaves. -/

namespace Sys2Proof.Machine

section

variable {s : State} {m w : Insulation} {o : Origin} {p : Pole} {z : Fin 6} {j k : Fin 8} {x y : FaultRec}

/-! ### The slot of an origin -/

theorem recordOf_eq_none (h : ∀ k x, m.faults.get k = some x → x.origin ≠ o) : m.recordOf o = none := by
  cases hfound : m.recordOf o with
  | none => rfl
  | some k =>
    obtain ⟨x, hx, ho⟩ := recordOf_some hfound
    exact absurd ho (h k x hx)

theorem recordOf_isSome (hx : m.faults.get k = some x) : (m.recordOf x.origin).isSome = true := by
  cases hfound : m.recordOf x.origin with
  | some l => rfl
  | none => exact absurd rfl (recordOf_none hfound k x hx)

/-! ### A record that is moved (R95) -/

theorem merge_eq (now : Nat) (w x : FaultRec) : w.merge now x =
    { origin := w.origin, state := x.state
      highest := if w.highest = .fault ∨ x.highest = .fault then .fault
        else if w.highest = .warning ∨ x.highest = .warning then .warning
        else if w.highest = .normal ∨ x.highest = .normal then .normal else .unknown
      lowestR := min w.lowestR x.lowestR, first := min w.first x.first, last := now
      count := min 65535 (w.count + x.count) } := by
  unfold FaultRec.merge
  cases w.highest <;> cases x.highest <;> rfl

theorem moveRecord_rekeyed (h : s.imon.oneRecordEach = true) (hx : s.imon.faults.get k = some x)
    (ho : x.origin = .pole p) (hz : s.imon.recordOf (.zone z) = none) :
    (s.moveRecord p z).imon.faults.get k = some { x with origin := .zone z, last := s.tck.wall } := by
  rw [moveRecord_rekeys (ho ▸ recordOf_of_get h hx) hz, modFault_imon, Table.get_modify_self, hx]
  rfl

theorem moveRecord_merged (h : s.imon.oneRecordEach = true) (hx : s.imon.faults.get k = some x)
    (ho : x.origin = .pole p) (hy : s.imon.faults.get j = some y) (hyz : y.origin = .zone z) :
    (s.moveRecord p z).imon.faults.get k = none ∧
    (s.moveRecord p z).imon.faults.get j = some (y.merge s.tck.wall x) := by
  have hjk : j ≠ k := by
    rintro rfl
    cases hx.symm.trans hy
    exact nomatch ho.symm.trans hyz
  rw [moveRecord_merges (ho ▸ recordOf_of_get h hx) hx (hyz ▸ recordOf_of_get h hy), modImon_imon]
  refine ⟨Table.get_set_self _ _ _, ?_⟩
  dsimp only
  rw [Table.get_set_ne _ _ hjk, modFault_imon, Table.get_modify_self, hy]
  rfl

/-- A record after the move is the zone's, or stands where it stood. -/
theorem moveRecord_origin {i : Fin 8} (hi : s.imon.recordOf (.pole p) = some i)
    (hy : (s.moveRecord p z).imon.faults.get k = some y) :
    y.origin = .zone z ∨ (k ≠ i ∧ s.imon.faults.get k = some y) := by
  cases hz : s.imon.recordOf (.zone z) with
  | none =>
    rw [moveRecord_rekeys hi hz, modFault_imon, Table.get_modify] at hy
    split at hy
    next =>
      obtain ⟨u, -, rfl⟩ := Option.map_eq_some_iff.1 hy
      exact .inl rfl
    next hk => exact .inr ⟨hk, hy⟩
  | some j =>
    obtain ⟨x, hx, -⟩ := recordOf_some hi
    obtain ⟨v, hv, hvz⟩ := recordOf_some hz
    rw [moveRecord_merges hi hx hz, modImon_imon, Table.get_set] at hy
    split at hy
    next => exact nomatch hy
    next hk =>
      rw [modFault_imon, Table.get_modify] at hy
      split at hy
      next hkj =>
        rw [hkj, hv] at hy
        cases hy
        exact .inl hvz
      next => exact .inr ⟨hk, hy⟩

/-- Once its record has been moved, the pole has none. -/
theorem moveRecord_forgets (h : s.imon.oneRecordEach = true) (p : Pole) (z : Fin 6) :
    (s.moveRecord p z).imon.recordOf (.pole p) = none := by
  cases hi : s.imon.recordOf (.pole p) with
  | none => rwa [moveRecord_missing hi]
  | some i =>
    refine recordOf_eq_none fun k y hy ho => ?_
    rcases moveRecord_origin hi hy with hyz | ⟨hki, hold⟩
    · exact nomatch ho.symm.trans hyz
    · have hk := recordOf_of_get h hold
      rw [ho, hi] at hk
      exact hki (Option.some.inj hk).symm

/-- The zone has the record that the pole had. -/
theorem moveRecord_holds (h : s.imon.oneRecordEach = true) (hx : s.imon.faults.get k = some x)
    (ho : x.origin = .pole p) : ((s.moveRecord p z).imon.recordOf (.zone z)).isSome = true := by
  cases hz : s.imon.recordOf (.zone z) with
  | none => exact recordOf_isSome (moveRecord_rekeyed h hx ho hz)
  | some j =>
    obtain ⟨y, hy, hyz⟩ := recordOf_some hz
    have hmerged := recordOf_isSome (moveRecord_merged h hx ho hy hyz).2
    rwa [show (y.merge s.tck.wall x).origin = .zone z from hyz] at hmerged

/-! ### The origins of a Compute's records (R87) -/

theorem Insulation.Takes.origin {b a : Severity} {r now : Nat} (h : m.Takes w p b a r now)
    (hy : w.faults.get k = some y) :
    (∃ x, m.faults.get k = some x ∧ x.origin = y.origin) ∨ (y.origin = .pole p ∧ b.Rises a) := by
  cases hx : m.faults.get k with
  | some x =>
    have hold := h.old k x hx
    cases hy.symm.trans hold
    refine .inl ⟨x, rfl, ?_⟩
    split
    · exact (after_origin b a r now x).symm
    · rfl
  | none =>
    rcases h.free k hx with hnone | ⟨hfresh, hborn, -⟩
    · exact nomatch hy.symm.trans hnone
    · cases hy.symm.trans hborn
      exact .inr ⟨rfl, hfresh.1⟩

/-- A record after the table's step was there before, or is that of a pole that has risen. -/
theorem alert_origin (h : s.imon.oneRecordEach = true) (hy : s.alert.imon.faults.get k = some y) :
    (∃ x, s.imon.faults.get k = some x ∧ x.origin = y.origin) ∨
    ∃ q, y.origin = .pole q ∧ (s.imon.severity q).Rises (s.graded q) := by
  have hfollows := computed_follows s.imon s.tck.wall
  have hpos := tableStep_takes (s := s.evaluated) (by rw [evaluated_imon]; exact h) (hfollows .pos) .pos
    ((s.imon.computed s.tck.wall).ohms .pos)
  have hneg := tableStep_takes hpos.one (hfollows .neg) .neg ((s.imon.computed s.tck.wall).ohms .neg)
  rw [State.alert, (alerted_frame _ _ _).1] at hy
  rcases hneg.origin hy with ⟨x, hx, hxy⟩ | hrisen
  · rcases hpos.origin hx with ⟨u, hu, hux⟩ | hrisen
    · rw [evaluated_imon] at hu
      exact .inl ⟨u, hu, hux.trans hxy⟩
    · exact .inr ⟨.pos, hxy.symm.trans hrisen.1, hrisen.2⟩
  · exact .inr ⟨.neg, hrisen⟩

/-- Only a pole that has risen gets a slot. -/
theorem alert_recordOf (h : s.imon.oneRecordEach = true)
    (hidle : ∀ q, o = .pole q → ¬ (s.imon.severity q).Rises (s.graded q)) :
    s.alert.imon.recordOf o = s.imon.recordOf o := by
  have hboth := alert_takesBoth h
  cases hfound : s.imon.recordOf o with
  | some k =>
    obtain ⟨x, hx, ho⟩ := recordOf_some hfound
    have hkept := recordOf_of_get hboth.one (hboth.old k x hx)
    rwa [afterBoth_origin, ho] at hkept
  | none =>
    refine recordOf_eq_none fun k y hy ho => ?_
    rcases alert_origin h hy with ⟨x, hx, hxy⟩ | ⟨q, hq, hrisen⟩
    · exact recordOf_none hfound k x hx (hxy.trans ho)
    · exact hidle q (ho.symm.trans hq) hrisen

end

end Sys2Proof.Machine
end

section
/-! A Compute that judges the isolated zone (R92 to R96): the state that is judged, and what the rest of the event
leaves of the judgement. -/

namespace Sys2Proof.Machine

section

variable {s : State} {p : Pole} {z i : Fin 6} {k : Fin 11}

/-! ### The state that is judged -/

/-- R96: the pole that waits once both poles have made their requests to the active sequence of pole `p`. -/
def State.waiting (p : Pole) (s : State) : Option Pole :=
  if Newly s.imon.severity s.graded .warning p.other then some p.other else s.imon.loc.deferred

theorem requestLocating_active (h : s.imon.loc.pole = some p) : s.requestLocating p = s := by
  unfold State.requestLocating
  rw [h]
  exact if_pos rfl

/-- While the sequence of pole `p` is active, the requests of a Compute defer the other pole or do nothing. -/
theorem sought_active {b a : Pole → Severity} (h : s.imon.loc.pole = some p) : s.sought b a =
    s.modLoc fun l => { l with deferred := if Newly b a .warning p.other then some p.other else l.deferred } := by
  have hdefers : ∀ q, p ≠ q → (if Newly b a .warning q then s.requestLocating q else s) =
      s.modLoc fun l => { l with deferred := if Newly b a .warning q then some q else l.deferred } := by
    intro q hq
    split
    · exact requestLocating_defers h hq
    · rfl
  rw [State.sought, locateSeverity_newly, locateSeverity_newly]
  cases p with
  | pos =>
    rw [requestLocating_active h, ite_self]
    exact hdefers .neg (by decide)
  | neg =>
    rw [hdefers .pos (by decide)]
    split
    · exact requestLocating_active h
    · rfl

/-- Step 5 of a Compute starts from here. -/
def State.seeking (p : Pole) (s : State) : State := s.alert.modLoc fun l => { l with deferred := s.waiting p }

theorem sought_seeking (h : s.imon.loc.pole = some p) :
    s.alert.sought s.imon.severity s.graded = s.seeking p := by
  rw [sought_active (p := p) (by rw [alert_loc, h]), State.seeking, State.waiting, ← alert_loc]
  rfl

theorem handed_judged (hfault : s.faulting = false) (hpole : s.imon.loc.pole = some p)
    (hcurrent : s.imon.loc.current = some z) :
    s.handed = (s.seeking p).judge p z ((s.imon.computed s.tck.wall).ohms p) := by
  have himon : (s.seeking p).imon.rPos = (s.imon.computed s.tck.wall).rPos ∧
      (s.seeking p).imon.rNeg = (s.imon.computed s.tck.wall).rNeg := by
    rw [State.seeking, State.modLoc, modImon_imon, alert_imon]
    exact ⟨rfl, rfl⟩
  rw [State.handed, sought_seeking hpole, hfault, running_iff.2 ⟨hpole, hcurrent⟩]
  cases p
  · exact congrArg ((s.seeking .pos).judge .pos z) himon.1
  · exact congrArg ((s.seeking .neg).judge .neg z) himon.2

theorem seeking_imon (p : Pole) (s : State) : (s.seeking p).imon = { s.imon.computed s.tck.wall with
    faults := s.alert.imon.faults, loc := { s.imon.loc with deferred := s.waiting p } } := by
  rw [State.seeking, State.modLoc, modImon_imon, alert_imon]
  rfl

theorem seeking_warnK (p : Pole) (s : State) : (s.seeking p).imon.warnK = (s.imon.computed s.tck.wall).warnK := by
  rw [seeking_imon]

theorem seeking_oneRecordEach (h : s.imon.oneRecordEach = true) (p : Pole) :
    (s.seeking p).imon.oneRecordEach = true := (alert_takesBoth h).one

theorem seeking_tck (p : Pole) (s : State) : (s.seeking p).tck = s.tck := alert_tck s

theorem seeking_runs (p : Pole) (s : State) : (s.seeking p).blocksRun = s.blocksRun := by
  have hpwc : s.handed.pwc = s.alert.pwc := by simp [State.handed, State.sought]
  exact (runs_congr (hpwc.symm.trans (handed_frame s).2.2.1)).1

theorem seeking_located (p : Pole) (s : State) : (s.seeking p).atn.sources.get 2 = s.atn.sources.get 2 :=
  alert_located s

theorem seeking_zone (p : Pole) (s : State) (i : Fin 6) : (s.seeking p).zone i = s.endCycle.windowEnd.zone i :=
  congrArg (fun h : Heater => h.zones.get i) (alert_hzc s)

theorem seeking_connected (p : Pole) (s : State) (i : Fin 6) :
    ((s.seeking p).zone i).state.connected = (s.zone i).joins := by
  rw [seeking_zone]
  exact windowEnd_connected s.endCycle i

/-- The isolated zone stands as it is until it is judged. -/
theorem seeking_isolated (h : (s.zone z).state = .isolated) (p : Pole) : (s.seeking p).zone z = s.zone z := by
  have hstill : (s.zone z).Still := .inl h
  rw [seeking_zone]
  exact windowEnd_zone (s := s.endCycle) (P := fun y => y = s.zone z)
    (by rintro g y rfl; exact drive_of_rest (connected_of_still hstill) g)
    (by rintro live y rfl; exact inLine_of_still hstill live) rfl

/-- The pole that takes its turn next: the one that waits, where it stands at Warning. -/
def State.secondPole (p : Pole) (s : State) : Option Pole :=
  match s.waiting p with
  | none => none
  | some q => if s.graded q = .warning then some q else none

theorem second_eq {m : Insulation} (hdeferred : m.loc.deferred = s.waiting p)
    (hpole : ∀ q, (m.pole q).severity = s.graded q) : m.second = s.secondPole p := by
  unfold Insulation.second State.secondPole
  rw [hdeferred]
  cases s.waiting p with
  | none => rfl
  | some q => exact if_congr (by rw [hpole]) rfl rfl

theorem seeking_second (p : Pole) (s : State) : (s.seeking p).imon.second = s.secondPole p := by
  refine second_eq (by rw [seeking_imon]) fun q => ?_
  rw [seeking_imon]
  cases q <;> rfl

/-! ### After the judgement (R71) -/

theorem completeShift_records (hfault : s.faulting = false) :
    s.completeShift.imon.faults = s.handed.imon.faults ∧ s.completeShift.imon.loc = s.handed.imon.loc := by
  rw [completeShift_settled hfault, (settle_records _).1, (settle_records _).2, nextCycle_rest]
  exact ⟨rfl, rfl⟩

theorem completeShift_raised (hfault : s.faulting = false) (h5 : k ≠ 5) (h7 : k ≠ 7) :
    s.completeShift.atn.sources.get k = s.handed.atn.sources.get k := by
  rw [completeShift_settled hfault, settle_other_source _ h5 h7, (nextCycle_frame _).2.2.2.2.2.2.2.1]

theorem completeShift_isolating (hfault : s.faulting = false) (h : s.handed.imon.loc.current ≠ none) :
    s.completeShift.imon.cycle = .baseSettle := by
  rw [completeShift_settled hfault, settle_imon_of_closed (nextCycle_closed (handed_idle s).1),
    nextCycle_imon (handed_idle s).1, if_pos (.inr (.inr (.inl h)))]
  rfl

/-- The passes after the judgement run outside a Sample phase: they only drive a zone. -/
theorem completeShift_zone (hfault : s.faulting = false) {P : Zone → Prop} (hdrive : ∀ g y, P y → P (y.drive g))
    (h : P (s.handed.zone i)) : P (s.completeShift.zone i) := by
  have hnext : P (s.handed.nextCycle.zone i) := by
    rw [State.zone, (nextCycle_frame _).2.2.1]
    exact h
  rw [completeShift_settled hfault]
  refine passes_closed (P := fun t => P (t.zone i)) (fun t _ ht => ?_) (fun _ _ ht => ht) Config.passFuel
    (nextCycle_closed (handed_idle s).1) hnext
  rw [pass_zone]
  split
  · exact ht
  · exact hdrive _ _ ht

theorem completeShift_resting (hfault : s.faulting = false) (h : (s.handed.zone i).state.connected = false) :
    s.completeShift.zone i = s.handed.zone i :=
  completeShift_zone (P := fun y => y = s.handed.zone i) hfault (by rintro g y rfl; exact drive_of_rest h g) rfl

end

end Sys2Proof.Machine
end

section
/-! The judgement of the isolated zone (R55, R57, R94 to R96), step by step to the end of the event. -/

namespace Sys2Proof.Machine

section

variable {s : State} {p : Pole} {z i : Fin 6}

/-! ### A zone that explains, and one that does not -/

theorem explained_zone (p : Pole) (z i : Fin 6) (s : State) : (s.explained p z).zone i =
    if i = z then (s.zone i).toFaulted .insulation else s.zone i := by
  have hhzc : (s.explained p z).hzc = (s.modZone z (Zone.toFaulted .insulation)).hzc := by
    rw [State.explained, (moveRecord_frame _ _ _).2.2.1]
    rfl
  rw [State.zone, hhzc]
  exact zone_modZone z i _ s

theorem explained_tck (p : Pole) (z : Fin 6) (s : State) : (s.explained p z).tck = s.tck := by
  simp [State.explained]

theorem explained_loc (p : Pole) (z : Fin 6) (s : State) : (s.explained p z).imon.loc = s.imon.loc := by
  rw [explained_imon]

theorem explained_oneRecordEach (h : s.imon.oneRecordEach = true) (p : Pole) (z : Fin 6) :
    (s.explained p z).imon.oneRecordEach = true :=
  moveRecord_oneRecordEach ((insulationFault_seeks z s).oneRecordEach h) p z

/-- R55: ZONE is raised for the zone. -/
theorem explained_raised (p : Pole) (z : Fin 6) (s : State) :
    ((s.explained p z).atn.sources.get 8).detail = some (.zone (some z) .insulation) := by
  rw [State.explained, (moveRecord_frame _ _ _).2.2.2.2.2.2.2.1]
  exact congrArg SourceRec.detail (raise_self .zone _ (s.modZone z (Zone.toFaulted .insulation)))

theorem passedOver_zone (h : (s.zone z).state = .isolated) (i : Fin 6) : (s.passedOver z).zone i =
    if i = z then (s.zone i).released s.blocksRun else s.zone i := by
  have hhzc : (s.passedOver z).zone i = (s.releaseZone z).zone i := rfl
  rw [hhzc]
  split
  next hi => rw [hi, releaseZone_self h]
  next hi => exact releaseZone_other hi s

theorem passedOver_imon (z : Fin 6) (s : State) : (s.passedOver z).imon =
    { s.imon with loc := { s.imon.loc with tried := s.imon.loc.tried + 1, current := none } } := by
  rw [State.passedOver, State.modLoc, modImon_imon, (releaseZone_frame _ _).2.2.1]

theorem passedOver_tck (z : Fin 6) (s : State) : (s.passedOver z).tck = s.tck := by
  simp [State.passedOver]

theorem joins_of_isolated {y : Zone} (h : y.state = .isolated) : y.joins = false := by
  simp [Zone.joins, h]

/-- R57, R58: a released zone is connected again, unless it has been disabled. -/
theorem released_connected {y : Zone} (h : y.remembers = true) (live : Bool) :
    (y.released live).state.connected = !y.disableAfter := by
  cases hdisable : y.disableAfter with
  | true =>
    rw [released_off hdisable]
    rfl
  | false =>
    rw [released_connect hdisable]
    unfold Zone.remembers at h
    cases hresume : y.resume with
    | none => rfl
    | some st =>
      rw [hresume] at h
      exact h

theorem released_enabled (live : Bool) (y : Zone) : (y.released live).enabled = y.enabled := by
  unfold Zone.released
  split <;> rfl

/-! ### The judgement at a Compute -/

/-- A Compute without a new Fault is about to judge zone `z`, isolated for the sequence of pole `p`. -/
structure State.Judges (p : Pole) (z : Fin 6) (s : State) : Prop where
  quiet     : s.faulting = false
  pole      : s.imon.loc.pole = some p
  current   : s.imon.loc.current = some z
  untried   : z ∉ s.imon.loc.candidates
  isolated  : (s.zone z).state = .isolated
  remembers : (s.zone z).remembers = true
  one       : s.imon.oneRecordEach = true

/-- R94: the pole's resistance is back at the warning threshold without the zone. -/
@[reducible] def State.Explains (p : Pole) (s : State) : Prop :=
  (s.imon.computed s.tck.wall).warnK ≤ (s.imon.computed s.tck.wall).ohms p

/-- R93, R96: the zones that the deferred pole's sequence finds connected, the released zone among them. -/
def State.tryList (p : Pole) (z : Fin 6) (s : State) : List (Fin 6) :=
  (fins 6).filter fun y => (s.zone y).joins || (decide (y = z) &&
    decide ((s.imon.computed s.tck.wall).ohms p < (s.imon.computed s.tck.wall).warnK) &&
    !(s.zone z).disableAfter)

theorem explained_connected (h : s.Judges p z) (i : Fin 6) :
    (((s.seeking p).explained p z).zone i).state.connected = (s.zone i).joins := by
  rw [explained_zone]
  split
  next hi =>
    subst hi
    exact (joins_of_isolated h.isolated).symm
  next => exact seeking_connected p s i

theorem passedOver_self (h : s.Judges p z) :
    ((s.seeking p).passedOver z).zone z = (s.zone z).released s.blocksRun := by
  have hsame := seeking_isolated h.isolated p
  rw [passedOver_zone (by rw [hsame, h.isolated]), if_pos rfl, hsame, seeking_runs]

theorem passedOver_other (h : s.Judges p z) (hi : i ≠ z) :
    ((s.seeking p).passedOver z).zone i = s.endCycle.windowEnd.zone i := by
  rw [passedOver_zone (by rw [seeking_isolated h.isolated, h.isolated]), if_neg hi, seeking_zone]

theorem passedOver_connected (h : s.Judges p z) (i : Fin 6) :
    (((s.seeking p).passedOver z).zone i).state.connected =
      ((s.zone i).joins || (decide (i = z) && !(s.zone z).disableAfter)) := by
  by_cases hi : i = z
  · subst hi
    rw [passedOver_self h, released_connected h.remembers, joins_of_isolated h.isolated]
    simp
  · have hsame := passedOver_other h hi
    rw [← seeking_zone p] at hsame
    rw [hsame, seeking_connected]
    simp [hi]

theorem passedOver_next (h : s.Judges p z) :
    ((s.seeking p).imon.loc.candidates.find? fun i =>
      (((s.seeking p).passedOver z).zone i).state.connected) =
    s.imon.loc.candidates.find? fun i => (s.zone i).joins := by
  rw [seeking_imon]
  refine List.find?_congr fun i hi => ?_
  have hiz : i ≠ z := ne_of_mem_of_not_mem hi h.untried
  rw [passedOver_connected h]
  simp [hiz]

theorem handed_found (h : s.Judges p z) (hr : s.Explains p) :
    ((s.seeking p).explained p z).Completes .found (.zone z) s.handed := by
  rw [handed_judged h.quiet h.pole h.current, judge_found (by rw [seeking_warnK]; exact hr)]
  exact completeSequence_completes _ _ _

theorem handed_next {y : Fin 6} (h : s.Judges p z) (hr : ¬ s.Explains p)
    (hnext : (s.imon.loc.candidates.find? fun i => (s.zone i).joins) = some y) :
    ∃ rest, s.handed = ((s.seeking p).passedOver z).isolating y rest := by
  rw [handed_judged h.quiet h.pole h.current]
  exact judge_next (by rw [seeking_warnK]; exact Nat.not_le.1 hr) ((passedOver_next h).trans hnext)

theorem handed_unexplained (h : s.Judges p z) (hr : ¬ s.Explains p)
    (hnext : (s.imon.loc.candidates.find? fun i => (s.zone i).joins) = none) :
    ((s.seeking p).passedOver z).Completes .notExplained (.pole p) s.handed := by
  rw [handed_judged h.quiet h.pole h.current,
    judge_unexplained (by rw [seeking_warnK]; exact Nat.not_le.1 hr) ((passedOver_next h).trans hnext)]
  exact completeSequence_completes _ _ _

/-- Below the threshold, whether a next zone is isolated or the sequence completes. -/
theorem handed_tries (h : s.Judges p z) (hr : ¬ s.Explains p) :
    ((s.seeking p).passedOver z).Tries s.handed := by
  cases hnext : s.imon.loc.candidates.find? fun i => (s.zone i).joins with
  | none => exact (handed_unexplained h hr hnext).tries
  | some y =>
    obtain ⟨rest, hrest⟩ := handed_next h hr hnext
    rw [hrest]
    refine isolating_tries ?_ rest
    have hjoins : (s.zone y).joins = true := List.find?_some (p := fun i => (s.zone i).joins) hnext
    rw [passedOver_connected h, hjoins]
    rfl

/-! ### A sequence that ends (R96) -/

/-- The state `v` in which the sequence of the judged zone completes. -/
structure State.Concludes (p : Pole) (z : Fin 6) (s v : State) : Prop where
  completes : v.Completes (if s.Explains p then .found else .notExplained)
    (if s.Explains p then .zone z else .pole p) s.handed
  one       : v.imon.oneRecordEach = true
  second    : v.imon.second = s.secondPole p
  list      : v.candidates = s.tryList p z
  tried     : v.imon.loc.tried = s.imon.loc.tried + if s.Explains p then 0 else 1
  tck       : v.tck = s.tck

theorem handed_concludes (h : s.Judges p z)
    (hended : s.Explains p ∨ (s.imon.loc.candidates.find? fun i => (s.zone i).joins) = none) :
    ∃ v, State.Concludes p z s v := by
  by_cases hr : s.Explains p
  · refine ⟨(s.seeking p).explained p z, ?_, explained_oneRecordEach (seeking_oneRecordEach h.one p) p z, ?_, ?_, ?_,
      (explained_tck _ _ _).trans (seeking_tck p s)⟩
    · rw [if_pos hr, if_pos hr]
      exact handed_found h hr
    · rw [explained_imon]
      exact seeking_second p s
    · refine List.filter_congr fun i _ => ?_
      have hnot : ¬ (s.imon.computed s.tck.wall).ohms p < (s.imon.computed s.tck.wall).warnK := Nat.not_lt.2 hr
      rw [explained_connected h]
      simp [hnot]
    · rw [explained_loc, seeking_imon, if_pos hr]
      rfl
  · refine ⟨(s.seeking p).passedOver z, ?_, ?_, ?_, ?_, ?_, (passedOver_tck _ _).trans (seeking_tck p s)⟩
    · rw [if_neg hr, if_neg hr]
      exact handed_unexplained h hr (hended.resolve_left hr)
    · rw [passedOver_imon]
      exact seeking_oneRecordEach h.one p
    · rw [passedOver_imon]
      exact seeking_second p s
    · refine List.filter_congr fun i _ => ?_
      have hlt : (s.imon.computed s.tck.wall).ohms p < (s.imon.computed s.tck.wall).warnK := Nat.not_le.1 hr
      rw [passedOver_connected h]
      simp [hlt]
    · rw [passedOver_imon, seeking_imon, if_neg hr]

theorem completed_ended (o : LocateOutcome) (g : Origin) (now : Nat) (second : Option Pole) (list : List (Fin 6))
    (l : Locating) : (l.completed o g now second list).deferred = none ∧
    (l.completed o g now second list).endTime = now ∧ (l.completed o g now second list).origin ≠ none := by
  unfold Locating.completed
  split <;> exact ⟨rfl, rfl, nofun⟩

end

end Sys2Proof.Machine
end

section
/-! O41: the judgement of the isolated zone in the words of its statement. -/

namespace Sys2Proof.Machine

section

variable {s v : State} {p q : Pole} {y z : Fin 6} {j k : Fin 8} {x w : FaultRec}

/-! ### The zones -/

/-- R55: the zone that explains the condition rests Faulted. -/
theorem judged_found_zone (h : s.Judges p z) (hr : s.Explains p) :
    s.completeShift.zone z = (s.zone z).toFaulted .insulation := by
  obtain ⟨-, hzone, hcurrent⟩ := (handed_found h hr).tries
  have hself : ((s.seeking p).explained p z).zone z = (s.zone z).toFaulted .insulation := by
    rw [explained_zone, if_pos rfl, seeking_isolated h.isolated]
  have hother : s.handed.imon.loc.current ≠ some z := fun hz =>
    nomatch (congrArg (fun y : Zone => y.state.connected) hself).symm.trans (hcurrent z hz)
  have hhanded : s.handed.zone z = (s.zone z).toFaulted .insulation := by
    rw [hzone z (by rw [hself]; nofun), if_neg hother, hself]
  rw [completeShift_resting h.quiet (by rw [hhanded]; rfl), hhanded]

/-- R57: the zone that does not explain it is released, and may be isolated anew for the deferred pole. -/
theorem handed_released (h : s.Judges p z) (hr : ¬ s.Explains p) : s.handed.zone z =
    if s.handed.imon.loc.current = some z then ((s.zone z).released s.blocksRun).toIsolated
    else (s.zone z).released s.blocksRun := by
  have hself := passedOver_self h
  have hfree : (((s.seeking p).passedOver z).zone z).state ≠ .isolated := by
    rw [hself]
    unfold Zone.released
    have hremembers := h.remembers
    unfold Zone.remembers at hremembers
    split
    · nofun
    · cases hresume : (s.zone z).resume with
      | none => nofun
      | some st =>
        rw [hresume] at hremembers
        exact not_isolated_of_connected hremembers
  rw [(handed_tries h hr).zone z hfree, hself]

theorem judged_released_enabled (h : s.Judges p z) (hr : ¬ s.Explains p) :
    (s.completeShift.zone z).enabled = (s.zone z).enabled := by
  refine completeShift_zone (P := fun y => y.enabled = (s.zone z).enabled) h.quiet
    (fun g y hy => (drive_enabled g y).trans hy) ?_
  rw [handed_released h hr]
  split
  · exact released_enabled _ (s.zone z)
  · exact released_enabled _ (s.zone z)

/-- R58: a zone disabled while it was Isolated comes to rest. -/
theorem judged_released_off (h : s.Judges p z) (hr : ¬ s.Explains p) (hdisable : (s.zone z).disableAfter = true) :
    (s.completeShift.zone z).state = .off ∧ (s.completeShift.zone z).resume = none := by
  have hother : s.handed.imon.loc.current ≠ some z := fun hz => by
    have hconnected := (handed_tries h hr).current z hz
    rw [passedOver_connected h, joins_of_isolated h.isolated, hdisable] at hconnected
    simp at hconnected
  have hhanded : s.handed.zone z = (s.zone z).toOff := by
    rw [handed_released h hr, if_neg hother, released_off hdisable]
  rw [completeShift_resting h.quiet (by rw [hhanded]; rfl), hhanded]
  exact ⟨rfl, rfl⟩

theorem judged_released_contactor (h : s.Judges p z) (hr : ¬ s.Explains p)
    (hdisable : (s.zone z).disableAfter = false) (hother : s.handed.imon.loc.current ≠ some z) :
    (s.completeShift.zone z).contactor = s.blocksRun ∧ (s.completeShift.zone z).resume = none := by
  refine completeShift_zone (P := fun y => y.contactor = s.blocksRun ∧ y.resume = none) h.quiet
    (fun g y hy => ?_) ?_
  · obtain ⟨hresume, -, hcontactor⟩ := drive_record g y
    exact ⟨hcontactor.trans hy.1, hresume.trans hy.2⟩
  · rw [handed_released h hr, if_neg hother, released_connect hdisable]
    exact ⟨rfl, rfl⟩

/-- R56: a zone that a step of locating has made the current one is Isolated at the end of the event. -/
theorem judged_isolated (hfault : s.faulting = false) (h : v.Tries s.handed)
    (hy : s.handed.imon.loc.current = some y) :
    s.completeShift.zone y = (v.zone y).toIsolated ∧ s.completeShift.imon.cycle = .baseSettle := by
  have hhanded : s.handed.zone y = (v.zone y).toIsolated := by
    rw [h.zone y (not_isolated_of_connected (h.current y hy)), if_pos hy]
  refine ⟨?_, completeShift_isolating hfault (by rw [hy]; nofun)⟩
  rw [completeShift_resting hfault (by rw [hhanded]; rfl), hhanded]

/-- R93: the next candidate, with the state that it leaves. -/
theorem judged_next (h : s.Judges p z) (hr : ¬ s.Explains p)
    (hnext : (s.imon.loc.candidates.find? fun i => (s.zone i).joins) = some y) :
    s.completeShift.zone y = (s.endCycle.windowEnd.zone y).toIsolated ∧
    s.completeShift.imon.cycle = .baseSettle ∧
    (∃ rest, s.completeShift.imon.loc = { s.imon.loc with
      deferred := s.waiting p, tried := s.imon.loc.tried + 1, current := some y, candidates := rest }) ∧
    s.completeShift.atn.sources.get 2 = s.atn.sources.get 2 := by
  obtain ⟨rest, hrest⟩ := handed_next h hr hnext
  have hloc : s.handed.imon.loc = { s.imon.loc with
      deferred := s.waiting p, tried := s.imon.loc.tried + 1, current := some y, candidates := rest } := by
    rw [hrest, isolating_loc, passedOver_imon, seeking_imon]
  have hyz : y ≠ z := ne_of_mem_of_not_mem (List.mem_of_find?_eq_some hnext) h.untried
  obtain ⟨hzone, hcycle⟩ := judged_isolated h.quiet (handed_tries h hr) (y := y) (by rw [hloc])
  rw [(completeShift_records h.quiet).2, completeShift_raised h.quiet (by decide) (by decide)]
  refine ⟨by rw [hzone, passedOver_other h hyz], hcycle, ⟨rest, hloc⟩, ?_⟩
  have hatn : ((s.seeking p).passedOver z).atn = (s.seeking p).atn := by simp [State.passedOver]
  rw [hrest, isolating_atn, hatn, seeking_located]

/-! ### The records -/

/-- Without a new Fault, what a Compute tells a pole's record (R87, R89, R90). -/
theorem told_eq (hquiet : s.faulting = false) (p : Pole) (x : FaultRec) (r : Nat) :
    x.after (s.imon.severity p) (s.graded p) r s.tck.wall =
      if (s.graded p = .warning ∨ s.graded p = .fault) ∧
          ¬ (s.imon.severity p = .warning ∨ s.imon.severity p = .fault) then
        { x with state := .active, count := min 65535 (x.count + 1), last := s.tck.wall
                 highest := if x.highest = .fault then .fault else .warning, lowestR := min x.lowestR r }
      else if s.graded p = .warning ∨ s.graded p = .fault then
        { x with last := s.tck.wall, lowestR := min x.lowestR r }
      else if s.imon.severity p = .warning ∨ s.imon.severity p = .fault then
        { x with state := if x.state = .active then .cleared
                   else if x.state = .acknowledged then .resolved else x.state }
      else x := by
  have hfault : ¬ (s.graded p = .fault ∧ s.imon.severity p ≠ .fault) := fun hnew =>
    Bool.false_ne_true (hquiet.symm.trans ((faulting_iff s).2 (by cases p; exacts [.inl hnew, .inr hnew])))
  have hfollows : (s.imon.severity p).Follows (s.graded p) := computed_follows s.imon s.tck.wall p
  rw [after_eq hfollows]
  by_cases ha : s.graded p = .fault
  · have hb : s.imon.severity p = .fault := not_not.1 fun hb => hfault ⟨ha, hb⟩
    simp [ha, hb]
  · simp [ha]

theorem alert_told (hone : s.imon.oneRecordEach = true) (hx : s.imon.faults.get k = some x)
    (ho : x.origin = .pole p) : s.alert.imon.faults.get k =
      some (x.after (s.imon.severity p) (s.graded p) ((s.imon.computed s.tck.wall).ohms p) s.tck.wall) := by
  have hold := (alert_takesBoth hone).old k x hx
  unfold FaultRec.afterBoth at hold
  rw [ho] at hold
  exact hold

theorem alert_zoneRecord (hone : s.imon.oneRecordEach = true) (hx : s.imon.faults.get k = some x)
    (ho : x.origin = .zone z) : s.alert.imon.faults.get k = some x := by
  have hold := (alert_takesBoth hone).old k x hx
  unfold FaultRec.afterBoth at hold
  rw [ho] at hold
  exact hold

/-- R94: below the threshold no record moves. -/
theorem judged_below_faults (h : s.Judges p z) (hr : ¬ s.Explains p) :
    s.completeShift.imon.faults = s.alert.imon.faults := by
  rw [(completeShift_records h.quiet).1, (handed_tries h hr).seeks.faults, passedOver_imon, seeking_imon]

/-- R95: the table after the judgement of a zone that explains. -/
theorem judged_found_faults (h : s.Judges p z) (hr : s.Explains p) : s.completeShift.imon.faults =
    (((s.seeking p).insulationFault z).moveRecord p z).imon.faults := by
  rw [(completeShift_records h.quiet).1, (handed_found h hr).tries.seeks.faults]
  rfl

theorem insulationFault_faults (z : Fin 6) (p : Pole) (s : State) :
    ((s.seeking p).insulationFault z).imon.faults = s.alert.imon.faults := by
  rw [(insulationFault_frame _ _).2.2.1, seeking_imon]

theorem insulationFault_tck (z : Fin 6) (p : Pole) (s : State) :
    ((s.seeking p).insulationFault z).tck = s.tck :=
  (insulationFault_frame _ _).2.2.2.2.2.1.trans (seeking_tck p s)

theorem insulationFault_oneRecordEach (h : s.Judges p z) :
    ((s.seeking p).insulationFault z).imon.oneRecordEach = true :=
  (insulationFault_seeks z _).oneRecordEach (seeking_oneRecordEach h.one p)

theorem judged_forgets (h : s.Judges p z) (hr : s.Explains p) :
    s.completeShift.imon.recordOf (.pole p) = none := by
  have hmoved := moveRecord_forgets (insulationFault_oneRecordEach h) p z
  rwa [Insulation.recordOf, ← judged_found_faults h hr] at hmoved

theorem judged_holds (h : s.Judges p z) (hr : s.Explains p) (hx : s.imon.faults.get k = some x)
    (ho : x.origin = .pole p) : (s.completeShift.imon.recordOf (.zone z)).isSome = true := by
  have htold := alert_told h.one hx ho
  rw [← insulationFault_faults z p] at htold
  have hmoved := moveRecord_holds (z := z) (insulationFault_oneRecordEach h) htold ((after_origin ..).trans ho)
  rwa [Insulation.recordOf, ← judged_found_faults h hr] at hmoved

theorem judged_rekeyed (h : s.Judges p z) (hr : s.Explains p) (hx : s.imon.faults.get k = some x)
    (ho : x.origin = .pole p) (hz : s.imon.recordOf (.zone z) = none) : s.completeShift.imon.faults.get k =
      some { x.after (s.imon.severity p) (s.graded p) ((s.imon.computed s.tck.wall).ohms p) s.tck.wall with
        origin := .zone z, last := s.tck.wall } := by
  have htold := alert_told h.one hx ho
  have hmissing := (alert_recordOf h.one (o := .zone z) nofun).trans hz
  rw [Insulation.recordOf, ← insulationFault_faults z p] at hmissing
  rw [← insulationFault_faults z p] at htold
  rw [judged_found_faults h hr, moveRecord_rekeyed (insulationFault_oneRecordEach h) htold ((after_origin ..).trans ho) hmissing,
    insulationFault_tck]

theorem judged_merged (h : s.Judges p z) (hr : s.Explains p) (hx : s.imon.faults.get k = some x)
    (ho : x.origin = .pole p) (hw : s.imon.faults.get j = some w) (hwz : w.origin = .zone z) :
    s.completeShift.imon.faults.get k = none ∧
    s.completeShift.imon.faults.get j = some (w.merge s.tck.wall
      (x.after (s.imon.severity p) (s.graded p) ((s.imon.computed s.tck.wall).ohms p) s.tck.wall)) := by
  have htold := alert_told h.one hx ho
  have hzone := alert_zoneRecord h.one hw hwz
  rw [← insulationFault_faults z p] at htold hzone
  have hmerged := moveRecord_merged (insulationFault_oneRecordEach h) htold ((after_origin ..).trans ho) hzone hwz
  rwa [insulationFault_tck, ← judged_found_faults h hr] at hmerged

/-- R94: a pole whose severity stands keeps its slot. -/
theorem judged_kept (h : s.Judges p z) (hr : ¬ s.Explains p) (hsame : s.graded p = s.imon.severity p) :
    s.completeShift.imon.recordOf (.pole p) = s.imon.recordOf (.pole p) := by
  have hidle : ∀ q, Origin.pole p = .pole q → ¬ (s.imon.severity q).Rises (s.graded q) := by
    rintro q ⟨⟩ hrises
    exact hrises.2 hsame
  rw [← alert_recordOf h.one hidle, Insulation.recordOf, Insulation.recordOf, judged_below_faults h hr]

/-! ### The completed sequence -/

/-- R96: LOCATING_DONE carries the slot of the record concerned. -/
theorem concluded_source (h : s.Judges p z) (hv : State.Concludes p z s v) :
    (s.completeShift.atn.sources.get 2).flag = true ∧
    ∀ k x, s.completeShift.imon.faults.get k = some x → s.completeShift.imon.loc.origin = some x.origin →
      (s.completeShift.atn.sources.get 2).detail = some (.faultSlot k.val) := by
  obtain ⟨hfaults, hloc⟩ := completeShift_records h.quiet
  have hsource : s.completeShift.atn.sources.get 2 = s.handed.atn.sources.get 2 :=
    completeShift_raised h.quiet (by decide) (by decide)
  rw [hsource, hfaults, hloc, hv.completes.tries.seeks.faults]
  refine ⟨?_, fun k x hx ho => ?_⟩
  · have horigin := (completed_ended (if s.Explains p then .found else .notExplained)
      (if s.Explains p then .zone z else .pole p) v.tck.wall v.imon.second v.candidates v.imon.loc).2.2
    rw [← hv.completes.loc] at horigin
    obtain ⟨g, hg⟩ := Option.ne_none_iff_exists'.1 horigin
    rw [hv.completes.source g hg]
    rfl
  · rw [hv.completes.source _ ho, SourceRec.located, recordOf_of_get hv.one hx]
    rfl

theorem concluded_loc (h : s.Judges p z) (hv : State.Concludes p z s v) : s.completeShift.imon.loc =
    v.imon.loc.completed (if s.Explains p then .found else .notExplained)
      (if s.Explains p then .zone z else .pole p) s.tck.wall (s.secondPole p) (s.tryList p z) := by
  rw [(completeShift_records h.quiet).2, hv.completes.loc, hv.tck, hv.second, hv.list]

end

end Sys2Proof.Machine
end

section
/-! O41: its clauses assembled. -/

namespace Sys2Proof.Machine

section

variable {s v : State} {p q : Pole} {y z : Fin 6} {rest : List (Fin 6)} {j k : Fin 8} {x w : FaultRec}

theorem after_first (b a : Severity) (r now : Nat) (x : FaultRec) : (x.after b a r now).first = x.first := by
  have htakes : (x.takes b a r now).first = x.first := by
    unfold FaultRec.takes
    split <;> rfl
  unfold FaultRec.after
  split <;> exact htakes

theorem judged_detail (h : s.Judges p z) (hr : s.Explains p) :
    (s.completeShift.atn.sources.get 8).detail = some (.zone (some z) .insulation) := by
  rw [completeShift_raised h.quiet (by decide) (by decide), (handed_found h hr).others 8 (by decide),
    explained_raised]

/-- R96: what every completion leaves. -/
theorem concluded_ended (h : s.Judges p z) (hv : State.Concludes p z s v) :
    s.completeShift.imon.loc.deferred = none ∧ s.completeShift.imon.loc.endTime = s.tck.wall := by
  obtain ⟨hdeferred, hend, -⟩ := completed_ended (if s.Explains p then .found else .notExplained)
    (if s.Explains p then .zone z else .pole p) s.tck.wall (s.secondPole p) (s.tryList p z) v.imon.loc
  rw [concluded_loc h hv]
  exact ⟨hdeferred, hend⟩

/-- R96: the deferred pole's sequence isolates its first zone. -/
theorem concluded_turn (h : s.Judges p z) (hv : State.Concludes p z s v) (hq : s.secondPole p = some q)
    (hlist : s.tryList p z = y :: rest) :
    (s.completeShift.zone y).state = .isolated ∧ (s.completeShift.zone y).contactor = false ∧
    s.completeShift.imon.cycle = .baseSettle := by
  have hcurrent : s.handed.imon.loc.current = some y := by
    rw [← (completeShift_records h.quiet).2, concluded_loc h hv, hq, hlist]
    rfl
  obtain ⟨hzone, hcycle⟩ := judged_isolated h.quiet hv.completes.tries hcurrent
  rw [hzone]
  exact ⟨rfl, rfl, hcycle⟩

theorem judged_unstopped (h : s.Judges p z) : s.completeShift.stu = s.stu ∧ s.completeShift.rqp = s.rqp := by
  rw [completeShift_settled h.quiet]
  simp only [settle_frame, nextCycle_frame, handed_frame, and_self]

end

/-- Settles O41: the judgement is a chain of states, and each clause says what the rest of the event leaves of one
of them. -/
theorem locatingJudgesTheCandidate : Obligations.LocatingJudgesTheCandidate := by
  intro s p z hcycle hover hpole hcurrent huntried hisolated hremembers _ hone m before after hsteady r other deferred
    raised told worse joins next ended list second outcome origin
  have hbefore : ∀ q, before q = s.imon.severity q := fun q => by cases q <;> rfl
  have hafter : ∀ q, after q = s.graded q := fun q => by cases q <;> rfl
  have hother : other = p.other := by cases p <;> rfl
  have hr : r = (s.imon.computed s.tck.wall).ohms p := by cases p <;> rfl
  have hnewly : ∀ q, ¬ Newly s.imon.severity s.graded .fault q := fun q hnew =>
    hnew.2 ((hbefore q).symm.trans (hsteady q ((hafter q).trans hnew.1)))
  have h : s.Judges p z :=
    ⟨Bool.eq_false_iff.2 fun hf => ((faulting_iff s).1 hf).elim (hnewly .pos) (hnewly .neg), hpole, hcurrent, huntried,
      hisolated, hremembers, hone⟩
  have hexplains : m.warnK ≤ r ↔ s.Explains p := iff_of_eq (congrArg (m.warnK ≤ ·) hr)
  have hbelow : r < m.warnK → ¬ s.Explains p := fun hlt he => Nat.not_le.2 hlt (hexplains.2 he)
  have hended : ended → ∃ v, State.Concludes p z s v := fun hend => handed_concludes h (hend.imp_left hexplains.1)
  have hdeferred : deferred = s.waiting p :=
    if_congr (by rw [hafter, hbefore, hother]) (congrArg some hother) rfl
  have hsecond : second = s.secondPole p := by
    change (match deferred with | none => none | some q => if after q = Severity.warning then some q else none) = _
    rw [hdeferred, State.secondPole]
    cases s.waiting p with
    | none => rfl
    | some q => exact if_congr (by rw [hafter]) rfl rfl
  have hlist : list = s.tryList p z := by
    rw [State.tryList, ← hr]
    rfl
  have houtcome : outcome = if s.Explains p then .found else .notExplained := if_congr hexplains rfl rfl
  have horigin : origin = if s.Explains p then .zone z else .pole p := if_congr hexplains rfl rfl
  have htold : ∀ x, x.after (s.imon.severity p) (s.graded p) ((s.imon.computed s.tck.wall).ohms p) s.tck.wall =
      told x := fun x => by
    rw [told_eq h.quiet]
    change _ = ite _ _ _
    simp only [raised, hbefore, hafter, hr]
  refine ⟨_, exec_shiftSampleEnd hcycle hover, fun hle => ?_, fun hlt => ⟨fun hsame => ?_, fun k x hx =>
    ⟨fun ho => ?_, fun ho => ?_⟩, judged_released_enabled h (hbelow hlt), judged_released_off h (hbelow hlt),
    fun hon hother => ?_⟩, fun y hlt hnext => ?_, fun hend => ?_, fun hend hnone => ?_, fun q y rest hend hq hl => ?_,
    fun q hend hq hl => ?_, (judged_unstopped h).1, (judged_unstopped h).2, ?_⟩
  · have he := hexplains.1 hle
    rw [judged_found_zone h he]
    refine ⟨rfl, rfl, rfl, rfl, judged_forgets h he, fun hsome => ?_, fun k x hx ho =>
      ⟨fun hz => ?_, fun j w hw hwz => ?_⟩, judged_detail h he⟩
    · obtain ⟨k, hk⟩ := Option.isSome_iff_exists.1 hsome
      obtain ⟨x, hx, ho⟩ := recordOf_some hk
      exact judged_holds h he hx ho
    · rw [judged_rekeyed h he hx ho hz, htold]
    · obtain ⟨hfree, hmerged⟩ := judged_merged h he hx ho hw hwz
      have hfirst : (told x).first = x.first := by rw [← htold, after_first]
      rw [merge_eq, htold, hwz, hfirst] at hmerged
      exact ⟨hfree, hmerged⟩
  · exact judged_kept h (hbelow hlt) ((hafter p).symm.trans (hsame.trans (hbefore p)))
  · rw [judged_below_faults h (hbelow hlt), alert_told hone hx ho, htold]
  · rw [judged_below_faults h (hbelow hlt), alert_zoneRecord hone hx ho]
  · rw [(completeShift_records h.quiet).2] at hother
    exact judged_released_contactor h (hbelow hlt) hon hother
  · obtain ⟨hzone, hcycle', ⟨rest, hloc⟩, hsource⟩ := judged_next h (hbelow hlt) hnext
    have hjoins : (s.zone y).joins = true := List.find?_some (p := fun i => (s.zone i).joins) hnext
    have hon : (s.zone y).enabled = true := (Bool.and_eq_true_iff.1 hjoins).2
    rw [hzone, hloc]
    exact ⟨rfl, rfl, fun hst => congrArg some (windowEnd_heats (s := s.endCycle) hon hst),
      fun hst => (windowEnd_asks (s := s.endCycle) hon hst).imp (congrArg some) (congrArg some),
      hpole, rfl, rfl, hdeferred.symm, hsource, hcycle'⟩
  · obtain ⟨v, hv⟩ := hended hend
    obtain ⟨hnone, htime⟩ := concluded_ended h hv
    exact ⟨hnone, htime, concluded_source h hv⟩
  · obtain ⟨v, hv⟩ := hended hend
    have hloc := concluded_loc h hv
    rw [← hsecond, hnone, ← houtcome, ← horigin] at hloc
    rw [hloc, if_congr hexplains rfl rfl]
    exact ⟨rfl, rfl, rfl, rfl, rfl, hv.tried⟩
  · obtain ⟨v, hv⟩ := hended hend
    have hloc := concluded_loc h hv
    obtain ⟨hstate, hcontactor, hcycle'⟩ := concluded_turn h hv (hsecond.symm.trans hq) (hlist.symm.trans hl)
    rw [← hsecond, hq, ← hlist, hl, ← houtcome, ← horigin] at hloc
    rw [hloc]
    exact ⟨rfl, rfl, rfl, rfl, rfl, rfl, hstate, hcontactor, hcycle'⟩
  · obtain ⟨v, hv⟩ := hended hend
    have hloc := concluded_loc h hv
    rw [← hsecond, hq, ← hlist, hl] at hloc
    rw [hloc]
    exact ⟨rfl, rfl, rfl, rfl, rfl, rfl⟩
  · simp

end Sys2Proof.Machine
end

section
/-! A Stop and the safety pass that it triggers (R105, R106, R108, R114): the bank, the account and its supervision,
the zones and INL as the stop leaves them, the pass that leaves no power, and O44. -/

namespace Sys2Proof.Machine

section

variable {s : State} {c : StopCause} {i : Fin 6} {k : Fin 16} {z : Zone} {r : SuspendReason} {e : AcctEvent}

/-! ### The bank (R105) -/

theorem bankStop_of_empty (h : s.stu.bank = none) (c : StopCause) : (s.bankStop c).stu =
    { s.stu with epoch := s.stu.nextEpoch, bank := some (s.stopContext c s.stu.nextEpoch) } := by
  unfold State.bankStop
  rw [h]
  rfl

theorem bankStop_of_full (h : s.stu.bank ≠ none) (c : StopCause) :
    (s.bankStop c).stu = { s.stu with epoch := s.stu.nextEpoch, overflow := true } := by
  unfold State.bankStop
  split
  next hnone => exact absurd hnone h
  next => rfl

/-- R105: the context that a stop banks shows each zone's enabled flag and target. -/
theorem stopContext_zone (epoch : Nat) (i : Fin 6) :
    (s.stopContext c epoch).enabled.get i = (s.zone i).enabled ∧
    (s.stopContext c epoch).targets.get i = (s.zone i).target :=
  ⟨Table.get_map .., Table.get_map ..⟩

/-- R105: overflow is set by a stop that finds the bank full, and stands otherwise. -/
theorem bankStop_overflow (c : StopCause) (s : State) :
    (s.bankStop c).stu.overflow = (s.stu.bank.isSome || s.stu.overflow) := by
  cases h : s.stu.bank with
  | none => rw [bankStop_of_empty h]; rfl
  | some b => rw [bankStop_of_full (by rw [h]; nofun)]; rfl

/-! ### The account and its supervision (R155, R188) -/

theorem autoSuspend_of_none (h : s.act.activeSlot = none) : s.autoSuspend r e = s := by
  unfold State.autoSuspend
  rw [h]

theorem autoSuspend_of_some (h : s.act.activeSlot = some k) :
    s.autoSuspend r e = (s.suspendSlot k r).raise .account (.account (s.act.handle k) e) := by
  unfold State.autoSuspend
  rw [h]

theorem suspendSlot_rqp (k : Fin 16) (r : SuspendReason) (s : State) : (s.suspendSlot k r).rqp =
    { s.rqp with sup := if s.rqp.sup = .expired then .expired else .disarmed } :=
  disarmSupervision_rqp _

/-- R155: the account that was Active is Suspended with the reason, and ACCOUNT names its handle. -/
theorem autoSuspend_account {a : Account} (h : s.act.activeSlot = some k)
    (ha : (s.act.slots.get k).acct = some a) :
    ((s.autoSuspend r e).act.slots.get k).acct = some { a with state := .suspended, reason := some r } ∧
    (s.autoSuspend r e).atn.sources.get 6 =
      { s.atn.sources.get 6 with flag := true, detail := some (.account (s.act.handle k) e) } := by
  rw [autoSuspend_of_some h]
  constructor
  · simp [State.suspendSlot, State.modAccount, ha]
  · rw [show (6 : Fin 11) = Source.account.index from rfl, raise_self]
    simp

theorem takeStop_act (c : StopCause) (s : State) :
    (s.takeStop c).act = ((s.bankStop c).autoSuspend .stop .suspendedStop).act := by
  simp [State.takeStop]

/-- R188: supervision once the account that was Active, if any, has left. -/
def Supervision.departed (active : Option (Fin 16)) : Supervision → Supervision
  | .armed ms => if active = none then .armed ms else .disarmed
  | .disarmed => .disarmed
  | .expired => .expired

theorem departed_of_none (sup : Supervision) : sup.departed none = sup := by
  cases sup <;> rfl

theorem departed_of_some (k : Fin 16) (sup : Supervision) :
    sup.departed (some k) = if sup = .expired then .expired else .disarmed := by
  cases sup <;> rfl

theorem takeStop_rqp (c : StopCause) (s : State) :
    (s.takeStop c).rqp = { s.rqp with sup := s.rqp.sup.departed s.act.activeSlot } := by
  have hrqp : (s.takeStop c).rqp = ((s.bankStop c).autoSuspend .stop .suspendedStop).rqp := by
    simp [State.takeStop]
  have hact : (s.bankStop c).act = s.act := by simp
  rw [hrqp]
  cases h : s.act.activeSlot with
  | none =>
    rw [autoSuspend_of_none (hact ▸ h), departed_of_none]
    simp
  | some k =>
    rw [autoSuspend_of_some (hact ▸ h), departed_of_some]
    simp only [raise_frame, suspendSlot_rqp, bankStop_frame]

/-- R155: at a stop the suspension alone touches ACCOUNT. -/
theorem takeStop_accountSource (c : StopCause) (s : State) : (s.takeStop c).atn.sources.get 6 =
    ((s.bankStop c).autoSuspend .stop .suspendedStop).atn.sources.get 6 := by
  simp only [State.takeStop, triggerSafety_frame]
  rw [raise_other _ _ _ (by decide), withdrawEnable_other_source _ (by decide)]
  simp only [zonesStop_frame, abandonLocating_atn]

theorem takeStop_account {a : Account} (h : s.act.activeSlot = some k)
    (ha : (s.act.slots.get k).acct = some a) :
    ((s.takeStop c).act.slots.get k).acct = some { a with state := .suspended, reason := some .stop } ∧
    (s.takeStop c).atn.sources.get 6 = { s.atn.sources.get 6 with
      flag := true, detail := some (.account (s.act.handle k) .suspendedStop) } := by
  have hact : (s.bankStop c).act = s.act := by simp
  have hatn : (s.bankStop c).atn = s.atn := by simp
  rw [takeStop_act, takeStop_accountSource, ← hact, ← hatn]
  exact autoSuspend_account (hact ▸ h) (hact ▸ ha)

/-! ### The zones (R57, R59) -/

theorem stopped_of_faulted (h : z.state = .faulted) : z.stopped = { z with enabled := false } := by
  unfold Zone.stopped
  rw [h]

theorem stopped_of_free (h : z.state ≠ .faulted) : z.stopped = { z.toOff with enabled := false } := by
  unfold Zone.stopped
  split
  next hst => exact absurd hst h
  all_goals rfl

theorem stopped_target (z : Zone) : z.stopped.target = z.target := by
  unfold Zone.stopped
  split <;> rfl

theorem released_target (live : Bool) (z : Zone) : (z.released live).target = z.target := by
  unfold Zone.released
  split <;> rfl

/-- R56, R57: a release goes to Off, or to a connected state when that is what the isolation remembers. -/
theorem released_free (h : z.remembers = true) (live : Bool) : (z.released live).state ≠ .faulted := by
  cases hdisable : z.disableAfter with
  | true => rw [released_off hdisable]; nofun
  | false =>
    rw [released_connect hdisable]
    change z.resume.getD .requested ≠ .faulted
    unfold Zone.remembers at h
    cases hresume : z.resume with
    | none => nofun
    | some st =>
      rw [hresume] at h
      rintro rfl
      cases h

/-- R59: the release before a stop leaves no trace in an isolated zone. -/
theorem stopped_released (hst : z.state = .isolated) (h : z.remembers = true) (live : Bool) :
    (z.released live).stopped = z.stopped := by
  rw [stopped_of_free (released_free h live), stopped_of_free (by rw [hst]; nofun)]
  unfold Zone.released
  split <;> rfl

theorem zonesStop_zone (s : State) (i : Fin 6) : s.zonesStop.zone i = (s.zone i).stopped := by
  have hhzc : s.zonesStop.hzc = { s.hzc with zones := s.hzc.zones.map Zone.stopped } := by
    unfold State.zonesStop
    dsimp only
    split
    · simp only [abandonRecord_frame]
      rfl
    · rfl
  rw [State.zone, hhzc]
  exact Table.get_map ..

/-- R97: an abandoned sequence releases its zone when that is Isolated, and leaves the others. -/
theorem abandonLocating_zone_cases (s : State) (i : Fin 6) : s.abandonLocating.zone i = s.zone i ∨
    ((s.zone i).state = .isolated ∧ s.abandonLocating.zone i = (s.zone i).released s.blocksRun) := by
  have hrecord : ∀ u : State, u.abandonRecord.zone i = u.zone i := fun u => by
    simp only [State.zone, abandonRecord_frame]
  cases hcurrent : s.imon.loc.current with
  | none =>
    refine .inl ?_
    unfold State.abandonLocating
    rw [hcurrent]
    exact hrecord s
  | some y =>
    by_cases hst : (s.zone i).state = .isolated ∧ i = y
    · obtain ⟨hst, rfl⟩ := hst
      exact .inr ⟨hst, abandonLocating_zone hcurrent hst⟩
    · refine .inl ?_
      unfold State.abandonLocating
      rw [hcurrent]
      refine (hrecord _).trans ?_
      by_cases hy : i = y
      · subst hy
        unfold State.releaseZone
        rw [if_neg fun h => hst ⟨h, rfl⟩]
      · exact releaseZone_other hy s

theorem takeStop_zone_cases (c : StopCause) (s : State) (i : Fin 6) :
    (s.takeStop c).zone i = (s.zone i).stopped ∨
    ((s.zone i).state = .isolated ∧ (s.takeStop c).zone i = ((s.zone i).released s.blocksRun).stopped) := by
  have hstop : (s.takeStop c).zone i =
      (((s.bankStop c).autoSuspend .stop .suspendedStop).abandonLocating.zone i).stopped := by
    rw [← zonesStop_zone]
    simp [State.takeStop, State.zone]
  have hzone : ((s.bankStop c).autoSuspend .stop .suspendedStop).zone i = s.zone i := by simp [State.zone]
  have hruns : ((s.bankStop c).autoSuspend .stop .suspendedStop).blocksRun = s.blocksRun :=
    (runs_congr (by simp)).1
  rw [hstop, ← hzone, ← hruns]
  exact (abandonLocating_zone_cases _ i).imp (congrArg _) (And.imp_right (congrArg _))

theorem takeStop_zone_target (c : StopCause) (s : State) (i : Fin 6) :
    ((s.takeStop c).zone i).target = (s.zone i).target := by
  rcases takeStop_zone_cases c s i with h | ⟨-, h⟩ <;> rw [h, stopped_target]
  exact released_target _ _

/-- R59: the release that precedes a stop leaves no trace where an isolation remembers a connected zone. -/
theorem takeStop_zone_of (h : (s.zone i).state = .isolated → (s.zone i).remembers = true) (c : StopCause) :
    (s.takeStop c).zone i = (s.zone i).stopped := by
  rcases takeStop_zone_cases c s i with hstop | ⟨hst, hstop⟩
  · exact hstop
  · rw [hstop, stopped_released hst (h hst)]

/-! ### INL (R12) -/

/-- R12: the state in which a stop leaves INL. -/
def InletState.withdrawn : InletState → InletState
  | .drawing => .pausing
  | .ready => .offered
  | .unplugged => .unplugged
  | .plugged => .plugged
  | .offered => .offered
  | .pausing => .pausing
  | .faulted => .faulted

theorem withdrawEnable_withdrawn (s : State) : s.withdrawEnable.inl.state = s.inl.state.withdrawn := by
  unfold State.withdrawEnable
  split
  all_goals next h => rw [h]; rfl

theorem takeStop_withdrawn (c : StopCause) (s : State) : (s.takeStop c).inl.state = s.inl.state.withdrawn := by
  simp [State.takeStop, withdrawEnable_withdrawn]

/-- R8: with no Active account the passes of an event leave INL where a stop left it. -/
theorem settle_state_of_halted (h : s.Halted) : s.settle.inl.state = s.inl.state := by
  obtain ⟨hslot, hready, -⟩ := h
  refine (settle_survives (survives_of_pass
    (fun inl _ act => act.activeSlot = none ∧ inl.state = s.inl.state) ?_) ⟨hslot, rfl⟩).2
  rintro u ⟨hnone, hstate⟩
  refine ⟨(activeSlot_alike (pass_alike u)).trans hnone, ?_⟩
  rw [pass_state, grant_of_no_account hnone, hstate]
  cases hst : s.inl.state
  case ready => exact absurd hst hready
  all_goals rfl

/-! ### The event's flags (R106, R114) -/

theorem withdrawEnable_opening (s : State) : s.withdrawEnable.work.opening = s.work.opening := by
  unfold State.withdrawEnable
  split <;> rfl

theorem zonesStop_opening (s : State) : s.zonesStop.work.opening = true := by
  unfold State.zonesStop
  dsimp only
  split
  · simp only [abandonRecord_frame]
    rfl
  · rfl

/-- R106, R114: a stop triggers a pass and discards the sample in progress. -/
theorem takeStop_work (c : StopCause) (s : State) :
    (s.takeStop c).work.trigger = true ∧ (s.takeStop c).work.opening = true := by
  refine ⟨rfl, ?_⟩
  change (State.withdrawEnable _).work.opening = true
  rw [withdrawEnable_opening, zonesStop_opening]

/-- R73, R97, R106: the measurement after a stop and its passes. -/
theorem stop_imon (c : StopCause) (s : State) : (s.takeStop c).settle.imon =
    if s.sampleOpen = true then
      { s.imon with
        cycle := if s.imon.cycle = .baseSample then .baseSettle else .shiftSettle,
        phaseMs := 0, discards := min 255 (s.imon.discards + 1), sumP := 0, sumN := 0, samples := 0,
        loc := s.imon.loc.abandoned s.tck.wall }
    else { s.imon with loc := s.imon.loc.abandoned s.tck.wall } := by
  have hopen : (s.takeStop c).sampleOpen = s.sampleOpen := by
    rw [State.sampleOpen, takeStop_imon]
    rfl
  rw [settle_imon_of_opening (takeStop_work c s).2]
  split
  next hsample =>
    rw [discarded_of_sampleOpen hsample, takeStop_imon]
    exact (if_pos (hopen.symm.trans hsample)).symm
  next hsample =>
    rw [takeStop_imon]
    exact (if_neg fun h => hsample (hopen.trans h)).symm

/-! ### The pass that leaves no power (R106, R114) -/

/-- What leaves nothing to give out: no account, no enable, and every zone at rest. -/
def State.Unpowered (s : State) : Prop := s.Halted ∧ ∀ i, (s.zone i).Still

theorem survives_unpowered : Survives State.Unpowered where
  pass t h := ⟨survives_halted.pass t h.1, fun i => by
    rw [pass_zone]
    split
    · exact h.2 i
    · rw [drive_of_rest (connected_of_still (h.2 i))]
      exact h.2 i⟩
  inLine t h := ⟨survives_halted.inLine t h.1, fun i => by
    rcases zonesInLine_zone t i with hsame | hline
    · rw [hsame]; exact h.2 i
    · rw [hline, inLine_of_still (h.2 i)]; exact h.2 i⟩
  work _ _ h := h
  choice _ h := h
  unheld _ h := h
  restart _ _ h := h

theorem asks_of_still (h : z.Still) : z.state.asks = false := by
  rcases h with h | h | ⟨h, -⟩ <;> rw [h] <;> rfl

theorem not_anyOutOfLine (h : ∀ i, (s.zone i).Still) : s.anyOutOfLine = false := by
  refine List.any_eq_false.2 fun i _ => ?_
  unfold Zone.outOfLine
  rcases h i with hst | hst | ⟨hst, hoff⟩ <;> simp [*]

/-- R28, R29: zones at rest ask for nothing, and outside Drawing the battery gives nothing else. -/
theorem passFigures_of_unpowered (h : s.Unpowered) : s.passFigures = Figures.zero := by
  obtain ⟨⟨-, -, hdraw⟩, hstill⟩ := h
  have hasks : ∀ i, (s.passInputs.zones.get i).asks = 0 := fun i => by
    simp only [State.passInputs, Table.get_map, ZoneInput.asks]
    exact if_neg (by rw [show (s.hzc.zones.get i).state.asks = false from asks_of_still (hstill i)]; nofun)
  have hheat : s.passInputs.batteryHeat = 0 := by
    rw [PassInputs.batteryHeat, hReq_eq]
    simp [hasks]
  have hgrants : ∀ g, s.passInputs.zoneGrants s.priorities g = Table.replicate 6 0 := fun g =>
    Table.ext_get fun i => by
      rw [Table.get_replicate]
      exact Nat.le_zero.1 ((zoneGrants_le _ _ _ i).trans_eq (hasks i))
  rw [State.passFigures, PassInputs.figures, if_neg (by exact hdraw), hheat, hgrants]
  rfl

/-- R52: with every zone in line the end of a Sample phase leaves the trigger of the event standing. -/
theorem windowEnd_trigger (h : s.anyOutOfLine = false) (htrigger : s.work.trigger = true) :
    s.windowEnd.work.trigger = true := by
  have hline : (s.modAlc fun a => { a with held := false }).anyOutOfLine = false := h
  simp only [State.windowEnd, hline, Bool.false_and, Bool.false_eq_true, if_false]
  split
  · exact zonesInLine_trigger rfl
  · exact zonesInLine_trigger htrigger

theorem takeReports_trigger (h : s.anyOutOfLine = false) (htrigger : s.work.trigger = true) :
    s.takeReports.work.trigger = true := by
  unfold State.takeReports State.discardSample
  (repeat' split)
  · exact windowEnd_trigger h htrigger
  · exact htrigger
  · exact htrigger

/-- R106, R114: a triggered event that discards the sample in progress has its passes applied; where nothing is left
to give out they put no power in force. -/
theorem settle_of_unpowered (h : s.Unpowered) (htrigger : s.work.trigger = true)
    (hopening : s.work.opening = true) (hruns : s.blocksRun = true) :
    s.settle.alc.chargerCmd = 0 ∧ s.settle.alc.force = Figures.zero := by
  have hpass : ∀ t : State, t.sampleOpen = false → t.Unpowered →
      t.pass.Unpowered ∧ t.pass.alc.chargerCmd = 0 ∧ t.pass.alc.force = Figures.zero := fun t hclosed ht => by
    refine ⟨survives_unpowered.pass t ht, ?_⟩
    rw [pass_alc_eq, passHeld_of_closed hclosed, passFigures_of_unpowered ht]
    exact ⟨rfl, rfl⟩
  have hreports : s.takeReports.Unpowered := takeReports_survives survives_unpowered h
  have hclosed : s.takeReports.sampleOpen = false := by
    have himon := takeReports_imon_of_opening hopening
    cases hopen : s.sampleOpen <;> rw [hopen] at himon
    · exact (sampleOpen_congr himon).trans hopen
    · exact sampleOpen_of_discarded himon
  have hclosed' : s.takeReports.pass.sampleOpen = false := (sampleOpen_congr (by simp)).trans hclosed
  have hruns' : s.takeReports.blocksRun = true := (runs_congr (by simp)).1.trans hruns
  rw [settle_eq, takeReports_trigger (not_anyOutOfLine h.2) htrigger, hruns']
  exact (passes_closed (P := fun t => t.Unpowered ∧ t.alc.chargerCmd = 0 ∧ t.alc.force = Figures.zero)
    (fun t ht hP => hpass t ht hP.1) (fun _ _ hP => hP) 31 hclosed' (hpass _ hclosed hreports)).2

theorem takeStop_unpowered (hone : s.act.oneActive = true) (c : StopCause) : (s.takeStop c).Unpowered :=
  ⟨⟨takeStop_activeSlot hone c, takeStop_inlet c s⟩, fun i => still_of_stopped (takeStop_zone c s i)⟩

theorem stop_zone (c : StopCause) (s : State) (i : Fin 6) :
    (s.takeStop c).settle.zone i = (s.takeStop c).zone i :=
  settle_zone_of_still (still_of_stopped (takeStop_zone c s i))

/-! ### The response (13.5) -/

/-- R108: the response to a Stop, in the terms of the state that it found. -/
theorem ownStop_reply (s : State) : (ownStop s).2 =
    ⟨.ok, be 2 ((s.stu.epoch + 1) % 65536) ++ be 1 (if s.stu.bank = none then 1 else 0) ++
      handleBytes s.act.activeHandle ++
      be 1 (if s.stu.bank = none ∧ s.stu.overflow = false then 0 else 1)⟩ := by
  have hstu : (s.takeStop .request).settle.stu = (s.bankStop .request).stu := by
    rw [(settle_frame _).1, takeStop_stu]
  simp only [ownStop, hstu, (bankStop_stu .request s).1, bankStop_overflow]
  cases hbank : s.stu.bank <;> cases hover : s.stu.overflow <;> simp [flagByte]

end

/-- Settles O44: each clause is what the stop makes of a block, which the safety pass that follows leaves. -/
theorem stopIsTakenWhole : Obligations.StopIsTakenWhole := by
  intro s hserves hone epoch handle
  have hpowered := takeStop_unpowered hone .request
  obtain ⟨htrigger, hopening⟩ := takeStop_work .request s
  have hexec : exec .stop s = .next ((s.takeStop .request).settle.answer (ownStop s).2) :=
    next_of_serves hserves rfl
  have hact : (s.takeStop .request).settle.act = (s.takeStop .request).act := settle_act_of_none hpowered.1.1
  have himon := stop_imon .request s
  have hloc : (s.takeStop .request).settle.imon.loc = s.imon.loc.abandoned s.tck.wall := by
    rw [himon]
    split <;> rfl
  have hzone := stop_zone .request s
  have hstate := (settle_state_of_halted hpowered.1).trans (takeStop_withdrawn .request s)
  have hother : ∀ k : Fin 11, k ≠ 5 → k ≠ 7 →
      (s.takeStop .request).settle.atn.sources.get k = (s.takeStop .request).atn.sources.get k :=
    fun k h5 h7 => settle_other_source _ h5 h7
  have halc := settle_alc (s.takeStop .request)
  simp only [Alloc.settings, Prod.mk.injEq, takeStop_frame] at halc
  obtain ⟨hceiling, hshare, -⟩ := halc
  have hdark := fun hruns => settle_of_unpowered hpowered htrigger hopening hruns
  obtain ⟨hstu, hmtr, htck, hrqp, hpwc, -⟩ := settle_frame (s.takeStop .request)
  rw [takeStop_stu] at hstu
  simp only [takeStop_frame] at hmtr htck hpwc
  generalize (s.takeStop .request).settle = t at *
  refine ⟨_, hexec, ?_, fun hbank => ?_, fun hbank => ?_,
    fun i => ⟨?_, ?_, fun hst => ?_, fun hst hremembers => ?_⟩, ?_, ?_, fun k a hk ha => ?_, ?_, ?_, ?_, ?_,
    fun hruns => ?_, hceiling, hshare, ?_, htck, hmtr, hpwc⟩
  · exact (congrArg Stops.epoch hstu).trans (bankStop_stu .request s).1
  · rw [bankStop_of_empty hbank] at hstu
    exact ⟨(congrArg Stops.overflow hstu :), _, (congrArg Stops.bank hstu :), rfl, rfl, rfl,
      fun i => stopContext_zone _ i, rfl, rfl, rfl⟩
  · rw [bankStop_of_full hbank] at hstu
    exact ⟨(congrArg Stops.bank hstu :), (congrArg Stops.overflow hstu :)⟩
  · exact (congrArg Zone.enabled (hzone i)).trans (takeStop_zone .request s i).1
  · exact (congrArg Zone.target (hzone i)).trans (takeStop_zone_target .request s i)
  · refine (hzone i).trans ((takeStop_zone_of (fun h => ?_) _).trans (stopped_of_faulted hst))
    rw [hst] at h
    cases h
  · have hoff := (hzone i).trans ((takeStop_zone_of (fun _ => hremembers) _).trans (stopped_of_free hst))
    exact ⟨(congrArg Zone.state hoff :), (congrArg Zone.contactor hoff :), (congrArg Zone.duty hoff :),
      (congrArg Zone.grant hoff :), (congrArg Zone.demand hoff :), (congrArg Zone.resume hoff :)⟩
  · refine hstate.trans ?_
    cases s.inl.state <;> rfl
  · exact (congrArg Accounts.activeSlot hact).trans hpowered.1.1
  · obtain ⟨hacct, hsource⟩ := takeStop_account (c := .request) hk ha
    have hraised := (hother 6 (by decide) (by decide)).trans hsource
    rw [← hact] at hacct
    exact ⟨hacct, (congrArg SourceRec.flag hraised :), (congrArg SourceRec.detail hraised :)⟩
  · exact (congrArg SourceRec.flag ((hother 3 (by decide) (by decide)).trans (takeStop_stopSource .request s)) :)
  · exact (congrArg SourceRec.detail ((hother 3 (by decide) (by decide)).trans (takeStop_stopSource .request s)) :)
  · exact (congrArg Locating.pole hloc).trans (abandoned_pole _ _)
  · refine himon.trans ?_
    rw [← hloc]
    rfl
  · exact hdark ((runs_congr (by simp)).1.trans hruns)
  · change { t.rqp with queue := answerOldest (ownStop s).2 t.rqp.queue } = _
    rw [hrqp, ownStop_reply, takeStop_rqp]
    cases s.rqp.sup <;> rfl

end Sys2Proof.Machine
end

section
/-! Resume and Discard Snapshot (R109 to R112): what becomes of the banked account, the zones and settings that a
Resume restores, and O45. -/

namespace Sys2Proof.Machine

section

variable {s : State} {c : Context} {i : Fin 6} {k : Fin 16} {h : Handle} {x : Option Handle}

/-! ### What becomes of the banked account (R111) -/

/-- R111 condition 2: the account that the handle names stands as a stop suspended it. -/
def State.Banked (h : Handle) (s : State) : Prop :=
  (s.act.slots.get h.slot).gen = h.gen ∧
  ∃ a, (s.act.slots.get h.slot).acct = some a ∧ a.state = .suspended ∧ a.reason = some .stop

theorem stillStopped_iff : s.stillStopped h = true ↔ s.Banked h := by
  unfold State.stillStopped State.Banked
  rw [Bool.and_eq_true, decide_eq_true_eq]
  refine and_congr_right fun _ => ?_
  cases (s.act.slots.get h.slot).acct <;> simp

/-- R111: what becomes of a banked handle, by the first condition that fails. -/
inductive State.ResumesAs (s : State) : Option Handle → ResumeOutcome → Prop
  | noAccount : s.ResumesAs none .noAccountBanked
  | changed {h : Handle} (hb : ¬ s.Banked h) : s.ResumesAs (some h) .accountChanged
  | unplugged {h : Handle} (hb : s.Banked h) (hun : s.inl.state = .unplugged) :
      s.ResumesAs (some h) .inletUnplugged
  | other {h : Handle} (hb : s.Banked h) (hun : s.inl.state ≠ .unplugged) (hslot : s.act.activeSlot ≠ none) :
      s.ResumesAs (some h) .otherActive
  | resumed {h : Handle} (hb : s.Banked h) (hun : s.inl.state ≠ .unplugged) (hslot : s.act.activeSlot = none) :
      s.ResumesAs (some h) .resumed

theorem resumesAs_outcome (x : Option Handle) (s : State) : s.ResumesAs x (s.resumeOutcome x) := by
  unfold State.resumeOutcome
  (repeat' split)
  · exact .noAccount
  next hstill hun => exact .unplugged (stillStopped_iff.1 hstill) hun
  next hstill hun hslot => exact .other (stillStopped_iff.1 hstill) hun (Option.isSome_iff_ne_none.1 hslot)
  next hstill hun hslot => exact .resumed (stillStopped_iff.1 hstill) hun (by simpa using hslot)
  next hstill => exact .changed fun hb => hstill (stillStopped_iff.2 hb)

/-- R111: the code of the outcome, in the terms of the conditions. -/
theorem resumeOutcome_code (x : Option Handle) (s : State) :
    ((s.resumeOutcome x).code = 1 ↔ x = none) ∧
    ((s.resumeOutcome x).code = 2 ↔ ∃ h, x = some h ∧ ¬ s.Banked h) ∧
    ((s.resumeOutcome x).code = 3 ↔ ∃ h, x = some h ∧ s.Banked h ∧ s.inl.state = .unplugged) ∧
    ((s.resumeOutcome x).code = 4 ↔
      ∃ h, x = some h ∧ s.Banked h ∧ s.inl.state ≠ .unplugged ∧ s.act.activeSlot ≠ none) ∧
    (s.resumeOutcome x).code ≤ 4 := by
  have ho := resumesAs_outcome x s
  generalize s.resumeOutcome x = outcome at ho
  cases ho <;> simp [ResumeOutcome.code, *]

theorem resumeOutcome_code_zero : (s.resumeOutcome x).code = 0 ↔ s.resumeOutcome x = .resumed := by
  cases s.resumeOutcome x <;> simp [ResumeOutcome.code]

/-- R111: an account is resumed only where all conditions hold. -/
theorem of_resumed (ho : s.resumeOutcome x = .resumed) :
    ∃ h, x = some h ∧ s.Banked h ∧ s.act.activeSlot = none := by
  have hresumed := resumesAs_outcome x s
  rw [ho] at hresumed
  cases hresumed with
  | resumed hb _ hslot => exact ⟨_, rfl, hb, hslot⟩

/-! ### The account reactivated (R111, R146) -/

theorem armSupervision_rqp (s : State) : s.armSupervision.rqp =
    { s.rqp with sup := if s.rqp.sup = .expired then .expired else .armed s.rqp.config.window } := by
  unfold State.armSupervision
  dsimp only
  split
  case h_3 hsup => rw [hsup, if_pos rfl, ← hsup]
  all_goals next hsup => rw [hsup]; rfl

theorem activateSlot_rqp (k : Fin 16) (s : State) : (s.activateSlot k).rqp =
    { s.rqp with sup := if s.rqp.sup = .expired then .expired else .armed s.rqp.config.window } :=
  armSupervision_rqp _

theorem activateSlot_acct {a : Account} (ha : (s.act.slots.get k).acct = some a) :
    ((s.activateSlot k).act.slots.get k).acct =
      some { a with state := .active, reason := none, firstActive := some (a.firstActive.getD s.now) } := by
  simp [State.activateSlot, State.modAccount, ha]

/-- R145, R153: an account activated where none was is the Active one. -/
theorem activateSlot_activeSlot {a : Account} (hnone : s.act.activeSlot = none)
    (ha : (s.act.slots.get k).acct = some a) : (s.activateSlot k).act.activeSlot = some k := by
  have hactive : ((s.activateSlot k).act.slots.get k).isActive = true :=
    (isActive_iff _).2 ⟨_, activateSlot_acct ha, rfl⟩
  cases hfound : (s.activateSlot k).act.activeSlot with
  | none => rw [not_isActive_of_none hfound k] at hactive; cases hactive
  | some j =>
    have hone := (oneActive_iff _).1 (activateSlot_oneActive hnone k)
    exact congrArg some (hone j k (activeSlot_isActive hfound) hactive)

theorem reactivate_of_resumed (ho : s.resumeOutcome (some h) = .resumed) :
    s.reactivate (some h) = s.activateSlot h.slot := if_pos ho

theorem reactivate_of_ne (ho : s.resumeOutcome x ≠ .resumed) : s.reactivate x = s := by
  cases x with
  | none => rfl
  | some h => exact if_neg ho

theorem reactivate_frame (x : Option Handle) (s : State) : (s.reactivate x).alc = s.alc ∧
    (s.reactivate x).hzc = s.hzc ∧ (s.reactivate x).stu = s.stu ∧ (s.reactivate x).mtr = s.mtr ∧
    (s.reactivate x).tck = s.tck ∧ (s.reactivate x).pwc = s.pwc := by
  unfold State.reactivate
  (repeat' split) <;> simp

/-! ### The settings restored (R110) -/

/-- R110: what a Resume restores outside the zones, and what it leaves. -/
theorem restore_rest (c : Context) (s : State) :
    (s.restore c).alc = { s.alc with ceiling := c.ceiling, share := c.share } ∧
    (s.restore c).stu = s.stu ∧ (s.restore c).mtr = s.mtr ∧ (s.restore c).tck = s.tck ∧
    (s.restore c).rqp = s.rqp := by
  have hzones : ∀ (l : List (Fin 6)) (t : State), (l.foldl (State.restoreZone c) t).alc = t.alc ∧
      (l.foldl (State.restoreZone c) t).stu = t.stu ∧ (l.foldl (State.restoreZone c) t).mtr = t.mtr ∧
      (l.foldl (State.restoreZone c) t).tck = t.tck ∧ (l.foldl (State.restoreZone c) t).rqp = t.rqp := by
    intro l
    induction l with
    | nil => exact fun _ => ⟨rfl, rfl, rfl, rfl, rfl⟩
    | cons i rest ih => exact fun t => ih (t.restoreZone c i)
  obtain ⟨halc, hstu, hmtr, htck, hrqp⟩ := hzones (fins 6) s
  exact ⟨congrArg (fun a : Alloc => { a with ceiling := c.ceiling, share := c.share }) halc, hstu, hmtr, htck, hrqp⟩

/-- R110: a zone as a Resume writes it, with the settings that the bank does not hold. -/
def Zone.restored (live window enabled : Bool) (target : Int) (z : Zone) : Zone :=
  z.write live window enabled target z.gain z.pMax z.priority

theorem restoreZone_zone (c : Context) (s : State) (i j : Fin 6) : (s.restoreZone c i).zone j =
    if j = i then (s.zone j).restored s.blocksRun s.sampleOpen (c.enabled.get j) (c.targets.get j)
    else s.zone j := by
  refine (zone_modZone i j _ s).trans ?_
  split
  next hj => subst hj; rfl
  next => rfl

/-- R110: each zone is written once. -/
theorem restore_zone (c : Context) (s : State) (i : Fin 6) : (s.restore c).zone i =
    (s.zone i).restored s.blocksRun s.sampleOpen (c.enabled.get i) (c.targets.get i) := by
  have hzones : ∀ (l : List (Fin 6)) (t : State), l.Nodup → (l.foldl (State.restoreZone c) t).zone i =
      if i ∈ l then (t.zone i).restored t.blocksRun t.sampleOpen (c.enabled.get i) (c.targets.get i)
      else t.zone i := by
    intro l
    induction l with
    | nil => exact fun _ _ => rfl
    | cons j rest ih =>
      intro t hl
      obtain ⟨hj, hrest⟩ := List.nodup_cons.1 hl
      have hzone := restoreZone_zone c t j i
      refine (ih (t.restoreZone c j) hrest).trans ?_
      by_cases hi : i = j
      · subst hi
        rw [if_neg hj, hzone, if_pos rfl, if_pos List.mem_cons_self]
      · rw [hzone, if_neg hi]
        simp only [List.mem_cons, hi, false_or]
        rfl
  exact (hzones (fins 6) s ((fins_pairwise 6).imp ne_of_lt)).trans (if_pos (mem_fins i))

/-! ### A Resume (R110, R111) -/

theorem resumeOutcome_restore (c : Context) (x : Option Handle) (s : State) :
    (s.restore c).resumeOutcome x = s.resumeOutcome x := by
  unfold State.resumeOutcome State.stillStopped
  rw [restore_inl, (restore_frame c s).2.1]

theorem takeResume_eq (c : Context) (s : State) : s.takeResume c =
    (((s.restore c).reactivate c.handle).modStu fun u => { u with bank := none, overflow := false }).trigger := rfl

theorem takeResume_frame (c : Context) (s : State) :
    (s.takeResume c).alc = { s.alc with ceiling := c.ceiling, share := c.share } ∧
    (s.takeResume c).stu = { s.stu with bank := none, overflow := false } ∧
    (s.takeResume c).mtr = s.mtr ∧ (s.takeResume c).tck = s.tck ∧ (s.takeResume c).pwc = s.pwc := by
  simp [takeResume_eq, reactivate_frame, restore_rest, restore_frame]

theorem takeResume_zone (c : Context) (s : State) (i : Fin 6) : (s.takeResume c).zone i =
    (s.zone i).restored s.blocksRun s.sampleOpen (c.enabled.get i) (c.targets.get i) := by
  rw [← restore_zone]
  exact congrArg (fun hzc : Heater => hzc.zones.get i) (reactivate_frame c.handle (s.restore c)).2.1

/-- R111: the account that a Resume leaves Active, and its supervision. -/
theorem takeResume_resumed (ho : s.resumeOutcome c.handle = .resumed) :
    ∃ h a, c.handle = some h ∧ (s.takeResume c).act.activeSlot = some h.slot ∧
      ((s.takeResume c).act.slots.get h.slot).acct = some a ∧ a.reason = none ∧
      (s.takeResume c).rqp = { s.rqp with
        sup := if s.rqp.sup = .expired then .expired else .armed s.rqp.config.window } := by
  obtain ⟨h, hx, ⟨-, b, hb, -⟩, hnone⟩ := of_resumed ho
  obtain ⟨hact, hrqp⟩ : (s.takeResume c).act = ((s.restore c).activateSlot h.slot).act ∧
      (s.takeResume c).rqp = ((s.restore c).activateSlot h.slot).rqp := by
    rw [hx, ← resumeOutcome_restore c] at ho
    simp [takeResume_eq, hx, reactivate_of_resumed ho]
  obtain ⟨-, hsame, -⟩ := restore_frame c s
  rw [← hsame] at hb hnone
  have hacct := activateSlot_acct hb
  have hslot := activateSlot_activeSlot hnone hb
  rw [← hact] at hacct hslot
  refine ⟨h, _, hx, hslot, hacct, rfl, ?_⟩
  rw [hrqp, activateSlot_rqp]
  simp only [restore_rest]

/-- R111: where a condition fails, a Resume leaves the accounts and the supervision. -/
theorem takeResume_unresumed (ho : s.resumeOutcome c.handle ≠ .resumed) :
    (s.takeResume c).act = s.act ∧ (s.takeResume c).rqp = s.rqp := by
  rw [← resumeOutcome_restore c] at ho
  simp [takeResume_eq, reactivate_of_ne ho, restore_rest, restore_frame]

theorem takeResume_queue (c : Context) (s : State) : (s.takeResume c).rqp.queue = s.rqp.queue := by
  by_cases ho : s.resumeOutcome c.handle = .resumed
  · obtain ⟨-, -, -, -, -, -, hrqp⟩ := takeResume_resumed ho
    rw [hrqp]
  · rw [(takeResume_unresumed ho).2]

/-! ### The passes of a Resume -/

theorem settle_activeSlot (s : State) : s.settle.act.activeSlot = s.act.activeSlot :=
  settle_survives (survives_of_pass (fun _ _ act => act.activeSlot = s.act.activeSlot)
    fun u hu => (activeSlot_alike (pass_alike u)).trans hu) rfl

theorem resume_zone_settings (c : Context) (s : State) (i : Fin 6) :
    ((s.takeResume c).settle.zone i).settings = (c.enabled.get i, c.targets.get i, (s.zone i).gain,
      (s.zone i).pMax, (s.zone i).priority, (s.zone i).temp) := by
  rw [settle_zone_settings, takeResume_zone]
  exact write_settings _

/-- R53: a Faulted zone takes its settings and stays Faulted. -/
theorem resume_faulted (hst : (s.zone i).state = .faulted) : ((s.takeResume c).settle.zone i).state = .faulted := by
  have hwritten : ((s.takeResume c).zone i).state = .faulted := by
    rw [takeResume_zone, Zone.restored, write_of_faulted hst]
    exact hst
  rw [settle_zone_of_still (.inr (.inl hwritten)), hwritten]

/-- R62, R110: outside a Sample phase a zone that answers is connected exactly when the bank has it enabled. -/
theorem resume_connected (hclosed : s.sampleOpen = false)
    (hfree : (s.zone i).state = .off ∨ (s.zone i).state.connected = true) :
    ((s.takeResume c).settle.zone i).state.connected = c.enabled.get i := by
  have hzone := takeResume_zone c s i
  have henabled : ((s.takeResume c).zone i).enabled = c.enabled.get i := by
    rw [hzone]
    exact congrArg Prod.fst (write_settings (s.zone i))
  cases hon : c.enabled.get i with
  | true =>
    have hconn : ((s.takeResume c).zone i).state.connected = true := by
      rw [hzone]
      exact (write_of_enabled hclosed hon hfree).1
    exact connected_of_servedAs (settle_zone_of_enabled (henabled.trans hon) hconn) hconn
  | false =>
    have hoff : ((s.takeResume c).zone i).state = .off := by
      rw [hzone]
      exact write_of_disabled hclosed hon hfree
    rw [settle_zone_of_still (.inr (.inr ⟨hoff, henabled.trans hon⟩)), hoff]
    rfl

/-! ### The owners (R109, R112) -/

theorem resumeRefusal_eq (s : State) : resumeRefusal s =
    ⟨.state, be 1 (if s.stu.bank = none then 0 else 1) ++ be 1 s.imon.pos.severity.code ++
      be 1 s.imon.neg.severity.code⟩ := by
  unfold resumeRefusal flagByte
  cases s.stu.bank <;> rfl

theorem poleFaulted_iff : s.poleFaulted = true ↔ s.imon.pos.severity = .fault ∨ s.imon.neg.severity = .fault := by
  simp [State.poleFaulted]

/-- R109: an empty bank, or a pole at confirmed Fault, refuses a Resume. -/
theorem ownResume_refuses (hrefused : s.stu.bank = none ∨ s.imon.pos.severity = .fault ∨
    s.imon.neg.severity = .fault) : ownResume s = (s, resumeRefusal s) := by
  unfold ownResume
  split
  next => rfl
  next hbank => exact if_pos (poleFaulted_iff.2 (hrefused.resolve_left (by rw [hbank]; nofun)))

/-- R110, R111: an accepted Resume runs its passes, and answers what the bank held and what became of the account. -/
theorem ownResume_accepts (hbank : s.stu.bank = some c) (hpos : s.imon.pos.severity ≠ .fault)
    (hneg : s.imon.neg.severity ≠ .fault) : ownResume s = ((s.takeResume c).settle,
      ⟨.ok, be 2 c.epoch ++ be 1 c.cause.code ++ be 1 (s.resumeOutcome c.handle).code ++
        handleBytes c.handle ++ be 1 (if s.stu.overflow = true then 1 else 0)⟩) := by
  unfold ownResume
  rw [hbank]
  exact if_neg fun h => (poleFaulted_iff.1 h).elim hpos hneg

/-- R112: an empty bank refuses a Discard Snapshot. -/
theorem ownDiscardSnapshot_refuses (hbank : s.stu.bank = none) : ownDiscardSnapshot s = (s, ⟨.state, []⟩) := by
  unfold ownDiscardSnapshot
  rw [hbank]
  rfl

theorem ownDiscardSnapshot_accepts (hbank : s.stu.bank = some c) : ownDiscardSnapshot s =
    ({ s with stu := { s.stu with bank := none, overflow := false } },
      ⟨.ok, be 2 c.epoch ++ be 1 c.cause.code ++ be 1 (if s.stu.overflow = true then 1 else 0)⟩) := by
  unfold ownDiscardSnapshot
  rw [hbank]
  rfl

end

/-- Settles O45: the refusals by the owner's first checks; an accepted Resume as what it writes, which its passes
leave; and the discard. -/
theorem resumeRestoresTheContext : Obligations.ResumeRestoresTheContext := by
  intro s
  refine ⟨fun hserves hrefused => ?_, fun c hserves hbank hpos hneg => ?_, fun p hserves => ?_⟩
  · rw [← resumeRefusal_eq]
    exact next_of_serves hserves (ownResume_refuses hrefused)
  · intro stopped
    have hexec : exec .resume s = _ := next_of_serves hserves (ownResume_accepts hbank hpos hneg)
    obtain ⟨hnone, hchanged, hunplugged, hother, hle⟩ := resumeOutcome_code c.handle s
    obtain ⟨halc, hstu, hmtr, htck, hpwc⟩ := takeResume_frame c s
    obtain ⟨hstu', hmtr', htck', hrqp, hpwc', -⟩ := settle_frame (s.takeResume c)
    have hsettings := settle_alc (s.takeResume c)
    simp only [halc, Alloc.settings, Prod.mk.injEq] at hsettings
    obtain ⟨hceiling, hshare, hheat, hmask, -⟩ := hsettings
    have hslot := settle_activeSlot (s.takeResume c)
    have hacct := settle_act (s.takeResume c)
    have hzone := resume_zone_settings c s
    have hfaulted := fun i => resume_faulted (s := s) (c := c) (i := i)
    have hconnected := fun i => resume_connected (s := s) (c := c) (i := i)
    generalize (s.takeResume c).settle = t at *
    refine ⟨_, (s.resumeOutcome c.handle).code, hexec, hnone, hchanged, hunplugged, hother, hle, fun ho => ?_,
      fun ho => ?_, hstu'.trans hstu, fun i => ?_, hceiling, hshare, hheat, hmask, ?_, htck'.trans htck,
      hmtr'.trans hmtr, hpwc'.trans hpwc⟩
    · obtain ⟨h, a, hx, hactive, ha, hreason, hport⟩ := takeResume_resumed (resumeOutcome_code_zero.1 ho)
      have hkept : (t.act.slots.get h.slot).acct.map Account.unstuck = some a.unstuck := by
        rw [(hacct h.slot).2, ha]
        rfl
      obtain ⟨b, hb, -, hsame⟩ := acct_of_unstuck hkept
      exact ⟨h, b, hx, hslot.trans hactive, hb, hsame.trans hreason, (congrArg Port.sup (hrqp.trans hport) :)⟩
    · obtain ⟨hact, hport⟩ := takeResume_unresumed (fun hresumed => ho (resumeOutcome_code_zero.2 hresumed))
      exact ⟨hslot.trans (congrArg Accounts.activeSlot hact), (congrArg Port.sup (hrqp.trans hport) :)⟩
    · have hset := hzone i
      simp only [Zone.settings, Prod.mk.injEq] at hset
      obtain ⟨henabled, htarget, hgain, hpMax, hpriority, -⟩ := hset
      exact ⟨henabled, htarget, hgain, hpMax, hpriority, hconnected i, hfaulted i⟩
    · change answerOldest _ t.rqp.queue = _
      rw [hrqp, takeResume_queue]
  · split
    next hp =>
      subst hp
      split
      next hbank => exact next_of_serves hserves (ownDiscardSnapshot_refuses hbank)
      next hbank => exact next_of_serves hserves (ownDiscardSnapshot_accepts hbank)
    next hp => exact next_of_serves hserves (if_neg fun h => hp (List.length_eq_zero_iff.1 h))

end Sys2Proof.Machine
end

section
/-! Quick readings (R117 to R119): the live phases of a reading, and INL as AC comes and goes (R9): O47. -/

namespace Sys2Proof.Machine

/-! ### The live phases (R118, R119) -/

/-- R119: the RMS voltages of the wired phases that are live. -/
def liveVoltages (three : Bool) (f : FrontEnd) : List Nat :=
  (if three then [f.phase1.volts, f.phase2.volts, f.phase3.volts] else [f.phase1.volts]).filter
    fun v => decide (1800 ≤ v)

/-- R118: of phases that are all wired, those at 1800 and more are live. -/
theorem live_volts_of_wired (l : List PhaseReading) :
    ((l.map (phaseRec true)).filter PhaseRec.live).map PhaseRec.volts =
      (l.map PhaseReading.volts).filter fun v => decide (1800 ≤ v) := by
  simp only [List.filter_map, List.map_map]
  rfl

theorem live_volts (wired : Nat) (f : FrontEnd) :
    ((phaseRecs wired f).items.filter PhaseRec.live).map PhaseRec.volts =
      liveVoltages (decide (wired = 3)) f := by
  by_cases hthree : wired = 3
  · subst hthree
    exact live_volts_of_wired [f.phase1, f.phase2, f.phase3]
  · have hitems : (phaseRecs wired f).items =
        [f.phase1].map (phaseRec true) ++ [PhaseRec.zero, PhaseRec.zero] := by simp [phaseRecs, phaseRec, hthree]
    have hdark : [PhaseRec.zero, PhaseRec.zero].filter PhaseRec.live = [] := rfl
    rw [hitems, List.filter_append, hdark, List.append_nil, live_volts_of_wired, decide_eq_false hthree]
    rfl

theorem liveCount_eq (wired : Nat) (f : FrontEnd) :
    liveCount (phaseRecs wired f) = (liveVoltages (decide (wired = 3)) f).length := by
  rw [← live_volts, List.length_map]
  rfl

theorem lowestLive_eq (wired : Nat) (f : FrontEnd) :
    lowestLive (phaseRecs wired f) = ((liveVoltages (decide (wired = 3)) f).min?).getD 0 := by
  rw [← live_volts]
  unfold lowestLive
  split
  next h => rw [h]; rfl
  next h => rw [h]; rfl

section

variable {s t : State}

/-! ### The reading -/

/-- R117 to R119: MTR after a quick reading. -/
def Meter.reads (wired : Nat) (f : FrontEnd) (m : Meter) : Meter :=
  { m with phases := phaseRecs wired f, n := (liveVoltages (decide (wired = 3)) f).length,
           vph := ((liveVoltages (decide (wired = 3)) f).min?).getD 0, wired := wired }

theorem readPhases_eq (f : FrontEnd) (s : State) :
    s.readPhases f = (s.modMtr (Meter.reads s.rqp.config.wired f)).countChanged s.mtr.n := by
  simp only [State.readPhases, liveCount_eq, lowestLive_eq]
  rfl

theorem readPhases_mtr (f : FrontEnd) (s : State) :
    (s.readPhases f).mtr = s.mtr.reads s.rqp.config.wired f := by
  simp [readPhases_eq]

theorem blocksRun_of_meterRuns (h : s.meterRuns = true) : s.blocksRun = true := by
  unfold State.meterRuns at h
  unfold State.blocksRun
  cases hst : s.pwc.state <;> simp [hst] at h ⊢
  exact h

theorem exec_quickReading (hruns : s.meterRuns = true) (f : FrontEnd) :
    exec (.quickReading f) s = .next (s.readPhases f).settle := congrArg _ (if_pos hruns)

/-! ### A new count (R9, R119) -/

theorem countChanged_of_same {n : Nat} (h : s.mtr.n = n) : s.countChanged n = s := if_pos h

theorem countChanged_of_appears (h : 0 < s.mtr.n) : s.countChanged 0 = s.trigger.acAppears := by
  unfold State.countChanged
  rw [if_neg (Nat.pos_iff_ne_zero.1 h)]
  rfl

theorem countChanged_of_gone {n : Nat} (hn : 0 < n) (h : s.mtr.n = 0) :
    s.countChanged n = s.trigger.acGone := by
  unfold State.countChanged
  rw [if_neg (by omega)]
  exact (if_neg (Nat.pos_iff_ne_zero.1 hn)).trans (if_pos h)

/-- R9: the state that INL goes on to when AC goes. -/
def Inlet.withoutAc (i : Inlet) : InletState :=
  match i.state with
  | .drawing => .ready
  | .pausing => if i.offerValid then .offered else .plugged
  | .unplugged | .plugged | .offered | .ready | .faulted => i.state

theorem acGone_state (s : State) : s.acGone.inl.state = s.inl.withoutAc := by
  cases hst : s.inl.state
  all_goals simp only [State.acGone, Inlet.withoutAc, hst, enterInlet_inl, State.setInlet, modInl_inl]

theorem acAppears_state (h : s.inl.state = .ready) : s.acAppears.inl.state = .drawing := by
  simp only [State.acAppears, h]
  rfl

/-- R9: AC that appears brings Ready to Drawing, and the passes of the event leave it there. -/
theorem settle_of_appears (h0 : s.mtr.n = 0) {f : FrontEnd} (hlive : 0 < (s.readPhases f).mtr.n)
    (hst : s.inl.state = .ready) : (s.readPhases f).settle.inl.state = .drawing := by
  rw [readPhases_mtr] at hlive
  have hdraws : (s.readPhases f).inl.state = .drawing := by
    rw [readPhases_eq, h0, countChanged_of_appears hlive]
    exact acAppears_state hst
  rw [settle_state_of_steady (by rw [hdraws]; rfl), hdraws]

theorem readPhases_of_gone (hn : 0 < s.mtr.n) {f : FrontEnd} (h0 : (s.readPhases f).mtr.n = 0) :
    (s.readPhases f).inl.state = s.inl.withoutAc := by
  rw [readPhases_mtr] at h0
  rw [readPhases_eq, countChanged_of_gone hn h0]
  exact acGone_state _

/-! ### The enable decision without AC (R8) -/

/-- INL stands in Offered or Ready, without AC. -/
def State.Waits (s : State) : Prop := s.mtr.n = 0 ∧ (s.inl.state = .offered ∨ s.inl.state = .ready)

/-- R8: without AC a pass leaves INL Ready where it grants, and Offered elsewhere. -/
theorem pass_of_waits (h : s.Waits) :
    s.pass.inl.state = if 0 < s.pass.alc.grid.grant then .ready else .offered := by
  obtain ⟨h0, hst⟩ := h
  have hrecord := pass_record s
  simp only [Alloc.record, Prod.mk.injEq] at hrecord
  obtain ⟨-, hgrid, -⟩ := hrecord
  rw [pass_state, hgrid, h0]
  rcases hst with hst | hst <;> rw [hst] <;> rfl

theorem survives_waits : Survives State.Waits where
  pass t h := by
    refine ⟨by simpa using h.1, ?_⟩
    rw [pass_of_waits h]
    split
    · exact .inr rfl
    · exact .inl rfl
  inLine t h := by simpa [State.Waits] using h
  work _ _ h := h
  choice _ h := h
  unheld _ h := h
  restart _ _ h := h

theorem settle_of_waits (h : s.Waits) (hopen : s.sampleOpen = false) (htrigger : s.work.trigger = true)
    (hruns : s.blocksRun = true) : s.settle.inl.state = .ready ↔ 0 < s.settle.alc.grid.grant :=
  settle_closed (P := State.Waits) (Q := fun t => t.inl.state = .ready ↔ 0 < t.alc.grid.grant)
    (fun t _ ht => ⟨survives_waits.pass t ht, by
      rw [pass_of_waits ht]
      split <;> simp [*]⟩)
    (fun _ _ ht => ht) (fun _ _ ht => ht) h hopen htrigger hruns

end

/-- Settles O47: MTR's record, then INL's answer to a count that leaves or reaches 0. -/
theorem quickReadingCountsTheLivePhases : Obligations.QuickReadingCountsTheLivePhases := by
  intro s f
  refine ⟨fun hruns => congrArg _ (if_neg (by rw [hruns]; exact Bool.false_ne_true)), fun hruns => ?_⟩
  intro wired three live
  obtain ⟨hstu, hmtr, htck, hrqp, hpwc, -⟩ := settle_frame (s.readPhases f)
  rw [readPhases_mtr] at hmtr
  simp only [readPhases_frame] at hstu htck hrqp hpwc
  have hruns' : (s.readPhases f).blocksRun = true :=
    (runs_congr (by simp)).1.trans (blocksRun_of_meterRuns hruns)
  have hn : (s.readPhases f).mtr.n = live.length := congrArg Meter.n (readPhases_mtr f s)
  have htrigger : live.length ≠ s.mtr.n → (s.readPhases f).work.trigger = true := fun h => by
    rw [readPhases_eq]
    exact countChanged_trigger h
  have hgone : 0 < s.mtr.n → live.length = 0 → (s.readPhases f).inl.state = s.inl.withoutAc := fun hpos h0 =>
    readPhases_of_gone hpos (hn.trans h0)
  have hwaits : 0 < s.mtr.n → live.length = 0 →
      s.inl.state = .drawing ∨ (s.inl.state = .pausing ∧ s.inl.offerValid = true) →
      (s.readPhases f).Waits := fun hpos h0 hst => by
    refine ⟨hn.trans h0, ?_⟩
    rw [hgone hpos h0]
    rcases hst with hst | ⟨hst, hvalid⟩
    · exact .inr (by rw [Inlet.withoutAc, hst])
    · exact .inl (by rw [Inlet.withoutAc, hst]; exact if_pos hvalid)
  have hkept := fun hpos h0 hst => (settle_survives survives_waits (hwaits hpos h0 hst)).2
  refine ⟨_, exec_quickReading hruns f, ?_, ?_, ?_, ?_, ?_, ?_, fun hsame hwork => ?_, fun hnew => ?_,
    fun h0 hpos hst => settle_of_appears h0 (by rwa [hn]) hst,
    fun hpos h0 hst => (hkept hpos h0 (.inl hst)).symm, fun hpos h0 hst hoffer => ?_,
    fun hpos h0 hst hvalid => hkept hpos h0 (.inr ⟨hst, hvalid⟩), fun hpos h0 hopen hst => ?_,
    hrqp, htck, hstu, hpwc⟩
  · rw [hmtr]; rfl
  · rw [hmtr]; rfl
  · rw [hmtr]; rfl
  · rw [hmtr]; rfl
  · rw [hmtr]; rfl
  · rw [hmtr]; rfl
  · have hidle : s.readPhases f = s.modMtr (Meter.reads s.rqp.config.wired f) :=
      (readPhases_eq f s).trans (countChanged_of_same hsame)
    rw [hidle, settle_idle (by exact hwork)]
    rfl
  · exact (settle_recorded (htrigger hnew) hruns').n.trans hn
  · have hplugged : (s.readPhases f).inl.state = .plugged := by
      rw [hgone hpos h0, Inlet.withoutAc, hst]
      exact if_neg (by rw [hoffer]; exact Bool.false_ne_true)
    rw [settle_state_of_steady (by rw [hplugged]; rfl), hplugged]
  · refine settle_of_waits (hwaits hpos h0 hst) ?_ (htrigger (by omega)) hruns'
    exact (sampleOpen_congr (by simp)).trans hopen

end Sys2Proof.Machine
end

section
/-! What a register and an account take of a delivery (R126, R159 to R164). -/

namespace Sys2Proof.Machine

/-! ### Registers (R126, R159) -/

section

variable {wh joules add : Nat}

/-- R159, R160: whole Wh carried out of a residue. -/
theorem whole_of_residue (wh j : Nat) : (wh + j / 3600) * 3600 + j % 3600 = wh * 3600 + j := by omega

/-- R126, R159: the carry that reaches the maximum is the last. -/
theorem carryInto_of_full (hroom : wh < 99999999) (hfull : 99999999 * 3600 ≤ wh * 3600 + joules + add) :
    carryInto wh joules add = ⟨99999999, 0, 99999999 - wh, true⟩ :=
  if_pos (by simp only [Config.joulesPerWh, Config.maxWh]; omega)

theorem carryInto_of_room (hroom : ¬ 99999999 * 3600 ≤ wh * 3600 + joules + add) :
    carryInto wh joules add =
      ⟨wh + (joules + add) / 3600, (joules + add) % 3600, (joules + add) / 3600, false⟩ :=
  if_neg (by simp only [Config.joulesPerWh, Config.maxWh]; omega)

/-- R126, R159: a register below its maximum holds what it is given, up to the maximum. -/
theorem carryInto_holds (h : wh < 99999999) : (carryInto wh joules add).wh * 3600 + (carryInto wh joules add).joules =
    min (99999999 * 3600) (wh * 3600 + joules + add) ∧ (carryInto wh joules add).joules < 3600 := by
  by_cases hfull : 99999999 * 3600 ≤ wh * 3600 + joules + add
  · rw [carryInto_of_full h hfull]
    dsimp only
    omega
  · rw [carryInto_of_room hfull]
    dsimp only
    omega

theorem carryInto_saturates (h : wh < 99999999) :
    (carryInto wh joules add).saturates = true ↔ 99999999 * 3600 ≤ wh * 3600 + joules + add := by
  by_cases hfull : 99999999 * 3600 ≤ wh * 3600 + joules + add
  · rw [carryInto_of_full h hfull]
    exact iff_of_true rfl hfull
  · rw [carryInto_of_room hfull]
    exact iff_of_false Bool.false_ne_true hfull

theorem carryInto_carried (h : wh < 99999999) : (carryInto wh joules add).carried =
    if 99999999 * 3600 ≤ wh * 3600 + joules + add then 99999999 - wh else (joules + add) / 3600 := by
  split
  next hfull => rw [carryInto_of_full h hfull]
  next hroom => rw [carryInto_of_room hroom]

end

/-- R126: a delivery to the Unbilled register touches nothing else of MTR. -/
theorem addUnbilled_eq (j : Nat) (m : Meter) : m.addUnbilled j =
    { m with unbilledWh := (m.addUnbilled j).unbilledWh, unbilledJ := (m.addUnbilled j).unbilledJ } := by
  unfold Meter.addUnbilled
  split <;> rfl

theorem addUnbilled_of_full {m : Meter} (h : 99999999 ≤ m.unbilledWh) (j : Nat) : m.addUnbilled j = m := if_pos h

theorem addUnbilled_holds {m : Meter} (h : m.unbilledWh < 99999999) (j : Nat) :
    (m.addUnbilled j).unbilledWh * 3600 + (m.addUnbilled j).unbilledJ =
      min (99999999 * 3600) (m.unbilledWh * 3600 + m.unbilledJ + j) ∧ (m.addUnbilled j).unbilledJ < 3600 := by
  rw [show m.addUnbilled j = _ from if_neg (Nat.not_le.2 h)]
  exact carryInto_holds h

/-! ### An account's delivery (R159 to R164) -/

section

variable {total heat price fee grace : Nat} {idle : Bool} {a : Account}

/-- R162: one tick's idle count, register by register. -/
theorem takeIdle_eq (idle : Bool) (fee grace : Nat) (a : Account) : a.takeIdle idle fee grace =
    let counts := idle = true ∧ a.hasDrawn = true
    let minute := counts ∧ 59 ≤ a.idleSec
    let due := minute ∧ grace ≤ a.graceUsed
    { a with
      idleSec := if minute then 0 else if counts then a.idleSec + 1 else a.idleSec,
      graceUsed := if minute ∧ a.graceUsed < grace then a.graceUsed + 1 else a.graceUsed,
      costIdle := if due then min 999999999999 (a.costIdle + fee) else a.costIdle,
      idleMin := if due then min 65535 (a.idleMin + 1) else a.idleMin,
      satIdle := a.satIdle || decide (due ∧ 999999999999 < a.costIdle + fee) } := by
  unfold Account.takeIdle Account.idleMinute
  by_cases hcounts : idle = true ∧ a.hasDrawn = true
  · by_cases hminute : 59 ≤ a.idleSec
    · by_cases hgrace : a.graceUsed < grace
      · simp [hcounts, hminute, hgrace, Nat.not_le.2 hgrace]
      · simp only [hcounts, hminute, hgrace, Nat.not_lt.1 hgrace, Nat.succ_le_succ hminute, Bool.and_self, and_self,
          and_false, true_and, if_true, if_false]
        rfl
    · simp [hcounts, hminute]
  · have hoff : (idle && a.hasDrawn) = false := by simpa using hcounts
    simp [hoff, hcounts]

/-- R159 to R163: a delivery to an account whose total is not saturated, in its order. -/
theorem deliver_of_room (h : a.satTotal = false) : a.deliver total heat price fee grace idle =
    ((((a.takeEnergy total heat).takePrice (a.carried total) price).takeIdle idle fee grace).evalCaps) :=
  if_neg (by rw [h]; exact Bool.false_ne_true)

theorem deliver_of_saturated (h : a.satTotal = true) : a.deliver total heat price fee grace idle = a := if_pos h

/-- R159, R160: the energy that an account below its maximum takes. -/
structure Account.TakesEnergy (total heat : Nat) (a b : Account) : Prop where
  holds    : b.totalWh * 3600 + b.totalJ = min (99999999 * 3600) (a.totalWh * 3600 + a.totalJ + total)
  shares   : b.heatWh * 3600 + b.heatJ = a.heatWh * 3600 + a.heatJ +
    if 99999999 * 3600 ≤ a.totalWh * 3600 + a.totalJ + total then
      min heat (min (99999999 * 3600) (a.totalWh * 3600 + a.totalJ + total) - (a.totalWh * 3600 + a.totalJ))
    else heat
  totalJ   : b.totalJ < 3600
  heatJ    : b.heatJ < 3600
  hasDrawn : b.hasDrawn = (a.hasDrawn || decide (0 < total))
  satTotal : b.satTotal = true ↔ 99999999 * 3600 ≤ a.totalWh * 3600 + a.totalJ + total

theorem takeEnergy_takes (h : a.satTotal = false) (hroom : a.totalWh < 99999999) :
    a.TakesEnergy total heat (a.takeEnergy total heat) := by
  obtain ⟨hholds, hjoules⟩ := carryInto_holds (joules := a.totalJ) (add := total) hroom
  have hsat := carryInto_saturates (joules := a.totalJ) (add := total) hroom
  constructor
  case holds =>
    simp only [Account.takeEnergy]
    exact hholds
  case shares =>
    refine (whole_of_residue _ _).trans ?_
    rw [← Nat.add_assoc]
    exact congrArg _ (if_congr hsat (congrArg (fun kept => min heat (kept - _)) hholds) rfl)
  case totalJ => exact hjoules
  case heatJ => exact Nat.mod_lt _ (by decide)
  case hasDrawn => rfl
  case satTotal =>
    simp only [Account.takeEnergy, h, Bool.false_or]
    exact hsat

/-- What the later steps of a delivery leave of the energy taken. -/
theorem deliver_takes (h : a.satTotal = false) (hroom : a.totalWh < 99999999) :
    a.TakesEnergy total heat (a.deliver total heat price fee grace idle) := by
  obtain ⟨htotal, hheat, htotalJ, hheatJ, hdrawn, hsat⟩ := takeEnergy_takes (total := total) (heat := heat) h hroom
  rw [deliver_of_room h, takeIdle_eq]
  exact ⟨htotal, hheat, htotalJ, hheatJ, hdrawn, hsat⟩

/-- R161: the carried Wh priced. -/
theorem deliver_price (h : a.satTotal = false) :
    (a.deliver total heat price fee grace idle).costEnergy =
      min 999999999999 (a.costEnergy + a.carried total * price) ∧
    ((a.deliver total heat price fee grace idle).satEnergy = true ↔
      a.satEnergy = true ∨ 999999999999 < a.costEnergy + a.carried total * price) := by
  rw [deliver_of_room h, takeIdle_eq]
  refine ⟨rfl, ?_⟩
  simp only [Account.evalCaps, Account.takePrice, Bool.or_eq_true, decide_eq_true_eq]
  exact .rfl

/-- R162: what a delivery makes of the idle count, where the tick counts as idle exactly when `counts`. -/
structure Account.TakesIdle (counts : Prop) [Decidable counts] (fee grace : Nat) (a b : Account) : Prop where
  costIdle  : b.costIdle =
    if (counts ∧ 59 ≤ a.idleSec) ∧ grace ≤ a.graceUsed then min 999999999999 (a.costIdle + fee) else a.costIdle
  idleMin   : b.idleMin =
    if (counts ∧ 59 ≤ a.idleSec) ∧ grace ≤ a.graceUsed then min 65535 (a.idleMin + 1) else a.idleMin
  graceUsed : b.graceUsed =
    if (counts ∧ 59 ≤ a.idleSec) ∧ a.graceUsed < grace then a.graceUsed + 1 else a.graceUsed
  idleSec   : b.idleSec =
    if counts ∧ 59 ≤ a.idleSec then 0 else if counts then a.idleSec + 1 else a.idleSec
  satIdle   : b.satIdle = true ↔ a.satIdle = true ∨
    (((counts ∧ 59 ≤ a.idleSec) ∧ grace ≤ a.graceUsed) ∧ 999999999999 < a.costIdle + fee)

theorem deliver_idle (h : a.satTotal = false) {counts : Prop} [Decidable counts]
    (hcounts : counts ↔ (a.hasDrawn || decide (0 < total)) = true ∧ idle = true) :
    a.TakesIdle counts fee grace (a.deliver total heat price fee grace idle) := by
  have hiff : (idle = true ∧ ((a.takeEnergy total heat).takePrice (a.carried total) price).hasDrawn = true) ↔
      counts := and_comm.trans hcounts.symm
  rw [deliver_of_room h, takeIdle_eq]
  constructor
  case satIdle =>
    simp only [Account.evalCaps, Bool.or_eq_true, decide_eq_true_eq, hiff]
    exact .rfl
  all_goals
    simp only [Account.evalCaps, hiff]
    rfl

/-- R163: CapReached by the caps and the registers. -/
theorem evalCaps_iff (a : Account) : a.evalCaps.capReached = true ↔
    (∃ c, a.energyCap = some c ∧ c ≤ a.totalWh) ∨
    (∃ c, a.costCap = some c ∧ c ≤ a.costEnergy + a.costIdle) := by
  unfold Account.evalCaps Account.capMet
  cases a.energyCap <;> cases a.costCap <;> simp

theorem deliver_caps (h : a.satTotal = false) :
    (a.deliver total heat price fee grace idle).capReached = true ↔
      (∃ c, a.energyCap = some c ∧ c ≤ (a.deliver total heat price fee grace idle).totalWh) ∨
      (∃ c, a.costCap = some c ∧ c ≤ (a.deliver total heat price fee grace idle).costEnergy +
        (a.deliver total heat price fee grace idle).costIdle) := by
  rw [deliver_of_room h, evalCaps_iff, takeIdle_eq]
  rfl

end

end Sys2Proof.Machine
end

section
/-! An interval crossing (R137 to R140, R166): the tariffs that switch, slot by slot, and TARIFF. -/

namespace Sys2Proof.Machine

/-! ### One account (R139) -/

/-- R139: an account after a crossing; it switches unless it is Closed. -/
def Account.switched (a : Account) : Account :=
  if a.state ≠ .closed then { a with tariff := a.pending.getD a.tariff, pending := none } else a

/-- R139: a slot after a crossing. -/
def Slot.switched (sl : Slot) : Slot := { sl with acct := sl.acct.map Account.switched }

/-- R139: the tariff that a crossing brings to the account of a slot, if it switches. -/
def Slot.due (sl : Slot) : Option (Fin 8) := sl.acct.bind fun a => if a.state ≠ .closed then a.pending else none

theorem due_iff {sl : Slot} {b : Fin 8} : sl.due = some b ↔
    ∃ a, sl.acct = some a ∧ a.state ≠ .closed ∧ a.pending = some b := by
  simp [Slot.due, Option.bind_eq_some_iff]

theorem switches_iff (st : AcctState) : st.switches = true ↔ st ≠ .closed := by
  cases st <;> simp [AcctState.switches]

@[simp] theorem switched_standing (a : Account) : a.switched.state = a.state := by
  unfold Account.switched
  split <;> rfl

theorem switched_of_not_due {a : Account} (h : a.state ≠ .closed → a.pending = none) : a.switched = a := by
  unfold Account.switched
  split
  next hopen =>
    obtain ⟨state, token, tariff, pending, _⟩ := a
    cases h hopen
    rfl
  next => rfl

theorem slot_switched_of_none {sl : Slot} (h : sl.due = none) : sl.switched = sl := by
  obtain ⟨gen, acct⟩ := sl
  cases acct with
  | none => rfl
  | some a =>
    have hpending : a.state ≠ .closed → a.pending = none := fun hopen => by simpa [Slot.due, hopen] using h
    simp [Slot.switched, switched_of_not_due hpending]

/-- A second crossing finds nothing to switch. -/
theorem switched_due (sl : Slot) : sl.switched.due = none := by
  obtain ⟨gen, acct⟩ := sl
  cases acct with
  | none => rfl
  | some a =>
    by_cases hopen : a.state ≠ .closed <;> simp [Slot.switched, Slot.due, Account.switched, hopen]

/-- A crossing leaves which slot is Active. -/
theorem switched_isActive (sl : Slot) : sl.switched.isActive = sl.isActive := by
  obtain ⟨gen, acct⟩ := sl
  cases acct <;> simp [Slot.switched, Slot.isActive]

section

variable {s : State} {i j : Fin 16} {b : Fin 8}

/-! ### One slot (R138, R139) -/

theorem switchSlot_of_none (h : (s.act.slots.get i).due = none) : s.switchSlot i = s := by
  unfold State.switchSlot
  cases ha : (s.act.slots.get i).acct with
  | none => rfl
  | some a =>
    cases hb : a.pending with
    | none => simp only [hb]
    | some c =>
      have hclosed : a.state.switches = false := Bool.eq_false_iff.2 fun hopen => by
        have hdue := due_iff.2 ⟨a, ha, (switches_iff _).1 hopen, hb⟩
        rw [h] at hdue
        cases hdue
      simp only [hb, hclosed, Bool.false_eq_true, if_false]

/-- R138, R139: a switch moves the account's tariff and its reference, and raises TARIFF. -/
theorem switchSlot_of_due {a : Account} (ha : (s.act.slots.get i).acct = some a) (hopen : a.state ≠ .closed)
    (hb : a.pending = some b) : s.switchSlot i =
    ((s.modAccount i fun x => { x with tariff := b, pending := none }).releaseRef a.tariff).raise
      .tariff (.tariff (s.act.handle i) b) := by
  have hswitches := (switches_iff _).2 hopen
  simp only [State.switchSlot, ha, hb, hswitches, if_true]

theorem switchSlot_slot (s : State) (i j : Fin 16) : (s.switchSlot i).act.slots.get j =
    if j = i then (s.act.slots.get j).switched else s.act.slots.get j := by
  cases hdue : (s.act.slots.get i).due with
  | none =>
    rw [switchSlot_of_none hdue]
    split
    next h => rw [h, slot_switched_of_none hdue]
    next => rfl
  | some b =>
    obtain ⟨a, ha, hopen, hb⟩ := due_iff.1 hdue
    rw [switchSlot_of_due ha hopen hb]
    simp only [raise_frame, State.releaseRef, modTariff_frame, State.modAccount, modAct_act, Table.get_modify]
    split
    next h =>
      subst h
      simp [Slot.switched, Account.switched, ha, hopen, hb]
    next => rfl

theorem switchSlot_tariffSource (h : (s.act.slots.get i).due = some b) :
    (s.switchSlot i).atn.sources.get 9 = { s.atn.sources.get 9 with
      flag := true, detail := some (.tariff (s.act.handle i) b) } := by
  obtain ⟨a, ha, hopen, hb⟩ := due_iff.1 h
  rw [switchSlot_of_due ha hopen hb]
  exact raise_self .tariff _ _

theorem switchSlot_other_source {k : Fin 11} (hk : k ≠ 9) (s : State) (i : Fin 16) :
    (s.switchSlot i).atn.sources.get k = s.atn.sources.get k := by
  cases hdue : (s.act.slots.get i).due with
  | none => rw [switchSlot_of_none hdue]
  | some b =>
    obtain ⟨a, ha, hopen, hb⟩ := due_iff.1 hdue
    rw [switchSlot_of_due ha hopen hb]
    exact raise_other .tariff _ _ hk

/-! ### The slots in turn (R139, R166) -/

theorem switchSlots_slot (l : List (Fin 16)) (s : State) (j : Fin 16) :
    (l.foldl State.switchSlot s).act.slots.get j =
      if j ∈ l then (s.act.slots.get j).switched else s.act.slots.get j := by
  induction l generalizing s with
  | nil => simp
  | cons i rest ih =>
    rw [List.foldl_cons, ih, switchSlot_slot]
    by_cases hji : j = i
    · subst hji
      simp [slot_switched_of_none (switched_due _)]
    · simp [hji]

theorem switchSlots_of_none {l : List (Fin 16)} (h : ∀ k ∈ l, (s.act.slots.get k).due = none) :
    l.foldl State.switchSlot s = s := by
  induction l with
  | nil => rfl
  | cons i rest ih =>
    rw [List.foldl_cons, switchSlot_of_none (h i (by simp))]
    exact ih fun k hk => h k (by simp [hk])

theorem switchSlots_other_source {k : Fin 11} (hk : k ≠ 9) (l : List (Fin 16)) (s : State) :
    (l.foldl State.switchSlot s).atn.sources.get k = s.atn.sources.get k := by
  induction l generalizing s with
  | nil => rfl
  | cons i rest ih => rw [List.foldl_cons, ih, switchSlot_other_source hk]

/-- R139, R140: the slots are taken in ascending order, so the detail of the highest that switches stands. -/
theorem switchSlots_tariffSource {l : List (Fin 16)} (horder : l.Pairwise (· < ·)) (hi : i ∈ l)
    (hdue : (s.act.slots.get i).due = some b) (hlast : ∀ j ∈ l, i < j → (s.act.slots.get j).due = none) :
    ((l.foldl State.switchSlot s).atn.sources.get 9).flag = true ∧
    ((l.foldl State.switchSlot s).atn.sources.get 9).detail = some (.tariff (s.act.handle i) b) := by
  induction l generalizing s with
  | nil => cases hi
  | cons k rest ih =>
    obtain ⟨hfirst, horder'⟩ := List.pairwise_cons.1 horder
    have hother : ∀ j, j ≠ k → (s.switchSlot k).act.slots.get j = s.act.slots.get j := fun j hj => by
      rw [switchSlot_slot, if_neg hj]
    have hlast' : ∀ j ∈ rest, i < j → ((s.switchSlot k).act.slots.get j).due = none := fun j hj hij => by
      rw [hother j (hfirst j hj).ne']
      exact hlast j (by simp [hj]) hij
    rw [List.foldl_cons]
    rcases List.mem_cons.1 hi with rfl | hi
    · rw [switchSlots_of_none fun j hj => hlast' j hj (hfirst j hj), switchSlot_tariffSource hdue]
      exact ⟨rfl, rfl⟩
    · have hself := hother i (hfirst i hi).ne'
      have hrest := ih (s := s.switchSlot k) horder' hi (by rw [hself]; exact hdue) hlast'
      rwa [show (s.switchSlot k).act.handle i = s.act.handle i from by rw [Accounts.handle, hself]; rfl] at hrest

/-! ### The crossing -/

/-- R123, R139: what a tick does at its start where it crosses an interval. -/
def State.crossed (crossing : Bool) (s : State) : State := if crossing then s.switchTariffs else s

theorem crossed_true (s : State) : s.crossed true = (fins 16).foldl State.switchSlot s := if_pos rfl

theorem crossed_slot (crossing : Bool) (s : State) (j : Fin 16) : (s.crossed crossing).act.slots.get j =
    if crossing then (s.act.slots.get j).switched else s.act.slots.get j := by
  cases crossing with
  | false => rfl
  | true => rw [crossed_true, switchSlots_slot, if_pos (mem_fins j), if_pos rfl]

/-- R139: the account of a slot after a tick's crossing. -/
theorem crossed_acct {a : Account} (ha : (s.act.slots.get j).acct = some a) (crossing : Bool) :
    ((s.crossed crossing).act.slots.get j).acct = some (if crossing = true ∧ a.state ≠ .closed then
      { a with tariff := a.pending.getD a.tariff, pending := none } else a) := by
  rw [crossed_slot]
  cases crossing <;> simp [Slot.switched, Account.switched, ha]

@[simp] theorem crossed_gen (crossing : Bool) (s : State) (j : Fin 16) :
    ((s.crossed crossing).act.slots.get j).gen = (s.act.slots.get j).gen := by
  rw [crossed_slot]
  split <;> rfl

@[simp] theorem crossed_activeSlot (crossing : Bool) (s : State) :
    (s.crossed crossing).act.activeSlot = s.act.activeSlot :=
  find_congr fun j => by
    rw [crossed_slot]
    split
    · exact switched_isActive _
    · rfl

@[simp] theorem crossed_frame (crossing : Bool) (s : State) :
    (s.crossed crossing).inl = s.inl ∧
    (s.crossed crossing).alc = s.alc ∧
    (s.crossed crossing).hzc = s.hzc ∧
    (s.crossed crossing).mtr = s.mtr ∧
    (s.crossed crossing).work = s.work := by
  unfold State.crossed
  split <;> simp

theorem crossed_stands (crossing : Bool) : s.Stands (s.crossed crossing) := by
  unfold State.crossed
  split
  · exact switchTariffs_stands
  · exact .refl s

theorem crossed_other_source {k : Fin 11} (hk : k ≠ 9) (crossing : Bool) (s : State) :
    (s.crossed crossing).atn.sources.get k = s.atn.sources.get k := by
  cases crossing with
  | false => rfl
  | true => rw [crossed_true, switchSlots_other_source hk]

theorem crossed_tariffSource (hdue : (s.act.slots.get i).due = some b)
    (hlast : ∀ j, i < j → (s.act.slots.get j).due = none) :
    ((s.crossed true).atn.sources.get 9).flag = true ∧
    ((s.crossed true).atn.sources.get 9).detail = some (.tariff (s.act.handle i) b) := by
  rw [crossed_true]
  exact switchSlots_tariffSource (fins_pairwise 16) (mem_fins i) hdue fun j _ => hlast j

theorem crossed_of_none {crossing : Bool} (h : crossing = false ∨ ∀ j, (s.act.slots.get j).due = none) :
    s.crossed crossing = s := by
  rcases h with rfl | h
  · rfl
  · cases crossing with
    | false => rfl
    | true => rw [crossed_true, switchSlots_of_none fun j _ => h j]

end

end Sys2Proof.Machine
end

section
/-! The safety pass of an account that may not be charged (R24, R34, R73, R163, R164): what its event puts in force. -/

namespace Sys2Proof.Machine

section

variable {s t : State}

/-! ### A discard takes back no trigger (R52, R73) -/

theorem drive_outOfLine (g : Nat) (z : Zone) : (z.drive g).outOfLine = z.outOfLine := by
  unfold Zone.drive
  split
  next hst => by_cases hg : 0 < g <;> simp [Zone.outOfLine, hst, hg]
  next hst => simp [Zone.outOfLine, hst]
  next hst => simp [Zone.outOfLine, hst]
  all_goals rfl

theorem pass_anyOutOfLine (s : State) : s.pass.anyOutOfLine = s.anyOutOfLine := by
  refine congrArg (fins 6).any (funext fun i => ?_)
  rw [pass_zone]
  split
  · rfl
  · exact drive_outOfLine _ _

theorem zonesInLine_of_out (h : s.anyOutOfLine = true) : s.zonesInLine.work.trigger = true := by
  unfold State.zonesInLine
  rw [if_pos h]
  rfl

/-- R52: the zones that come in line after a fresh pass trigger again. -/
theorem windowEnd_keeps_trigger (htrigger : s.work.trigger = true) : s.windowEnd.work.trigger = true := by
  simp only [State.windowEnd]
  split
  · split
    next hout =>
      simp only [Bool.and_eq_true] at hout
      split
      · refine zonesInLine_of_out ((pass_anyOutOfLine _).trans ?_)
        exact hout.1
      · exact zonesInLine_trigger rfl
    · exact zonesInLine_trigger rfl
  · exact zonesInLine_trigger htrigger

theorem takeReports_keeps_trigger (htrigger : s.work.trigger = true) : s.takeReports.work.trigger = true := by
  unfold State.takeReports State.discardSample
  (repeat' split)
  · exact windowEnd_keeps_trigger htrigger
  · exact htrigger
  · exact htrigger

/-- R73: a report in a Sample phase restarts the measurement and leaves no pass held. -/
theorem takeReports_of_report (hreport : s.work.opening = true ∨ s.work.changed = true)
    (hopen : s.sampleOpen = true) :
    s.takeReports.imon = s.imon.discarded ∧ s.takeReports.alc.held = false := by
  have hreported : (s.work.opening || s.work.changed) = true := by simpa using hreport
  unfold State.takeReports State.discardSample
  rw [if_pos hreported, if_pos (by exact hopen)]
  exact ⟨by simp [Insulation.discarded], windowEnd_held (sampleOpen_of_discarded (s := s) rfl)⟩

/-- Once the reports are taken up outside a Sample phase, the passes leave the measurement. -/
theorem settle_imon_of_taken (hopen : s.takeReports.sampleOpen = false) : s.settle.imon = s.takeReports.imon := by
  rw [settle_eq]
  split
  · rw [passes_imon_of_closed 31 ((sampleOpen_congr (by simp)).trans hopen)]
    simp
  · rfl

theorem takeReports_safety (hopen : s.sampleOpen = false) : s.takeReports.work.safety = s.work.safety := by
  unfold State.takeReports State.discardSample
  split
  · rw [if_neg (by rw [modWork_sampleOpen, hopen]; exact Bool.false_ne_true)]
    rfl
  · rfl

/-! ### Figures put in force (R32, R34) -/

/-- Inside the event of `s` the figures of the last pass are in force, and no pass is held. -/
structure State.Applied (s t : State) : Prop where
  fed   : t.fed = s.fed
  force : s.InForce t.alc
  held  : t.alc.held = false

theorem pass_applied (hfed : t.fed = s.fed) (happlied : t.passHeld = false)
    (hheld : t.passSafety = true ∨ t.alc.held = false) : s.Applied t.pass := by
  refine ⟨(fed_survives s).pass t hfed, pass_inForce hfed happlied, ?_⟩
  rw [pass_alc_eq, happlied]
  rcases hheld with h | h <;> simp [h]

theorem passes_applied (n : Nat) (hopen : t.sampleOpen = false) (h : s.Applied t) :
    s.Applied (State.passes n t) :=
  passes_closed (P := s.Applied)
    (fun _ hclosed hu => pass_applied hu.fed (passHeld_of_closed hclosed) (.inr hu.held))
    (fun _ _ hu => ⟨hu.fed, hu.force, hu.held⟩) n hopen h

/-- R34: a pass triggered as a safety pass is one. -/
theorem passSafety_of_trigger (h : s.work.safety = true) : s.passSafety = true := by
  simp [State.passSafety, PassInputs.isSafety, h]

/-- What is in force once the first pass has run outside a Sample phase. -/
theorem settle_applied_of_closed (htrigger : s.work.trigger = true) (hruns : s.blocksRun = true)
    (hopen : s.takeReports.sampleOpen = false)
    (hheld : s.takeReports.passSafety = true ∨ s.takeReports.alc.held = false) : s.Applied s.settle := by
  have hfed : s.takeReports.fed = s.fed := takeReports_survives (fed_survives s) rfl
  have hruns' : s.takeReports.blocksRun = true := (runs_congr (by simp)).1.trans hruns
  rw [settle_eq, takeReports_keeps_trigger htrigger, hruns']
  exact passes_applied 31 ((sampleOpen_congr (by simp)).trans hopen)
    (pass_applied hfed (passHeld_of_closed hopen) hheld)

/-! ### An account that may not be charged (R24) -/

/-- R24: a gated pass grants nothing from the grid. -/
theorem grant_of_gated (h : s.passInputs.gated = true) : s.passGrid.grant = 0 := by
  have hpDc : s.passInputs.pDc s.rqp.config.wired = 0 := if_pos h
  have hle : s.passGrid.bGrant + s.passGrid.hGrant = 0 := by
    simp only [State.passGrid, PassInputs.grid, hpDc, heatGuarantee, batteryGrant, heatGrant]
    omega
  exact hle

theorem gated_of_asksAlike {x y : PassInputs} (h : x.AsksAlike y) : y.gated = x.gated := by
  rw [h.1]
  rfl

/-- R8, R9: without a grant the enable decision neither enters nor leaves Drawing. -/
theorem decided_zero_drawing (n : Nat) (st : InletState) : decided 0 n st = .drawing ↔ st = .drawing := by
  cases st <;> simp [decided]

/-- R28: the figures read of the inlet state only whether it is Drawing. -/
theorem figures_of_same_drawing {x y : PassInputs} {wired : Nat} {curve : List CurvePoint} {prio : Table 6 Nat}
    (h : x.AsksAlike y) (hnominal : y.nominal = x.nominal) (hdraw : y.inlet = .drawing ↔ x.inlet = .drawing) :
    y.figures wired curve prio = x.figures wired curve prio := by
  by_cases hx : x.inlet = .drawing
  · exact (figures_of_asksAlike h hnominal ((hdraw.2 hx).trans hx.symm)).1
  · have halike : x.AsksAlike { y with inlet := x.inlet } := ⟨by rw [h.1], h.2⟩
    rw [← (figures_of_asksAlike halike hnominal rfl).1]
    unfold PassInputs.figures
    rw [if_neg (mt hdraw.1 hx), if_neg hx]
    rfl

/-- A gated event in a Sample phase whose passes so far found the figures in force. -/
structure State.Unmoved (s t : State) : Prop where
  asks    : s.passInputs.AsksAlike t.passInputs
  fed     : t.fed = s.fed
  drawing : t.inl.state = .drawing ↔ s.inl.state = .drawing
  force   : t.alc.force = s.alc.force
  quiet   : t.work.opening = false ∧ t.work.changed = false

theorem unmoved_figures (h : s.Unmoved t) : t.passFigures = s.passFigures := by
  have hnominal : t.passInputs.nominal = s.passInputs.nominal := by
    simp only [nominal_eq, ne_eq, h.drawing, mtr_of_fed h.fed]
  rw [passFigures_of_fed h.fed]
  exact figures_of_same_drawing h.asks hnominal h.drawing

theorem pass_unmoved (hgated : s.passInputs.gated = true) (hsame : s.passFigures = s.alc.force)
    (h : s.Unmoved t) : s.Unmoved t.pass ∧ t.passHeld = false := by
  have hfigures : t.passFigures = t.alc.force := (unmoved_figures h).trans (hsame.trans h.force.symm)
  have happlied : t.passHeld = false := by simp [State.passHeld, hfigures]
  have htold : t.tellsChange = false := by simp [State.tellsChange, hfigures]
  obtain ⟨-, hopening, hchanged⟩ := pass_reports t
  refine ⟨⟨h.asks.trans (pass_asksAlike t), (fed_survives s).pass t h.fed, ?_, ?_,
    hopening.trans h.quiet.1, by simp [hchanged, h.quiet.2, htold]⟩, happlied⟩
  · rw [pass_state, grant_of_gated ((gated_of_asksAlike h.asks).trans hgated), decided_zero_drawing]
    exact h.drawing
  · rw [pass_alc_eq, happlied]
    exact hfigures.trans h.force

/-- R33: where the first pass finds its figures in force, so do the others, and none is held. -/
theorem settle_applied_of_same (hquiet : s.work.opening = false ∧ s.work.changed = false)
    (htrigger : s.work.trigger = true) (hsafety : s.passSafety = true) (hruns : s.blocksRun = true)
    (hgated : s.passInputs.gated = true) (hsame : s.passFigures = s.alc.force) :
    s.Applied s.settle ∧ s.settle.alc.force = s.alc.force := by
  obtain ⟨hfirst, happlied⟩ := pass_unmoved hgated hsame ⟨.refl _, rfl, .rfl, rfl, hquiet⟩
  rw [settle_eq_of_quiet hquiet.1 hquiet.2 htrigger hruns]
  obtain ⟨hend, hforce⟩ := passes_of_quiet (P := fun t => s.Applied t ∧ s.Unmoved t)
    (fun t h => by
      obtain ⟨hnext, hnot⟩ := pass_unmoved hgated hsame h.2
      exact ⟨pass_applied h.1.fed hnot (.inr h.1.held), hnext⟩)
    (fun t h => ⟨⟨h.1.fed, h.1.force, h.1.held⟩, h.2.asks, h.2.fed, h.2.drawing, h.2.force, rfl, rfl⟩)
    (fun t h => h.2.quiet) 31 ⟨pass_applied rfl happlied (.inl hsafety), hfirst⟩
  exact ⟨hend, hforce.force⟩

/-- R34, R73, R163, R164: a safety pass that gates the grid is applied at once, in a Sample phase too, where changed
figures discard the sample. -/
theorem settle_of_gated (htrigger : s.work.trigger = true) (hsafety : s.work.safety = true)
    (hruns : s.blocksRun = true) (hgated : s.passInputs.gated = true) : s.Applied s.settle ∧
    (s.sampleOpen = true → s.settle.alc.force ≠ s.alc.force → s.settle.imon = s.imon.discarded) := by
  cases hopen : s.sampleOpen with
  | false =>
    have hclosed : s.takeReports.sampleOpen = false :=
      (sampleOpen_congr (takeReports_imon_of_closed hopen)).trans hopen
    have hfirst := passSafety_of_trigger ((takeReports_safety hopen).trans hsafety)
    exact ⟨settle_applied_of_closed htrigger hruns hclosed (.inl hfirst), nofun⟩
  | true =>
    by_cases hreport : s.work.opening = true ∨ s.work.changed = true
    · obtain ⟨himon, hheld⟩ := takeReports_of_report hreport hopen
      have hclosed := sampleOpen_of_discarded himon
      refine ⟨settle_applied_of_closed htrigger hruns hclosed (.inr hheld), fun _ _ => ?_⟩
      exact (settle_imon_of_taken hclosed).trans himon
    · simp only [not_or, Bool.not_eq_true] at hreport
      obtain ⟨hopening, hchanged⟩ := hreport
      have hsafe := passSafety_of_trigger hsafety
      by_cases hsame : s.passFigures = s.alc.force
      · obtain ⟨happlied, hforce⟩ := settle_applied_of_same ⟨hopening, hchanged⟩ htrigger hsafe hruns hgated hsame
        exact ⟨happlied, fun _ hne => absurd hforce hne⟩
      · obtain ⟨himon, hheld, hforce⟩ := settle_of_safety hopening hchanged htrigger hruns hopen hsafe hsame
        exact ⟨⟨settle_survives (fed_survives s) rfl, hforce, hheld⟩, fun _ _ => himon⟩

end

end Sys2Proof.Machine
end

section
/-! A meter tick (R120 to R124): what an event leaves of the accounts, the delivery to the Active account, and the
tick from its record to its target. -/

namespace Sys2Proof.Machine

section

variable {s t : State}

/-! ### The accounts after the passes of an event (R35, R165) -/

theorem settle_sticks (s : State) : s.act.Sticks s.settle.act :=
  settle_survives (sticks_survives s.act) (sticks_refl _)

theorem settle_other_slot {j : Fin 16} (h : s.act.activeSlot ≠ some j) :
    s.settle.act.slots.get j = s.act.slots.get j := (settle_sticks s).2.1 j h

theorem settle_acct {j : Fin 16} {a : Account} (ha : (s.act.slots.get j).acct = some a) :
    ∃ c, (s.settle.act.slots.get j).acct = some { a with sticky := c } := by
  obtain ⟨-, -, hacct⟩ := settle_sticks s
  obtain ⟨b, hb, hsame, -⟩ := hacct j a ha
  exact ⟨b.sticky, hsame ▸ hb⟩

theorem activeFlags_of_slot {u : Accounts} {i : Fin 16} {a : Account} (hi : u.activeSlot = some i)
    (ha : (u.slots.get i).acct = some a) : u.activeFlags = some (a.capReached, a.saturated) := by
  simp [Accounts.activeFlags, active_of_slot hi ha]

/-- R21, R163, R164: where ALC runs, a triggered pass reads the standing of the Active account. -/
theorem settle_reads_flags {cap sat : Bool} (hflags : s.act.activeFlags = some (cap, sat))
    (htrigger : s.work.trigger = true) (hruns : s.blocksRun = true) :
    s.settle.alc.inputs.capReached = cap ∧ s.settle.alc.inputs.saturated = sat :=
  settle_reads (P := fun u => u.act.activeFlags = some (cap, sat))
    (R := fun x => x.capReached = cap ∧ x.saturated = sat)
    (survives_of_pass (fun _ _ act => act.activeFlags = some (cap, sat)) fun u hu => (pass_activeFlags u).trans hu)
    (fun u hu => by simp [State.passInputs, passInputs_flags, hu]) hflags htrigger hruns

/-- R24: an Active account with CapReached or Saturated gates a pass. -/
theorem gated_of_flags {cap sat : Bool} (hflags : s.act.activeFlags = some (cap, sat))
    (h : cap = true ∨ sat = true) : s.passInputs.gated = true := by
  rcases h with rfl | rfl <;> simp [PassInputs.gated, State.passInputs, passInputs_flags, hflags]

/-! ### ACCOUNT (R163, R164, R167) -/

/-- ACCOUNT is raised for an account, and a safety pass is triggered. -/
structure State.Announced (h : Handle) (s : State) : Prop where
  flag    : (s.atn.sources.get 6).flag = true
  detail  : ∃ e, (s.atn.sources.get 6).detail = some (.account h e)
  trigger : s.work.trigger = true
  safety  : s.work.safety = true

theorem newlySet_of_new {before after : Bool} (hnew : before = false ∧ after = true) (h : Handle) (e : AcctEvent)
    (s : State) : s.newlySet before after h e = (s.raise .account (.account h e)).triggerSafety := by
  obtain ⟨rfl, rfl⟩ := hnew
  rfl

theorem newlySet_announces {h : Handle} {before after : Bool} {e : AcctEvent}
    (hnew : (before = false ∧ after = true) ∨ s.Announced h) : (s.newlySet before after h e).Announced h := by
  have hraised : (s.raise .account (.account h e)).triggerSafety.Announced h := by
    have hsource : (s.raise .account (.account h e)).triggerSafety.atn.sources.get 6 =
        { s.atn.sources.get 6 with flag := true, detail := some (.account h e) } := raise_self .account _ _
    exact ⟨by rw [hsource], ⟨e, by rw [hsource]⟩, rfl, rfl⟩
  by_cases hset : before = false ∧ after = true
  · rw [newlySet_of_new hset]
    exact hraised
  · rw [show s.newlySet before after h e = s from if_neg (by simpa [and_comm] using hset)]
    exact hnew.resolve_left hset

theorem newlySet_other_source {k : Fin 11} (hk : k ≠ 6) (before after : Bool) (h : Handle) (e : AcctEvent)
    (s : State) : (s.newlySet before after h e).atn.sources.get k = s.atn.sources.get k := by
  unfold State.newlySet
  split
  · exact raise_other .account _ _ hk
  · rfl

/-! ### The delivery to an account (R124, R159 to R164) -/

variable {i : Fin 16} {a : Account} {total heat wall : Nat}

/-- R159 to R163: the account `a` after the delivery of the tick that ends at `wall`. -/
def State.bill (total heat wall : Nat) (a : Account) (s : State) : Account :=
  a.deliver total heat (bandPrice (s.tariff a.tariff).bands (minuteOfDay (wall - 1) s.tck.offset))
    (s.tariff a.tariff).idleFee (s.tariff a.tariff).grace s.inl.state.idles

/-- A bill reads the tariffs' definitions, the clock's offset and the inlet state. -/
theorem bill_congr (hstands : s.Stands t) (hinl : t.inl = s.inl) (total heat wall : Nat) (a : Account) :
    t.bill total heat wall a = s.bill total heat wall a := by
  have htariff : (t.tariff a.tariff).definition = (s.tariff a.tariff).definition := hstands .tariffs a.tariff
  obtain ⟨hoffset, -⟩ : Setting.clock.stands s t := hstands .clock
  simp only [Tariff.definition, Prod.mk.injEq] at htariff
  obtain ⟨hbands, hfee, hgrace⟩ := htariff
  simp only [State.bill, hbands, hfee, hgrace, hoffset, hinl]

theorem deliverTo_eq (ha : (s.act.slots.get i).acct = some a) (total heat wall : Nat) :
    s.deliverTo i total heat wall =
      (((((s.modAccount i fun _ => s.bill total heat wall a).newlySet
        a.satTotal (s.bill total heat wall a).satTotal (s.act.handle i) .totalSaturated).newlySet
        a.satEnergy (s.bill total heat wall a).satEnergy (s.act.handle i) .costEnergySaturated).newlySet
        a.satIdle (s.bill total heat wall a).satIdle (s.act.handle i) .costIdleSaturated).newlySet
        a.capReached (s.bill total heat wall a).capReached (s.act.handle i) .capReached) := by
  simp only [State.deliverTo, ha]
  rfl

theorem deliverTo_slot (ha : (s.act.slots.get i).acct = some a) (total heat wall : Nat) (j : Fin 16) :
    (s.deliverTo i total heat wall).act.slots.get j =
      if j = i then { s.act.slots.get j with acct := some (s.bill total heat wall a) }
      else s.act.slots.get j := by
  simp only [deliverTo_eq ha, newlySet_frame, State.modAccount, modAct_act, Table.get_modify]
  split
  next h => rw [h, ha]; rfl
  next => rfl

theorem deliverTo_other_source {k : Fin 11} (hk : k ≠ 6) (i : Fin 16) (total heat wall : Nat) (s : State) :
    (s.deliverTo i total heat wall).atn.sources.get k = s.atn.sources.get k := by
  cases ha : (s.act.slots.get i).acct with
  | none => simp only [State.deliverTo, ha]
  | some a => simp only [deliverTo_eq ha, newlySet_other_source hk, modAccount_frame]

/-- R163, R164, R167: a delivery that newly caps or saturates an account. -/
def Account.turns (a b : Account) : Prop :=
  (a.satTotal = false ∧ b.satTotal = true) ∨ (a.satEnergy = false ∧ b.satEnergy = true) ∨
  (a.satIdle = false ∧ b.satIdle = true) ∨ (a.capReached = false ∧ b.capReached = true)

theorem deliverTo_announces (ha : (s.act.slots.get i).acct = some a) (h : a.turns (s.bill total heat wall a)) :
    (s.deliverTo i total heat wall).Announced (s.act.handle i) := by
  rw [deliverTo_eq ha]
  rcases h with htotal | henergy | hidle | hcap
  · exact newlySet_announces (.inr (newlySet_announces (.inr (newlySet_announces (.inr
      (newlySet_announces (.inl htotal)))))))
  · exact newlySet_announces (.inr (newlySet_announces (.inr (newlySet_announces (.inl henergy)))))
  · exact newlySet_announces (.inr (newlySet_announces (.inl hidle)))
  · exact newlySet_announces (.inl hcap)

/-- R167: a cap newly reached is raised last. -/
theorem deliverTo_cap_detail (ha : (s.act.slots.get i).acct = some a)
    (h : a.capReached = false ∧ (s.bill total heat wall a).capReached = true) :
    ((s.deliverTo i total heat wall).atn.sources.get 6).detail =
      some (.account (s.act.handle i) .capReached) := by
  rw [deliverTo_eq ha, newlySet_of_new h]
  exact congrArg SourceRec.detail (raise_self .account _ _)

theorem deliver_of_some (h : s.act.activeSlot = some i) (total heat wall : Nat) :
    s.deliver total heat wall = s.deliverTo i total heat wall := by
  simp only [State.deliver, h]

theorem deliver_of_none (h : s.act.activeSlot = none) (total heat wall : Nat) :
    s.deliver total heat wall = s.modMtr (Meter.addUnbilled total) := by
  simp only [State.deliver, h]

/-! ### The tick (R120 to R124) -/

/-- R124: the record of the tick that ends at `wall`. -/
def State.tickRecord (wall : Nat) (s : State) : TickRec :=
  let p := s.mtr.energies
  let total := p.1 + p.2.1 + p.2.2
  { t := wall, spanMs := s.mtr.spanMs, p1 := p.1, p2 := p.2.1, p3 := p.2.2, total := total,
    heat := s.heatShare total, source := s.alc.force.source, bGrant := s.alc.force.bGrant, hGrant := s.alc.force.hGrant,
    target := s.act.activeHandle, index := intervalIndex (wall - 1),
    crossing := decide (s.mtr.lastIndex ≠ some (intervalIndex (wall - 1))) }

/-- R121, R123, R124: MTR's own part of a tick. -/
def Meter.ticks (r : TickRec) (m : Meter) : Meter := { m.restart with lastIndex := some r.index, last := some r }

/-- R123: a tick before its delivery. -/
def State.atTick (r : TickRec) (s : State) : State := (s.modMtr (Meter.ticks r)).crossed r.crossing

theorem meterTick_eq (wall : Nat) (s : State) : s.meterTick wall =
    (s.atTick (s.tickRecord wall)).deliver (s.tickRecord wall).total (s.tickRecord wall).heat wall := rfl

/-- R122: no more heat than energy. -/
theorem heatShare_le (total : Nat) (s : State) : s.heatShare total ≤ total := by
  unfold State.heatShare
  dsimp only
  split
  · exact Nat.div_le_of_le_mul (by rw [Nat.mul_comm]; exact Nat.mul_le_mul_right _ (Nat.le_add_left _ _))
  · exact Nat.zero_le _

/-- R139, R153: the Active account's tariffs at a tick. -/
def Account.atTick (crossing : Bool) (a : Account) : Account :=
  { a with tariff := if crossing = true then a.pending.getD a.tariff else a.tariff,
           pending := if crossing = true then none else a.pending }

section

variable {r : TickRec}

@[simp] theorem atTick_activeSlot (r : TickRec) (s : State) : (s.atTick r).act.activeSlot = s.act.activeSlot :=
  crossed_activeSlot _ _

@[simp] theorem atTick_mtr (r : TickRec) (s : State) : (s.atTick r).mtr = s.mtr.ticks r := by
  simp [State.atTick]

theorem atTick_active_acct (ha : (s.act.slots.get i).acct = some a) (hactive : a.state = .active) (r : TickRec) :
    ((s.atTick r).act.slots.get i).acct = some (a.atTick r.crossing) := by
  refine (crossed_acct (s := s.modMtr (Meter.ticks r)) ha _).trans ?_
  cases r.crossing with
  | false => rfl
  | true => exact congrArg some (if_pos ⟨rfl, by rw [hactive]; nofun⟩)

theorem atTick_bill (r : TickRec) (total heat wall : Nat) (a : Account) (s : State) :
    (s.atTick r).bill total heat wall a = s.bill total heat wall a :=
  bill_congr (s := s.modMtr (Meter.ticks r)) (crossed_stands r.crossing) (crossed_frame _ _).1 total heat wall a

theorem atTick_handle (r : TickRec) (s : State) (i : Fin 16) : (s.atTick r).act.handle i = s.act.handle i :=
  congrArg (Handle.mk i) (crossed_gen _ _ i)

end

/-- R124: MTR after a tick. -/
theorem meterTick_mtr (wall : Nat) (s : State) : (s.meterTick wall).mtr =
    if s.act.activeSlot = none then (s.mtr.ticks (s.tickRecord wall)).addUnbilled (s.tickRecord wall).total
    else s.mtr.ticks (s.tickRecord wall) := by
  rw [meterTick_eq]
  cases hi : s.act.activeSlot with
  | none =>
    rw [deliver_of_none (by rw [atTick_activeSlot, hi]), modMtr_mtr, atTick_mtr]
    rfl
  | some i =>
    rw [deliver_of_some (by rw [atTick_activeSlot, hi])]
    simp

/-- R124, R126: what a tick leaves alone in MTR, and what it restarts and records. -/
theorem meterTick_mtr_rest (wall : Nat) (s : State) : ∃ wh j, (s.meterTick wall).mtr =
    { s.mtr.ticks (s.tickRecord wall) with unbilledWh := wh, unbilledJ := j } := by
  rw [meterTick_mtr]
  split
  · exact ⟨_, _, addUnbilled_eq _ _⟩
  · exact ⟨_, _, rfl⟩

theorem meterTick_of_none (hi : s.act.activeSlot = none) (wall : Nat) :
    (s.meterTick wall).act = (s.atTick (s.tickRecord wall)).act := by
  rw [meterTick_eq, deliver_of_none (by rw [atTick_activeSlot, hi])]
  rfl

theorem meterTick_of_some (hi : s.act.activeSlot = some i) (wall : Nat) : s.meterTick wall =
    (s.atTick (s.tickRecord wall)).deliverTo i (s.tickRecord wall).total (s.tickRecord wall).heat wall := by
  rw [meterTick_eq, deliver_of_some (by rw [atTick_activeSlot, hi])]

/-- R139, R155: the account of a slot that is not Active only switches. -/
theorem meterTick_other_slot {j : Fin 16} (hj : s.act.activeSlot ≠ some j) (wall : Nat) :
    (s.meterTick wall).act.slots.get j = (s.atTick (s.tickRecord wall)).act.slots.get j := by
  cases hi : s.act.activeSlot with
  | none => rw [meterTick_of_none hi]
  | some i =>
    obtain ⟨a, ha, hactive⟩ := acct_of_activeSlot hi
    rw [meterTick_of_some hi, deliverTo_slot (atTick_active_acct ha hactive _),
      if_neg fun h => hj (by rw [hi, h])]

/-- R124, R159: the Active account takes the delivery, under the tariff that it has switched to. -/
theorem meterTick_acct (hi : s.act.activeSlot = some i) (ha : (s.act.slots.get i).acct = some a) (wall : Nat) :
    ((s.meterTick wall).act.slots.get i).acct = some (s.bill (s.tickRecord wall).total (s.tickRecord wall).heat wall
      (a.atTick (s.tickRecord wall).crossing)) := by
  obtain ⟨b, hb, hactive⟩ := acct_of_activeSlot hi
  cases ha.symm.trans hb
  rw [meterTick_of_some hi, deliverTo_slot (atTick_active_acct ha hactive _), if_pos rfl, atTick_bill]

theorem meterTick_activeSlot (wall : Nat) (s : State) : (s.meterTick wall).act.activeSlot = s.act.activeSlot := by
  rw [← atTick_activeSlot (s.tickRecord wall) s]
  refine find_congr fun j => ?_
  by_cases hj : s.act.activeSlot = some j
  · obtain ⟨a, ha, hactive⟩ := acct_of_activeSlot hj
    have hbefore := atTick_active_acct ha hactive (s.tickRecord wall)
    have hafter := meterTick_acct hj ha wall
    rw [(isActive_iff _).2 ⟨_, hbefore, hactive⟩, (isActive_iff _).2 ⟨_, hafter, ?_⟩]
    exact (deliver_standing ..).trans hactive
  · rw [meterTick_other_slot hj]

/-- R132: a tick leaves the clock. -/
theorem meterTick_clock (wall : Nat) (s : State) : (s.meterTick wall).tck.wall = s.tck.wall ∧
    (s.meterTick wall).tck.secondMs = s.tck.secondMs ∧ (s.meterTick wall).tck.offset = s.tck.offset ∧
    (s.meterTick wall).tck.isSet = s.tck.isSet := by
  have hstands : (s.modMtr (Meter.ticks (s.tickRecord wall))).Stands (s.atTick (s.tickRecord wall)) :=
    crossed_stands _
  obtain ⟨hwall, hsecond⟩ := hstands .wall
  obtain ⟨hoffset, hset⟩ := hstands .clock
  simp only [meterTick_eq, deliver_frame]
  exact ⟨hwall, hsecond, hoffset, hset⟩

/-! ### The sources of a tick (R140, R163, R164) -/

theorem meterTick_source {k : Fin 11} (hk : k ≠ 6) (wall : Nat) (s : State) :
    (s.meterTick wall).atn.sources.get k = (s.atTick (s.tickRecord wall)).atn.sources.get k := by
  cases hi : s.act.activeSlot with
  | none =>
    rw [meterTick_eq, deliver_of_none (by rw [atTick_activeSlot, hi])]
    rfl
  | some i => rw [meterTick_of_some hi, deliverTo_other_source hk]

theorem meterTick_other_source {k : Fin 11} (h6 : k ≠ 6) (h9 : k ≠ 9) (wall : Nat) (s : State) :
    (s.meterTick wall).atn.sources.get k = s.atn.sources.get k :=
  (meterTick_source h6 wall s).trans (crossed_other_source h9 _ _)

theorem meterTick_announces (hi : s.act.activeSlot = some i) (ha : (s.act.slots.get i).acct = some a) {wall : Nat}
    (h : a.turns (s.bill (s.tickRecord wall).total (s.tickRecord wall).heat wall
      (a.atTick (s.tickRecord wall).crossing))) : (s.meterTick wall).Announced (s.act.handle i) := by
  obtain ⟨b, hb, hactive⟩ := acct_of_activeSlot hi
  cases ha.symm.trans hb
  rw [meterTick_of_some hi, ← atTick_handle (s.tickRecord wall) s i]
  exact deliverTo_announces (atTick_active_acct ha hactive _) (by rw [atTick_bill]; exact h)

theorem meterTick_cap_detail (hi : s.act.activeSlot = some i) (ha : (s.act.slots.get i).acct = some a) {wall : Nat}
    (h : a.capReached = false ∧ (s.bill (s.tickRecord wall).total (s.tickRecord wall).heat wall
      (a.atTick (s.tickRecord wall).crossing)).capReached = true) :
    ((s.meterTick wall).atn.sources.get 6).detail = some (.account (s.act.handle i) .capReached) := by
  obtain ⟨b, hb, hactive⟩ := acct_of_activeSlot hi
  cases ha.symm.trans hb
  rw [meterTick_of_some hi, ← atTick_handle (s.tickRecord wall) s i]
  exact deliverTo_cap_detail (atTick_active_acct ha hactive _) (by rw [atTick_bill]; exact h)

end

end Sys2Proof.Machine
end

section
/-! An advance of the clock (R132, R120, R60): the second, its tick where MTR runs, and the debit of the allowance
where HZC runs. -/

namespace Sys2Proof.Machine

section

variable {s t : State}

/-! ### The debit (R60) -/

/-- R60: what one second draws from the allowance. -/
def State.draws (s : State) : Nat :=
  if s.blocksRun = true ∧ s.alc.force.source = .battery then s.alc.force.hGrant else 0

/-- R60: the debit, where HZC runs. -/
def State.debited (s : State) : State := if s.blocksRun then s.debitAllowance else s

theorem debited_of_no_draw (h : s.draws = 0) : s.debited = s := by
  unfold State.debited
  split
  next hruns =>
    refine if_neg fun hdebiting => ?_
    simp only [State.debiting, Bool.and_eq_true, decide_eq_true_eq] at hdebiting
    rw [State.draws, if_pos ⟨hruns, hdebiting.1⟩] at h
    exact absurd h (Nat.pos_iff_ne_zero.1 hdebiting.2)
  next => rfl

theorem blocksRun_of_draws (h : 0 < s.draws) :
    s.blocksRun = true ∧ s.draws = s.alc.force.hGrant ∧ s.debiting = true := by
  by_cases hdraws : s.blocksRun = true ∧ s.alc.force.source = .battery
  · have heq : s.draws = s.alc.force.hGrant := if_pos hdraws
    rw [heq] at h
    exact ⟨hdraws.1, heq, by simp [State.debiting, hdraws.2, h]⟩
  · rw [show s.draws = 0 from if_neg hdraws] at h
    cases h

/-- R60: a draw reduces the allowance; one that brings it to 0 exhausts it. -/
theorem debited_of_draw (h : 0 < s.draws) : s.debited =
    if 0 < s.hzc.allowance ∧ (s.hzc.debit s.draws).allowance = 0 then
      (s.modHzc (Heater.debit s.draws)).allowanceExhausted
    else s.modHzc (Heater.debit s.draws) := by
  obtain ⟨hruns, hgrant, hdebiting⟩ := blocksRun_of_draws h
  rw [hgrant]
  exact (if_pos hruns).trans (if_pos hdebiting)

theorem debit_allowance (j : Nat) (h : Heater) : (h.debit j).allowance = h.allowance - j := by
  simp only [Heater.debit, Heater.allowance, Config.joulesPerWh]
  omega

theorem debited_of_exhausted (hpos : 0 < s.hzc.allowance) (hle : s.hzc.allowance ≤ s.draws) :
    s.debited = (s.modHzc (Heater.debit s.draws)).allowanceExhausted := by
  rw [debited_of_draw (hpos.trans_le hle), if_pos ⟨hpos, by rw [debit_allowance]; omega⟩]

theorem debited_of_rest (h : s.hzc.allowance = 0 ∨ s.draws < s.hzc.allowance) (hdraws : 0 < s.draws) :
    s.debited = s.modHzc (Heater.debit s.draws) := by
  rw [debited_of_draw hdraws, if_neg (by rw [debit_allowance]; omega)]

/-- What a debit makes of the state, whichever way it goes. -/
theorem debited_cases (s : State) : s.debited = s ∨ s.debited = s.modHzc (Heater.debit s.draws) ∨
    s.debited = (s.modHzc (Heater.debit s.draws)).allowanceExhausted := by
  rcases Nat.eq_zero_or_pos s.draws with h0 | hpos
  · exact .inl (debited_of_no_draw h0)
  · rw [debited_of_draw hpos]
    split
    · exact .inr (.inr rfl)
    · exact .inr (.inl rfl)

@[simp] theorem debited_frame (s : State) :
    s.debited.inl = s.inl ∧
    s.debited.alc = s.alc ∧
    s.debited.imon = s.imon ∧
    s.debited.stu = s.stu ∧
    s.debited.mtr = s.mtr ∧
    s.debited.tck = s.tck ∧
    s.debited.act = s.act ∧
    s.debited.rqp = s.rqp ∧
    s.debited.pwc = s.pwc := by
  unfold State.debited
  split <;> simp

theorem debited_act (s : State) : s.debited.act = s.act := by simp

theorem debited_zones (s : State) : s.debited.hzc.zones = s.hzc.zones := by
  rcases debited_cases s with h | h | h <;> rw [h] <;> rfl

theorem debited_source {k : Fin 11} (hk : k ≠ 8) (s : State) :
    s.debited.atn.sources.get k = s.atn.sources.get k := by
  rcases debited_cases s with h | h | h <;> rw [h]
  · rfl
  · exact raise_other .zone _ _ hk

/-- A debit takes back neither trigger. -/
theorem debited_keeps_triggers (htrigger : s.work.trigger = true) (hsafety : s.work.safety = true) :
    s.debited.work.trigger = true ∧ s.debited.work.safety = true := by
  rcases debited_cases s with h | h | h <;> rw [h]
  · exact ⟨htrigger, hsafety⟩
  · exact ⟨htrigger, hsafety⟩
  · exact ⟨rfl, hsafety⟩

/-- R60: the allowance after a second. -/
theorem debited_allowance (hj : s.hzc.allowJ < 3600) :
    s.debited.hzc.allowJ < 3600 ∧ s.debited.hzc.allowance = s.hzc.allowance - s.draws := by
  rcases Nat.eq_zero_or_pos s.draws with h0 | hpos
  · rw [debited_of_no_draw h0, h0]
    exact ⟨hj, rfl⟩
  · have hhzc : s.debited.hzc = s.hzc.debit s.draws := by
      rw [debited_of_draw hpos]
      split <;> rfl
    rw [hhzc, debit_allowance]
    exact ⟨Nat.mod_lt _ (by decide), rfl⟩

theorem debited_zone_source (h : s.hzc.allowance = 0 ∨ s.draws < s.hzc.allowance) :
    s.debited.atn.sources.get 8 = s.atn.sources.get 8 := by
  rcases Nat.eq_zero_or_pos s.draws with h0 | hpos
  · rw [debited_of_no_draw h0]
  · rw [debited_of_rest h hpos]
    rfl

/-- R60, R61: an exhausted allowance raises ZONE, and the pass that follows reads it as 0. -/
theorem settle_of_exhausted (hpos : 0 < s.hzc.allowance) (hle : s.hzc.allowance ≤ s.draws) :
    s.debited.settle.atn.sources.get 8 =
      { s.atn.sources.get 8 with flag := true, detail := some (.zone none .allowanceExhausted) } ∧
    s.debited.settle.alc.inputs.allowanceZero = true := by
  have heq := debited_of_exhausted hpos hle
  have hruns : s.debited.blocksRun = true :=
    (runs_congr (by simp)).1.trans (blocksRun_of_draws (hpos.trans_le hle)).1
  constructor
  · rw [settle_other_source _ (by decide) (by decide), heq]
    exact raise_self .zone _ _
  · have hzero : s.hzc.allowance - s.draws = 0 := Nat.sub_eq_zero_of_le hle
    refine settle_reads (R := fun x => x.allowanceZero = true) (survives_allowance 0) ?_ ?_ (by rw [heq]; rfl) hruns
    · rintro u ⟨hwh, hj⟩
      simp [State.passInputs, Heater.allowance, hwh, hj]
    · rw [heq]
      simp [Heater.debit, hzero]

/-! ### The second (R132) -/

/-- R132, R121: the second timer restarts, and the energy that flowed joins the integrals while they run. -/
def State.secondEnded (e : PhaseEnergy) (s : State) : State :=
  (s.modTck fun c => { c with secondMs := 0 }).modMtr fun m => if s.meterRuns then m.integrate e else m

/-- R132, R121: the state that a tick finds. -/
def State.tickStart (e : PhaseEnergy) (s : State) : State :=
  (s.modTck fun c => { c with wall := c.wall + 1, secondMs := 0 }).modMtr (Meter.integrate e)

/-- R132, R120: the advance to the next second, with its tick where MTR runs. -/
def State.metered (e : PhaseEnergy) (s : State) : State :=
  if s.meterRuns then (s.tickStart e).meterTick (s.tck.wall + 1)
  else s.modTck fun c => { c with wall := c.wall + 1, secondMs := 0 }

/-- R132: below the clock's maximum the second timer brings an advance. -/
theorem secondExpires_cases (e : PhaseEnergy) (s : State) : s.secondExpires e =
    if s.tck.wall < 4294967295 then (s.secondEnded e).advanceClock else s.secondEnded e := by
  have hruns : (s.modTck fun c => { c with secondMs := 0 }).meterRuns = s.meterRuns := rfl
  unfold State.secondExpires State.secondEnded
  simp only [hruns]
  cases s.meterRuns <;> rfl

theorem advanceClock_eq (s : State) : s.advanceClock =
    (if s.meterRuns then (s.modTck fun c => { c with wall := c.wall + 1 }).meterTick (s.tck.wall + 1)
      else s.modTck fun c => { c with wall := c.wall + 1 }).debited := rfl

theorem secondEnded_advanced (e : PhaseEnergy) (s : State) :
    ((s.secondEnded e).modTck fun c => { c with wall := c.wall + 1 }) =
      if s.meterRuns then s.tickStart e
      else s.modTck fun c => { c with wall := c.wall + 1, secondMs := 0 } := by
  unfold State.secondEnded State.tickStart
  cases s.meterRuns <;> rfl

theorem secondExpires_eq (h : s.tck.wall < 4294967295) (e : PhaseEnergy) :
    s.secondExpires e = (s.metered e).debited := by
  have hruns : (s.secondEnded e).meterRuns = s.meterRuns := rfl
  have hwall : (s.secondEnded e).tck.wall = s.tck.wall := rfl
  rw [secondExpires_cases, if_pos h, advanceClock_eq, hruns, hwall, secondEnded_advanced]
  unfold State.metered
  cases s.meterRuns <;> simp only [if_true, Bool.false_eq_true, if_false]

theorem secondExpires_of_last (h : 4294967295 ≤ s.tck.wall) (e : PhaseEnergy) :
    s.secondExpires e = s.secondEnded e := by
  rw [secondExpires_cases, if_neg (Nat.not_lt.2 h)]

/-- R132, R126: without an advance nothing is metered. -/
theorem secondEnded_meter (e : PhaseEnergy) (s : State) : (s.secondEnded e).mtr.last = s.mtr.last ∧
    (s.secondEnded e).mtr.unbilledWh = s.mtr.unbilledWh := by
  unfold State.secondEnded
  cases s.meterRuns <;> exact ⟨rfl, rfl⟩

theorem exec_clockAdvance (h : 1000 ≤ s.tck.secondMs) (e : PhaseEnergy) :
    exec (.clockAdvance e) s = .next (s.secondExpires e).settle := congrArg _ (if_pos h)

theorem metered_of_runs (h : s.meterRuns = true) (e : PhaseEnergy) :
    s.metered e = (s.tickStart e).meterTick (s.tck.wall + 1) := if_pos h

theorem metered_of_still (h : s.meterRuns = false) (e : PhaseEnergy) :
    s.metered e = s.modTck fun c => { c with wall := c.wall + 1, secondMs := 0 } :=
  if_neg (by rw [h]; exact Bool.false_ne_true)

@[simp] theorem metered_frame (e : PhaseEnergy) (s : State) :
    (s.metered e).inl = s.inl ∧
    (s.metered e).alc = s.alc ∧
    (s.metered e).hzc = s.hzc ∧
    (s.metered e).imon = s.imon ∧
    (s.metered e).stu = s.stu ∧
    (s.metered e).rqp = s.rqp ∧
    (s.metered e).pwc = s.pwc := by
  unfold State.metered State.tickStart
  split <;> simp

theorem metered_clock (e : PhaseEnergy) (s : State) : (s.metered e).tck.wall = s.tck.wall + 1 ∧
    (s.metered e).tck.secondMs = 0 ∧ (s.metered e).tck.offset = s.tck.offset ∧
    (s.metered e).tck.isSet = s.tck.isSet := by
  unfold State.metered
  split
  · exact meterTick_clock _ _
  · exact ⟨rfl, rfl, rfl, rfl⟩

theorem metered_zone_source (e : PhaseEnergy) (s : State) :
    (s.metered e).atn.sources.get 8 = s.atn.sources.get 8 := by
  unfold State.metered
  split
  · exact meterTick_other_source (by decide) (by decide) _ _
  · rfl

theorem metered_draws (e : PhaseEnergy) (s : State) : (s.metered e).draws = s.draws := by
  have hruns : (s.metered e).blocksRun = s.blocksRun := (runs_congr (by simp)).1
  simp only [State.draws, hruns, metered_frame]

/-! ### The event of a tick -/

/-- R163, R164: an event that announces an account which may not be charged. -/
theorem settle_of_announced {h : Handle} {cap sat : Bool} (hannounced : s.Announced h)
    (hflags : s.act.activeFlags = some (cap, sat)) (hstop : cap = true ∨ sat = true) (hruns : s.blocksRun = true) :
    s.debited.settle.alc.inputs.capReached = cap ∧ s.debited.settle.alc.inputs.saturated = sat ∧
    s.debited.Applied s.debited.settle ∧
    (s.sampleOpen = true → s.debited.settle.alc.force ≠ s.alc.force →
      s.debited.settle.imon = s.imon.discarded) := by
  obtain ⟨htrigger, hsafety⟩ := debited_keeps_triggers hannounced.trigger hannounced.safety
  have hruns' : s.debited.blocksRun = true := (runs_congr (by simp)).1.trans hruns
  have hflags' : s.debited.act.activeFlags = some (cap, sat) := by simpa using hflags
  obtain ⟨hcap, hsat⟩ := settle_reads_flags hflags' htrigger hruns'
  obtain ⟨happlied, himon⟩ := settle_of_gated htrigger hsafety hruns' (gated_of_flags hflags' hstop)
  have hopen : s.debited.sampleOpen = s.sampleOpen := sampleOpen_congr (by simp)
  simp only [debited_frame, hopen] at himon
  exact ⟨hcap, hsat, happlied, himon⟩

end

end Sys2Proof.Machine
end

section
/-! The clock's advance as its event leaves it (R132, R120 to R126, R139, R140, R159 to R164, R60): O48. -/

namespace Sys2Proof.Machine

section

variable {s : State} {e : PhaseEnergy} {i : Fin 16} {a : Account}

/-- R123: the record of the tick of an advance. -/
def State.advanceRecord (e : PhaseEnergy) (s : State) : TickRec := (s.tickStart e).tickRecord (s.tck.wall + 1)

/-- R60, R61: the allowance and ZONE at the end of the event. -/
theorem settle_debits (s : State) :
    (s.hzc.allowJ < 3600 → s.debited.settle.hzc.allowJ < 3600 ∧
      s.debited.settle.hzc.allowance = s.hzc.allowance - s.draws) ∧
    (0 < s.hzc.allowance → s.hzc.allowance ≤ s.draws → (s.debited.settle.atn.sources.get 8).flag = true ∧
      (s.debited.settle.atn.sources.get 8).detail = some (.zone none .allowanceExhausted) ∧
      s.debited.settle.alc.inputs.allowanceZero = true) ∧
    ((s.hzc.allowance = 0 ∨ s.draws < s.hzc.allowance) →
      s.debited.settle.atn.sources.get 8 = s.atn.sources.get 8) := by
  refine ⟨fun hj => ?_, fun hpos hle => ?_, fun h => ?_⟩
  · obtain ⟨hwh, hjoules⟩ := settle_allowance s.debited
    simp only [Heater.allowance, hwh, hjoules]
    exact debited_allowance hj
  · obtain ⟨hsource, hzero⟩ := settle_of_exhausted hpos hle
    rw [hsource]
    exact ⟨rfl, rfl, hzero⟩
  · rw [settle_other_source _ (by decide) (by decide), debited_zone_source h]

/-- R139, R140: TARIFF at the end of the event. -/
theorem advance_tariffSource (hruns : s.meterRuns = true) : (s.metered e).debited.settle.atn.sources.get 9 =
    ((s.tickStart e).atTick (s.advanceRecord e)).atn.sources.get 9 := by
  rw [settle_other_source _ (by decide) (by decide), debited_source (by decide), metered_of_runs hruns,
    meterTick_source (by decide)]
  rfl

theorem advance_switches (hruns : s.meterRuns = true) {b : Fin 8} (hcrosses : (s.advanceRecord e).crossing = true)
    (hdue : (s.act.slots.get i).due = some b) (hlast : ∀ j, i < j → (s.act.slots.get j).due = none) :
    ((s.metered e).debited.settle.atn.sources.get 9).flag = true ∧
    ((s.metered e).debited.settle.atn.sources.get 9).detail = some (.tariff (s.act.handle i) b) := by
  rw [advance_tariffSource hruns, State.atTick, hcrosses]
  exact crossed_tariffSource (s := (s.tickStart e).modMtr (Meter.ticks (s.advanceRecord e))) hdue hlast

theorem advance_no_switch (hruns : s.meterRuns = true)
    (h : (s.advanceRecord e).crossing = false ∨ ∀ j, (s.act.slots.get j).due = none) :
    (s.metered e).debited.settle.atn.sources.get 9 = s.atn.sources.get 9 := by
  rw [advance_tariffSource hruns, State.atTick, crossed_of_none (by exact h)]
  rfl

/-- R126: the Unbilled register at the end of the event. -/
theorem advance_unbilled (hruns : s.meterRuns = true) (hnone : s.act.activeSlot = none)
    (hroom : s.mtr.unbilledWh < 99999999) :
    (s.metered e).mtr.unbilledWh * 3600 + (s.metered e).mtr.unbilledJ =
      min (99999999 * 3600) (s.mtr.unbilledWh * 3600 + s.mtr.unbilledJ + (s.advanceRecord e).total) ∧
    (s.metered e).mtr.unbilledJ < 3600 := by
  rw [metered_of_runs hruns, meterTick_mtr, if_pos (by exact hnone)]
  exact addUnbilled_holds (m := (s.tickStart e).mtr.ticks (s.advanceRecord e)) hroom _

theorem advance_unbilled_kept (hruns : s.meterRuns = true)
    (h : s.act.activeSlot ≠ none ∨ 99999999 ≤ s.mtr.unbilledWh) :
    (s.metered e).mtr.unbilledWh = s.mtr.unbilledWh ∧ (s.metered e).mtr.unbilledJ = s.mtr.unbilledJ := by
  rw [metered_of_runs hruns, meterTick_mtr]
  split
  next hnone =>
    rw [addUnbilled_of_full (by exact h.resolve_left fun hsome => hsome hnone)]
    exact ⟨rfl, rfl⟩
  next => exact ⟨rfl, rfl⟩

/-! ### The Active account (R159 to R164) -/

/-- The Active account's bill for the tick of an advance. -/
def State.advanceBill (e : PhaseEnergy) (a : Account) (s : State) : Account :=
  (s.tickStart e).bill (s.advanceRecord e).total (s.advanceRecord e).heat (s.tck.wall + 1)
    (a.atTick (s.advanceRecord e).crossing)

theorem advance_metered_acct (hruns : s.meterRuns = true) (hi : s.act.activeSlot = some i)
    (ha : (s.act.slots.get i).acct = some a) :
    ((s.metered e).act.slots.get i).acct = some (s.advanceBill e a) := by
  rw [metered_of_runs hruns]
  exact meterTick_acct (s := s.tickStart e) hi ha _

theorem advance_acct (hruns : s.meterRuns = true) (hi : s.act.activeSlot = some i)
    (ha : (s.act.slots.get i).acct = some a) :
    ∃ c, ((s.metered e).debited.settle.act.slots.get i).acct = some { s.advanceBill e a with sticky := c } :=
  settle_acct (by rw [debited_act]; exact advance_metered_acct hruns hi ha)

theorem advance_activeSlot (hruns : s.meterRuns = true) : (s.metered e).act.activeSlot = s.act.activeSlot := by
  rw [metered_of_runs hruns]
  exact meterTick_activeSlot _ _

theorem idles_iff (st : InletState) : st.idles = true ↔ st = .plugged ∨ st = .offered ∨ st = .ready := by
  cases st <;> simp [InletState.idles]

theorem deliver_tariff {total heat price fee grace : Nat} {idle : Bool} (h : a.satTotal = false) :
    (a.deliver total heat price fee grace idle).tariff = a.tariff := by
  rw [deliver_of_room h, takeIdle_eq]
  rfl

/-- R163, R164: what follows a delivery that newly caps or saturates the Active account. -/
theorem advance_announces (hruns : s.meterRuns = true) (hi : s.act.activeSlot = some i)
    (ha : (s.act.slots.get i).acct = some a) (h : a.turns (s.advanceBill e a)) :
    ((s.metered e).debited.settle.atn.sources.get 6).flag = true ∧
    (∃ ev, ((s.metered e).debited.settle.atn.sources.get 6).detail = some (.account (s.act.handle i) ev)) ∧
    (s.metered e).debited.settle.alc.inputs.capReached = (s.advanceBill e a).capReached ∧
    (s.metered e).debited.settle.alc.inputs.saturated = (s.advanceBill e a).saturated ∧
    (s.metered e).debited.settle.alc.held = false ∧
    s.InForce (s.metered e).debited.settle.alc ∧
    (s.sampleOpen = true → (s.metered e).debited.settle.alc.force ≠ s.alc.force →
      (s.metered e).debited.settle.imon = s.imon.discarded) := by
  have hannounced : (s.metered e).Announced (s.act.handle i) := by
    rw [metered_of_runs hruns]
    exact meterTick_announces (s := s.tickStart e) hi ha h
  have hsource : (s.metered e).debited.settle.atn.sources.get 6 = (s.metered e).atn.sources.get 6 :=
    (settle_other_source _ (by decide) (by decide)).trans (debited_source (by decide) _)
  have hflags : (s.metered e).act.activeFlags =
      some ((s.advanceBill e a).capReached, (s.advanceBill e a).saturated) :=
    activeFlags_of_slot ((advance_activeSlot hruns).trans hi) (advance_metered_acct hruns hi ha)
  have hstop : (s.advanceBill e a).capReached = true ∨ (s.advanceBill e a).saturated = true := by
    simp only [Account.saturated, Bool.or_eq_true]
    rcases h with ⟨-, h⟩ | ⟨-, h⟩ | ⟨-, h⟩ | ⟨-, h⟩ <;> simp [h]
  have hblocks : (s.metered e).blocksRun = true := (runs_congr (by simp)).1.trans (blocksRun_of_meterRuns hruns)
  obtain ⟨hcap, hsat, happlied, himon⟩ := settle_of_announced hannounced hflags hstop hblocks
  have hopen : (s.metered e).sampleOpen = s.sampleOpen := sampleOpen_congr (by simp)
  have hprio : (s.metered e).debited.priorities = s.priorities := by
    simp only [State.priorities, debited_zones, metered_frame]
  have hforce := happlied.force
  simp only [State.InForce, hprio, debited_frame, metered_frame] at hforce
  simp only [hopen, metered_frame] at himon
  rw [hsource]
  exact ⟨hannounced.flag, hannounced.detail, hcap, hsat, happlied.held, hforce, himon⟩

/-- R167: a cap newly reached is the detail of ACCOUNT. -/
theorem advance_cap_detail (hruns : s.meterRuns = true) (hi : s.act.activeSlot = some i)
    (ha : (s.act.slots.get i).acct = some a)
    (h : a.capReached = false ∧ (s.advanceBill e a).capReached = true) :
    ((s.metered e).debited.settle.atn.sources.get 6).detail =
      some (.account (s.act.handle i) .capReached) := by
  rw [settle_other_source _ (by decide) (by decide), debited_source (by decide), metered_of_runs hruns]
  exact meterTick_cap_detail (s := s.tickStart e) hi ha h

end

/-- Settles O48: the second without an advance, the debit of an advance, and its tick, target by target. -/
theorem clockAdvanceTakesATick : Obligations.ClockAdvanceTakesATick := by
  intro s e
  refine ⟨fun hearly => congrArg _ (if_neg (Nat.not_le.2 hearly)), fun hdue hlast => ?_, fun hdue hwall => ?_⟩
  · obtain ⟨-, hmtr, htck, -⟩ := settle_frame (s.secondExpires e)
    have hallow := (settle_allowance (s.secondExpires e)).1
    rw [secondExpires_of_last hlast] at hmtr htck hallow
    obtain ⟨hlastTick, hunbilled⟩ := secondEnded_meter e s
    refine ⟨_, exec_clockAdvance hdue e, ?_⟩
    rw [secondExpires_of_last hlast, hmtr]
    exact ⟨htck, hlastTick, hunbilled, hallow⟩
  · have hexec := exec_clockAdvance hdue e
    rw [secondExpires_eq hwall] at hexec
    obtain ⟨hstu, hmtr, htck, hrqp, hpwc, -⟩ := settle_frame (s.metered e).debited
    simp only [debited_frame, metered_frame] at hstu hmtr htck hrqp hpwc
    obtain ⟨hclock, hsecond, hoffset, hset⟩ := metered_clock e s
    have hdebits := settle_debits (s.metered e)
    simp only [metered_frame, metered_draws, metered_zone_source] at hdebits
    have hslot := settle_activeSlot (s.metered e).debited
    rw [debited_act] at hslot
    refine ⟨_, hexec, by rw [htck, hclock], by rw [htck, hsecond], by rw [htck, hoffset], by rw [htck, hset],
      hrqp, hstu, hpwc, hdebits, fun hstill => ?_, fun hruns => ?_⟩
    · have hmetered := metered_of_still hstill e
      refine ⟨by rw [hmtr, hmetered]; rfl, by rw [hslot, hmetered]; rfl, ?_⟩
      rw [settle_other_source _ (by decide) (by decide), debited_source (by decide), hmetered]
      rfl
    · intro joules three p1 p2 p3 total f heat crossing
      obtain ⟨wh, j, hrest⟩ := meterTick_mtr_rest (s.tck.wall + 1) (s.tickStart e)
      rw [← metered_of_runs hruns] at hrest
      have hactive : (s.metered e).debited.settle.act.activeSlot = s.act.activeSlot :=
        hslot.trans (advance_activeSlot hruns)
      refine ⟨heatShare_le total (s.tickStart e), by rw [hmtr, hrest]; rfl, by rw [hmtr, hrest]; rfl,
        by rw [hmtr, hrest]; rfl, fun i => ?_, by rw [hmtr, hrest]; rfl, by rw [hmtr, hrest]; rfl, hactive,
        fun i hi a ha => ?_, ⟨fun i b hcrosses hdue hlast => ?_, fun hnot => ?_⟩, fun hnone hroom => ?_,
        fun hkept => ?_, fun i a hi ha hsat => ?_, ?_⟩
      · rw [hmtr, hrest]
        exact Table.get_replicate 0 i
      · rw [settle_other_slot (by rw [debited_act, advance_activeSlot hruns]; exact hi),
          debited_act, metered_of_runs hruns, meterTick_other_slot (by exact hi)]
        exact crossed_acct (s := (s.tickStart e).modMtr _) ha crossing
      · exact advance_switches hruns hcrosses (due_iff.2 hdue) fun j hj =>
          Option.eq_none_iff_forall_ne_some.2 fun c hc => hlast j hj c (due_iff.1 hc)
      · exact advance_no_switch hruns (hnot.imp_right fun h j =>
          Option.eq_none_iff_forall_ne_some.2 fun c hc => h j c (due_iff.1 hc))
      · rw [hmtr]
        exact advance_unbilled hruns hnone hroom
      · rw [hmtr]
        exact advance_unbilled_kept hruns hkept
      · obtain ⟨c, hc⟩ := advance_acct (e := e) hruns hi ha
        rw [State.advanceBill, State.bill, deliver_of_saturated (by exact hsat)] at hc
        exact ⟨_, hc, rfl⟩
      · intro i a hi ha hsat hroom tariff tar price drawn idle minute fee sum full kept carried
        obtain ⟨c, hc⟩ := advance_acct (e := e) hruns hi ha
        obtain ⟨x, hx, hstanding⟩ := acct_of_activeSlot hi
        cases ha.symm.trans hx
        have hbill : s.advanceBill e a =
            (a.atTick crossing).deliver total heat price tar.idleFee tar.grace s.inl.state.idles := rfl
        have htakes : (a.atTick crossing).TakesEnergy total heat (s.advanceBill e a) := deliver_takes hsat hroom
        have hidle : (a.atTick crossing).TakesIdle idle tar.idleFee tar.grace (s.advanceBill e a) := by
          rw [hbill]
          exact deliver_idle (a := a.atTick crossing) hsat (and_congr_right' (idles_iff _).symm)
        have hcarried : (a.atTick crossing).carried total = carried := carryInto_carried hroom
        obtain ⟨hcost, henergy⟩ : (s.advanceBill e a).costEnergy = min 999999999999 (a.costEnergy + carried * price) ∧
            ((s.advanceBill e a).satEnergy = true ↔
              a.satEnergy = true ∨ 999999999999 < a.costEnergy + carried * price) := by
          rw [← hcarried]
          exact deliver_price hsat
        refine ⟨_, hc, (deliver_standing ..).trans hstanding, deliver_tariff hsat, htakes.holds, htakes.shares,
          htakes.totalJ, htakes.heatJ, htakes.hasDrawn, hcost, hidle.costIdle, hidle.idleMin, hidle.graceUsed,
          hidle.idleSec, htakes.satTotal, henergy, hidle.satIdle, deliver_caps hsat, fun hturns => ?_,
          fun hbefore hafter => advance_cap_detail hruns hi ha ⟨hbefore, hafter⟩⟩
        have hnew : a.turns (s.advanceBill e a) := hturns.imp_left fun hfull => ⟨hsat, htakes.satTotal.2 hfull⟩
        obtain ⟨hflag, hdetail, hcap, hsaturated, hheld, hforce, himon⟩ := advance_announces hruns hi ha hnew
        refine ⟨hflag, hdetail, hcap, hsaturated, hheld, hforce.1, hforce.2, fun hopen hchanged => ?_⟩
        rw [himon hopen hchanged, discarded_of_sampleOpen hopen]

end Sys2Proof.Machine
end

section
/-! The commands that are no business of the accounts or the tariffs (R35, R165): what the passes of an event leave of
both, and the commands that leave both but for those passes. -/

namespace Sys2Proof.Machine

/-- From `s` to `t` the tariffs stand, and so do the accounts but for the Active account's sticky flags. -/
def State.Spares (s t : State) : Prop := t.tck.tariffs = s.tck.tariffs ∧ s.act.Sticks t.act

/-- The commands that do more to the accounts or the tariffs than `State.Spares` allows. -/
def writesAccounts : Instr → Bool
  | .restart | .resetPin | .supplyReset | .stop | .resume | .shiftSampleEnd | .proximityReading _ _
  | .clockAdvance _ | .writeTariff | .openAccount | .amendAccount | .activateAccount | .suspendAccount
  | .closeAccount | .retireAccount => true
  | _ => false

section

variable {s t u : State}

theorem State.Spares.refl (s : State) : s.Spares s := ⟨rfl, sticks_refl _⟩

theorem State.Spares.trans (h : s.Spares t) (h' : t.Spares u) : s.Spares u :=
  ⟨h'.1.trans h.1, sticks_trans h.2 h'.2⟩

theorem spares_of_eq (hact : t.act = s.act) (htck : t.tck.tariffs = s.tck.tariffs) : s.Spares t :=
  ⟨htck, by rw [hact]; exact sticks_refl _⟩

/-! ### The passes of an event -/

theorem pass_spares (s : State) : s.Spares s.pass := ⟨by simp, pass_sticks s⟩

theorem survives_spares (s : State) : Survives s.Spares where
  pass _ h := h.trans (pass_spares _)
  inLine _ h := h.trans (spares_of_eq (by simp) (by simp))
  work _ _ h := h
  choice _ h := h
  unheld _ h := h
  restart _ _ h := h

theorem settle_spares (s : State) : s.Spares s.settle := settle_survives (survives_spares s) (.refl s)

theorem windowEnd_spares (s : State) : s.Spares s.windowEnd := windowEnd_survives (survives_spares s) (.refl s)

/-- An event whose own work leaves the accounts and the tariffs. -/
theorem settled_spares (hact : t.act = s.act) (htck : t.tck.tariffs = s.tck.tariffs) : s.Spares t.settle :=
  (spares_of_eq hact htck).trans (settle_spares t)

/-! ### Events -/

theorem completeBase_spares (s : State) : s.Spares s.completeBase := windowEnd_spares _

/-- R74: the Sample phase that an absent bus ends, if any, is the one that brings passes. -/
theorem noBus_spares (up un : Nat) (s : State) : s.Spares (s.noBus up un) := by
  have hended : s.Spares ((s.endCycle.modImon fun m => { m with
      uP0 := up, uN0 := un, vbus := up + un, outcome := .noBus,
      endTime := s.now }).polesUnknown.poleConditionsEnd.abandonLocating) :=
    spares_of_eq (by simp) (by simp)
  have hdue : ∀ u : State, u.Spares u.startCycleIfDue.trigger := fun u => spares_of_eq (by simp) (by simp)
  unfold State.noBus
  dsimp only
  split
  · exact (hended.trans (windowEnd_spares _)).trans (hdue _)
  · exact hended.trans (hdue _)

theorem poleReading_spares (up un : Nat) (s : State) : s.Spares (s.poleReading up un) := by
  unfold State.poleReading
  (repeat' split)
  · exact noBus_spares _ _ _
  · exact spares_of_eq rfl rfl
  · exact .refl s

theorem pilotWindow_act (w : PilotWindow) (s : State) : (s.pilotWindow w).act = s.act := by
  rw [pilotWindow_eq]
  split
  · rfl
  · rcases offerChange_cases s.inl.offerValid (s.inl.takeWindow w).offerValid
      (s.modInl (Inlet.takeWindow w)) with ⟨-, hsame⟩ | henter
    · rw [hsame]; rfl
    · rw [henter]; rfl

theorem takePark_spares (mode : ParkMode) (n : Nat) (s : State) : s.Spares (s.takePark mode n) := by
  unfold State.takePark State.enterMode
  (repeat' split)
  · exact spares_of_eq rfl rfl
  · exact settled_spares (by simp) (by simp)
  · exact spares_of_eq (by simp) (by simp)
  · exact spares_of_eq rfl rfl

/-! ### The requests -/

theorem heartbeat_spares (s : State) : s.Spares s.heartbeat := by
  unfold State.heartbeat
  (repeat' split) <;> exact spares_of_eq rfl rfl

theorem ownConfigure_spares (p : List Byte) (s : State) : s.Spares (ownConfigure p s).1 := by
  unfold ownConfigure
  (repeat' split)
  · exact .refl s
  · exact settled_spares rfl rfl
  · exact .refl s

theorem ownPark_spares (p : List Byte) (s : State) : s.Spares (ownPark p s).1 := by
  unfold ownPark
  (repeat' split)
  · exact .refl s
  · exact .refl s
  · exact takePark_spares _ _ s
  · exact .refl s

theorem ownSetChargeLimits_spares (p : List Byte) (s : State) : s.Spares (ownSetChargeLimits p s).1 := by
  unfold ownSetChargeLimits
  split
  · exact settled_spares rfl rfl
  · exact .refl s

theorem ownReportBattery_spares (p : List Byte) (s : State) : s.Spares (ownReportBattery p s).1 := by
  unfold ownReportBattery
  split
  · exact settled_spares rfl rfl
  · exact .refl s

theorem ownWriteCurve_spares (p : List Byte) (s : State) : s.Spares (ownWriteCurve p s).1 := by
  unfold ownWriteCurve
  (repeat' split)
  · exact .refl s
  · exact .refl s
  · exact .refl s
  · exact settled_spares rfl rfl
  · exact .refl s

theorem ownWriteZone_spares (p : List Byte) (s : State) : s.Spares (ownWriteZone p s).1 := by
  unfold ownWriteZone
  (repeat' split)
  · exact .refl s
  · exact .refl s
  · exact settled_spares rfl rfl
  · exact .refl s

theorem ownReadZone_spares (p : List Byte) (s : State) : s.Spares (ownReadZone p s).1 := by
  unfold ownReadZone
  (repeat' split) <;> exact .refl s

theorem resetZone_act (i : Fin 6) (s : State) : (s.resetZone i).act = s.act := by
  unfold State.resetZone
  dsimp only
  split <;> simp

theorem ownResetZone_spares (p : List Byte) (s : State) : s.Spares (ownResetZone p s).1 := by
  unfold ownResetZone
  (repeat' split)
  · exact .refl s
  · exact .refl s
  · exact .refl s
  · exact settled_spares (resetZone_act _ s) (congrArg _ (resetZone_frame s _).2.1)
  · exact .refl s

theorem setAllowance_spares (wh : Nat) (s : State) : s.Spares (s.setAllowance wh) := by
  unfold State.setAllowance
  (repeat' split) <;> exact spares_of_eq rfl rfl

theorem ownSetAllowance_spares (p : List Byte) (s : State) : s.Spares (ownSetAllowance p s).1 := by
  unfold ownSetAllowance
  split
  · exact (setAllowance_spares _ s).trans (settle_spares _)
  · exact .refl s

theorem ownSetThresholds_spares (p : List Byte) (s : State) : s.Spares (ownSetThresholds p s).1 := by
  unfold ownSetThresholds
  dsimp only
  (repeat' split) <;> exact spares_of_eq rfl rfl

theorem ownReadFault_spares (n : Nat) (s : State) : s.Spares (ownReadFault n s).1 := by
  unfold ownReadFault
  split <;> exact .refl s

theorem ownAcknowledgeFault_spares (n : Nat) (s : State) : s.Spares (ownAcknowledgeFault n s).1 := by
  unfold ownAcknowledgeFault
  (repeat' split) <;> exact spares_of_eq rfl rfl

theorem ownRetireFault_spares (n : Nat) (s : State) : s.Spares (ownRetireFault n s).1 := by
  unfold ownRetireFault
  (repeat' split) <;> exact spares_of_eq rfl rfl

theorem ownDiscardSnapshot_spares (s : State) : s.Spares (ownDiscardSnapshot s).1 := by
  unfold ownDiscardSnapshot
  split <;> exact spares_of_eq rfl rfl

/-- R134: the clock that is written keeps its tariffs. -/
theorem ownSetClock_spares (p : List Byte) (s : State) : s.Spares (ownSetClock p s).1 := by
  unfold ownSetClock
  split <;> exact spares_of_eq rfl rfl

theorem ownReadTariff_spares (n : Nat) (s : State) : s.Spares (ownReadTariff n s).1 := by
  unfold ownReadTariff
  split <;> exact .refl s

theorem ownFindAccount_spares (p : List Byte) (s : State) : s.Spares (ownFindAccount p s).1 := by
  unfold ownFindAccount
  (repeat' split) <;> exact .refl s

theorem ownReadAccount_spares (i : Fin 16) (a : Account) (p : List Byte) (s : State) :
    s.Spares (ownReadAccount i a p s).1 := by
  unfold ownReadAccount
  (repeat' split) <;> exact .refl s

theorem ownTakeAttention_spares (s : State) : s.Spares (ownTakeAttention s).1 := by
  unfold ownTakeAttention
  (repeat' split) <;> exact spares_of_eq rfl rfl

theorem ownReleaseAttention_spares (s : State) : s.Spares (ownReleaseAttention s).1 := by
  unfold ownReleaseAttention
  split <;> exact spares_of_eq rfl rfl

theorem ownSetAttentionSource_spares (p : List Byte) (s : State) : s.Spares (ownSetAttentionSource p s).1 := by
  unfold ownSetAttentionSource
  (repeat' split) <;> exact spares_of_eq rfl rfl

/-! ### Every command that books nothing -/

/-- A request spares the accounts and the tariffs where its owner does. -/
theorem request_spares {codes : Byte → Bool} {owner : List Byte → State → State × Reply}
    (h : ∀ p (u : State), u.Spares (owner p u).1) (s : State) : s.Spares (s.runRequest codes owner) :=
  request_keeps (P := s.Spares) (fun _ _ ht => ht) (fun p _ ht => ht.trans (h p _)) (.refl s)

theorem noPayload_spares {owner : State → State × Reply} (h : ∀ u : State, u.Spares (owner u).1) (p : List Byte)
    (s : State) : s.Spares (noPayload owner p s).1 :=
  keeps_noPayload (P := s.Spares) (fun _ ht => ht.trans (h _)) p s (.refl s)

theorem oneByte_spares {limit : Nat} {owner : Nat → State → State × Reply} (h : ∀ n (u : State), u.Spares (owner n u).1)
    (p : List Byte) (s : State) : s.Spares (oneByte limit owner p s).1 :=
  keeps_oneByte (P := s.Spares) (fun _ _ ht => ht.trans (h _ _)) p s (.refl s)

theorem withHandle_spares {length : Nat} {free : List Byte}
    {owner : Fin 16 → Account → List Byte → State → State × Reply} (h : ∀ i a p (u : State), u.Spares (owner i a p u).1)
    (p : List Byte) (s : State) : s.Spares (withHandle length free owner p s).1 :=
  keeps_withHandle (P := s.Spares) (fun _ _ _ _ ht => ht.trans (h _ _ _ _)) p s (.refl s)

end

/-- A command that writes neither the accounts nor the tariffs: by the operations of its event, or by its owner. -/
theorem exec_spares {c : Instr} {s t : State} (hc : writesAccounts c = false) (ht : exec c s = .next t) :
    s.Spares t := by
  cases c <;> cases ht
  case restart | resetPin | supplyReset | stop | resume | shiftSampleEnd | proximityReading | clockAdvance |
      writeTariff | openAccount | amendAccount | activateAccount | suspendAccount | closeAccount |
      retireAccount => cases hc
  case identify | readResetCauses | readInlet | readCurve | readAllowance | readInsulation | readSnapshot |
      readClock | listAccounts => exact request_spares (noPayload_spares fun _ => .refl _) s
  case readAllocation | readMeter => exact request_spares (oneByte_spares fun _ _ => .refl _) s
  case clearResetCauses | clearUnbilled =>
    exact request_spares (noPayload_spares fun _ => spares_of_eq rfl rfl) s
  case unknownRequest => exact request_spares (fun _ _ => .refl _) s
  case configure => exact request_spares ownConfigure_spares s
  case heartbeat =>
    exact request_spares (noPayload_spares fun u => (heartbeat_spares u).trans (settle_spares _)) s
  case park => exact request_spares ownPark_spares s
  case setChargeLimits => exact request_spares ownSetChargeLimits_spares s
  case reportBattery => exact request_spares ownReportBattery_spares s
  case writeCurve => exact request_spares ownWriteCurve_spares s
  case writeZone => exact request_spares ownWriteZone_spares s
  case readZone => exact request_spares ownReadZone_spares s
  case resetZone => exact request_spares ownResetZone_spares s
  case setAllowance => exact request_spares ownSetAllowance_spares s
  case setThresholds => exact request_spares ownSetThresholds_spares s
  case readFault => exact request_spares (oneByte_spares ownReadFault_spares) s
  case acknowledgeFault => exact request_spares (oneByte_spares ownAcknowledgeFault_spares) s
  case retireFault => exact request_spares (oneByte_spares ownRetireFault_spares) s
  case discardSnapshot => exact request_spares (noPayload_spares ownDiscardSnapshot_spares) s
  case setClock => exact request_spares ownSetClock_spares s
  case readTariff => exact request_spares (oneByte_spares ownReadTariff_spares) s
  case findAccount => exact request_spares ownFindAccount_spares s
  case readAccount => exact request_spares (withHandle_spares ownReadAccount_spares) s
  case takeAttention => exact request_spares (noPayload_spares ownTakeAttention_spares) s
  case releaseAttention => exact request_spares (noPayload_spares ownReleaseAttention_spares) s
  case setAttentionSource => exact request_spares ownSetAttentionSource_spares s
  case transactionStart | transactionEnd | baseSettleEnd | shiftSettleEnd => split <;> exact spares_of_eq rfl rfl
  case idleTimerExpiry | pausingTimerExpiry | periodicPass | batteryReportStale | supervisionExpiry =>
    split
    · exact settled_spares rfl rfl
    · exact .refl s
  case quickReading | zoneSensorReading | wakeLineEdge | wakeTimerExpiry | resumptionEnd | startingEnd =>
    split
    · exact settled_spares (by simp) (by simp)
    · exact .refl s
  case pilotWindowEnd w =>
    split
    · exact settled_spares (pilotWindow_act w s) (congrArg _ (pilotWindow_frame w s).2.1)
    · exact .refl s
  case poleVoltageReading up un =>
    split
    · exact .refl s
    · exact (poleReading_spares _ _ s).trans (settle_spares _)
  case cyclePeriodExpiry => split <;> exact spares_of_eq (by simp) (by simp)
  case baseSampleEnd =>
    split
    · exact (completeBase_spares s).trans (settle_spares _)
    · exact .refl s
  case resetPinRelease => exact spares_of_eq rfl rfl

end Sys2Proof.Machine
end

section
/-! The accounts' namings (R136): how often the accounts name a tariff, slot by slot, and what a change of one slot and
of the reference counts makes of O54's invariant. -/

namespace Sys2Proof.Machine

/-! ### Namings -/

/-- R136: how often the account of a slot names tariff `i`; a Free slot names none. -/
def Slot.names (i : Fin 8) (sl : Slot) : Nat := (sl.acct.map (Account.names i)).getD 0

/-- R136: how often the accounts name tariff `i`. -/
def Accounts.namings (i : Fin 8) (t : Accounts) : Nat := ∑ k, (t.slots.get k).names i

/-- R156: a Closed account of the slot has no pending tariff. -/
def Slot.cleared (sl : Slot) : Prop := ∀ a, sl.acct = some a → a.state = .closed → a.pending = none

theorem names_of_some {sl : Slot} {a : Account} (h : sl.acct = some a) (i : Fin 8) : sl.names i = a.names i := by
  simp [Slot.names, h]

theorem names_of_none {sl : Slot} (h : sl.acct = none) (i : Fin 8) : sl.names i = 0 := by
  simp [Slot.names, h]

theorem cleared_of_some {sl : Slot} {a : Account} (h : sl.acct = some a)
    (hclosed : a.state = .closed → a.pending = none) : sl.cleared := fun b hb => by
  cases h.symm.trans hb
  exact hclosed

theorem cleared_of_none {sl : Slot} (h : sl.acct = none) : sl.cleared := fun a ha => by
  cases h.symm.trans ha

/-- The sum over the accounts that stand is the sum over the slots. -/
theorem standing_namings (i : Fin 8) (t : Accounts) : (t.standing.map (Account.names i)).sum = t.namings i := by
  have hslots : ∀ l : List Slot,
      ((l.filterMap Slot.acct).map (Account.names i)).sum = (l.map (Slot.names i)).sum := by
    intro l
    induction l with
    | nil => rfl
    | cons sl rest ih => cases ha : sl.acct <;> simp [Slot.names, ha, ih]
  have huniv : (fins 16).toFinset = Finset.univ := by
    ext k
    simp [mem_fins]
  rw [Accounts.standing, hslots, Table.items_eq, List.map_map, Accounts.namings, ← huniv,
    List.sum_toFinset _ (fins_nodup 16)]
  rfl

/-- Accounts that differ in one slot differ in the namings of that slot. -/
theorem namings_of_other {t u : Accounts} {k : Fin 16} (h : ∀ j, j ≠ k → u.slots.get j = t.slots.get j) (i : Fin 8) :
    u.namings i + (t.slots.get k).names i = t.namings i + (u.slots.get k).names i := by
  have hrest : ∑ j ∈ Finset.univ.erase k, (u.slots.get j).names i =
      ∑ j ∈ Finset.univ.erase k, (t.slots.get j).names i :=
    Finset.sum_congr rfl fun j hj => by rw [h j (Finset.ne_of_mem_erase hj)]
  have hsplit : ∀ v : Accounts, v.namings i =
      (v.slots.get k).names i + ∑ j ∈ Finset.univ.erase k, (v.slots.get j).names i := fun v =>
    (Finset.add_sum_erase _ _ (Finset.mem_univ k)).symm
  rw [hsplit u, hsplit t, hrest]
  omega

theorem names_le (t : Accounts) (k : Fin 16) (i : Fin 8) : (t.slots.get k).names i ≤ t.namings i :=
  Finset.single_le_sum (f := fun j => (t.slots.get j).names i) (fun _ _ => Nat.zero_le _) (Finset.mem_univ k)

/-! ### The invariant (R136, R138, R156) -/

/-- The references of the tariffs `c` are the namings of the accounts `t`. -/
structure Accounts.Counted (c : Table 8 Tariff) (t : Accounts) : Prop where
  refs    : ∀ i, (c.get i).refs = t.namings i
  defined : ∀ i, (c.get i).refs ≠ 0 → (c.get i).defined = true
  cleared : ∀ k, (t.slots.get k).cleared

/-- O54's invariant. -/
def State.Counted (s : State) : Prop := s.act.Counted s.tck.tariffs

theorem mem_standing {t : Accounts} {a : Account} : a ∈ t.standing ↔ ∃ k, (t.slots.get k).acct = some a := by
  simp [Accounts.standing, List.mem_filterMap, Table.mem_items]

/-- The invariant in the words of O54. -/
theorem counted_iff (s : State) : s.Counted ↔
    s.refsCount = true ∧ ∀ a ∈ s.act.standing, a.state = .closed → a.pending = none := by
  have hrefs : s.refsCount = true ↔ ∀ i, (s.tck.tariffs.get i).refs = s.act.namings i ∧
      ((s.tck.tariffs.get i).refs ≠ 0 → (s.tck.tariffs.get i).defined = true) := by
    simp only [State.refsCount, List.all_eq_true, mem_fins, true_imp_iff, Bool.and_eq_true, Bool.or_eq_true,
      decide_eq_true_eq, standing_namings, or_iff_not_imp_left]
    exact .rfl
  rw [hrefs]
  constructor
  · rintro ⟨hcount, hdefined, hcleared⟩
    refine ⟨fun i => ⟨hcount i, hdefined i⟩, fun a ha => ?_⟩
    obtain ⟨k, hk⟩ := mem_standing.1 ha
    exact hcleared k a hk
  · rintro ⟨hcount, hcleared⟩
    exact ⟨fun i => (hcount i).1, fun i => (hcount i).2, fun k a ha => hcleared a (mem_standing.2 ⟨k, ha⟩)⟩

section

variable {s t : State} {k : Fin 16} {a : Account}

theorem counted_congr (hact : t.act = s.act) (htck : t.tck.tariffs = s.tck.tariffs) (h : s.Counted) : t.Counted := by
  rw [State.Counted, hact, htck]
  exact h

/-- R136, R138: a change of one slot, whose new namings are of defined tariffs, with the reference counts moved by
the namings gained and lost. -/
theorem counted_of_moved (h : s.Counted) (hother : ∀ j, j ≠ k → t.act.slots.get j = s.act.slots.get j)
    (hcleared : (t.act.slots.get k).cleared)
    (hrefs : ∀ i, (t.tck.tariffs.get i).refs =
      (s.tck.tariffs.get i).refs + (t.act.slots.get k).names i - (s.act.slots.get k).names i)
    (hsame : ∀ i, (t.tck.tariffs.get i).defined = (s.tck.tariffs.get i).defined)
    (hnew : ∀ i, (s.act.slots.get k).names i = 0 → (t.act.slots.get k).names i ≠ 0 →
      (s.tck.tariffs.get i).defined = true) : t.Counted := by
  obtain ⟨hcount, hdefined, hrest⟩ := h
  refine ⟨fun i => ?_, fun i hi => ?_, fun j => ?_⟩
  · have hmoved := namings_of_other hother i
    have hle := names_le s.act k i
    rw [hrefs, hcount]
    omega
  · rw [hsame]
    by_cases hzero : (s.tck.tariffs.get i).refs = 0
    · have hle := names_le s.act k i
      rw [← hcount, hzero] at hle
      rw [hrefs, hzero] at hi
      exact hnew i (Nat.le_zero.1 hle) (by omega)
    · exact hdefined i hzero
  · by_cases hj : j = k
    · rw [hj]
      exact hcleared
    · rw [hother j hj]
      exact hrest j

/-- Accounts that keep their namings, of which none is newly Closed. -/
theorem counted_of_kept (htck : t.tck.tariffs = s.tck.tariffs)
    (hnames : ∀ j i, (t.act.slots.get j).names i = (s.act.slots.get j).names i)
    (hcleared : ∀ j, (s.act.slots.get j).cleared → (t.act.slots.get j).cleared) (h : s.Counted) : t.Counted := by
  obtain ⟨hcount, hdefined, hrest⟩ := h
  refine ⟨fun i => ?_, by rwa [htck], fun j => hcleared j (hrest j)⟩
  rw [htck, hcount i]
  exact Finset.sum_congr rfl fun j _ => (hnames j i).symm

/-- R35: a sticky flag names no tariff. -/
theorem counted_of_spares (hspares : s.Spares t) (h : s.Counted) : t.Counted := by
  obtain ⟨htck, -, hother, hacct⟩ := hspares
  have hslot : ∀ j, t.act.slots.get j = s.act.slots.get j ∨
      ∃ a c, (s.act.slots.get j).acct = some a ∧ (t.act.slots.get j).acct = some { a with sticky := c } := by
    intro j
    by_cases hj : s.act.activeSlot = some j
    · obtain ⟨a, ha, -⟩ := acct_of_activeSlot hj
      obtain ⟨b, hb, hsticky, -⟩ := hacct j a ha
      exact .inr ⟨a, b.sticky, ha, hb.trans (congrArg some hsticky)⟩
    · exact .inl (hother j hj)
  refine counted_of_kept htck (fun j i => ?_) (fun j hj => ?_) h
  · rcases hslot j with hsame | ⟨a, c, ha, hb⟩
    · rw [hsame]
    · rw [names_of_some ha, names_of_some hb]
      rfl
  · rcases hslot j with hsame | ⟨a, c, ha, hb⟩
    · rw [hsame]
      exact hj
    · exact cleared_of_some hb (hj a ha)

theorem settle_counted (h : s.Counted) : s.settle.Counted := counted_of_spares (settle_spares s) h

/-! ### One account changed -/

theorem modAccount_slot (ha : (s.act.slots.get k).acct = some a) (f : Account → Account) :
    ((s.modAccount k f).act.slots.get k).acct = some (f a) ∧
    (∀ j, j ≠ k → (s.modAccount k f).act.slots.get j = s.act.slots.get j) := by
  simp +contextual [State.modAccount, ha, Table.get_modify_ne]

/-- An account that keeps its tariffs, and is not newly Closed. -/
theorem modAccount_counted {f : Account → Account} (h : s.Counted)
    (hf : ∀ a, (s.act.slots.get k).acct = some a →
      (f a).tariff = a.tariff ∧ (f a).pending = a.pending ∧ ((f a).state = .closed → a.state = .closed)) :
    (s.modAccount k f).Counted := by
  refine counted_of_kept (s := s) rfl (fun j i => ?_) (fun j hj => ?_) h
  · rw [State.modAccount, modAct_act, Table.get_modify]
    split
    next hjk =>
      subst hjk
      cases ha : (s.act.slots.get j).acct with
      | none => simp [Slot.names, ha]
      | some a =>
        obtain ⟨htariff, hpending, -⟩ := hf a ha
        simp [Slot.names, ha, Account.names, htariff, hpending]
    next => rfl
  · rw [State.modAccount, modAct_act, Table.get_modify]
    split
    next hjk =>
      subst hjk
      intro b hb hclosed
      obtain ⟨a, ha, rfl⟩ := Option.map_eq_some_iff.1 hb
      obtain ⟨-, hpending, hstate⟩ := hf a ha
      exact hpending.trans (hj a ha (hstate hclosed))
    next => exact hj

/-! ### The reference counts (R138) -/

theorem refs_modTariff (b i : Fin 8) (f : Tariff → Tariff) (s : State) :
    (s.modTariff b f).tck.tariffs.get i = if b = i then f (s.tck.tariffs.get i) else s.tck.tariffs.get i := by
  simp only [State.modTariff, modTck_tck, Table.get_modify, eq_comm]

theorem refs_takeRef (b i : Fin 8) (s : State) :
    ((s.takeRef b).tck.tariffs.get i).refs = (s.tck.tariffs.get i).refs + if b = i then 1 else 0 := by
  rw [State.takeRef, refs_modTariff]
  split <;> rfl

theorem refs_releaseRef (b i : Fin 8) (s : State) :
    ((s.releaseRef b).tck.tariffs.get i).refs = (s.tck.tariffs.get i).refs - if b = i then 1 else 0 := by
  rw [State.releaseRef, refs_modTariff]
  split <;> rfl

theorem refs_releasePending (p : Option (Fin 8)) (i : Fin 8) (s : State) :
    ((s.releasePending p).tck.tariffs.get i).refs = (s.tck.tariffs.get i).refs - if p = some i then 1 else 0 := by
  cases p with
  | none => rfl
  | some b => simpa [State.releasePending] using refs_releaseRef b i s

/-- What keeps a tariff's definition keeps it defined. -/
theorem defined_of_stands (h : s.Stands t) (i : Fin 8) :
    (t.tck.tariffs.get i).defined = (s.tck.tariffs.get i).defined :=
  congrArg (fun d : List TariffBand × Nat × Nat => !d.1.isEmpty) (h .tariffs i)

/-- R138: an account whose references move with its namings, each to a defined tariff. -/
theorem counted_of_rebooked {b : Account} (h : s.Counted) (ha : (s.act.slots.get k).acct = some a)
    (hother : ∀ j, j ≠ k → t.act.slots.get j = s.act.slots.get j)
    (hb : (t.act.slots.get k).acct = some b) (hclosed : b.state = .closed → b.pending = none)
    (hrefs : ∀ i, (t.tck.tariffs.get i).refs = (s.tck.tariffs.get i).refs + b.names i - a.names i)
    (hstands : s.Stands t)
    (hnew : ∀ i, a.names i = 0 → b.names i ≠ 0 → (s.tck.tariffs.get i).defined = true) : t.Counted :=
  counted_of_moved h hother (cleared_of_some hb hclosed)
    (fun i => by rw [names_of_some ha, names_of_some hb]; exact hrefs i) (defined_of_stands hstands)
    fun i => by rw [names_of_some ha, names_of_some hb]; exact hnew i

end

end Sys2Proof.Machine
end

section
/-! The reference counts (R136, R138) through every command that writes the accounts or the tariffs: O54. -/

namespace Sys2Proof.Machine

section

variable {s t : State} {k : Fin 16} {a : Account}

/-! ### Accounts that become Active, or leave Active (R146) -/

theorem activateSlot_counted (h : s.Counted) (k : Fin 16) : (s.activateSlot k).Counted := by
  have hactive : (s.modAccount k fun a =>
      { a with state := .active, reason := none, firstActive := some (a.firstActive.getD s.now) }).Counted :=
    modAccount_counted h fun _ _ => ⟨rfl, rfl, nofun⟩
  exact counted_congr (by simp [State.activateSlot]) (by simp [State.activateSlot]) hactive

theorem suspendSlot_counted (h : s.Counted) (k : Fin 16) (r : SuspendReason) : (s.suspendSlot k r).Counted := by
  have hsuspended : (s.modAccount k fun a => { a with state := .suspended, reason := some r }).Counted :=
    modAccount_counted h fun _ _ => ⟨rfl, rfl, nofun⟩
  exact counted_congr (by simp [State.suspendSlot]) (by simp [State.suspendSlot]) hsuspended

theorem autoSuspend_counted (h : s.Counted) (r : SuspendReason) (e : AcctEvent) : (s.autoSuspend r e).Counted := by
  unfold State.autoSuspend
  split
  · exact h
  · exact suspendSlot_counted h _ r

theorem takeStop_counted (h : s.Counted) (c : StopCause) : (s.takeStop c).Counted := by
  have hbanked : (s.bankStop c).Counted := counted_congr (by simp) (by simp) h
  exact counted_congr (takeStop_act c s) (by simp) (autoSuspend_counted hbanked .stop .suspendedStop)

theorem portReset_counted (h : s.Counted) (c : ResetCauses) : (s.portReset c).Counted := by
  have hsuspend : ∀ u : State, u.Counted → u.suspendAtReset.clearWork.Counted := fun u hu => by
    unfold State.suspendAtReset
    split
    · exact hu
    · exact suspendSlot_counted hu _ .portReset
  exact hsuspend _ (counted_congr (by simp) (by simp) h)

theorem reactivate_counted (h : s.Counted) (x : Option Handle) : (s.reactivate x).Counted := by
  unfold State.reactivate
  (repeat' split)
  · exact h
  · exact activateSlot_counted h _
  · exact h

/-! ### The inlet and the measurement -/

theorem unplug_counted (h : s.Counted) : s.unplug.Counted := by
  have hcleared : ((s.modInl fun i => { i with cls := none, pilot := false, duty := 0, offered := 0 }).modAlc
      fun a => { a with chargerCmd := 0 }).Counted := h
  exact counted_congr (by simp [State.unplug]) (by simp [State.unplug])
    (autoSuspend_counted hcleared .unplug .suspendedUnplug)

theorem readProximity_counted (h : s.Counted) (ohms : Nat) (f : FrontEnd) : (s.readProximity ohms f).Counted := by
  simp only [State.readProximity]
  split
  · unfold State.bandAccepted
    split
    · rw [plugOrWake_eq]
      refine counted_congr ?_ ?_ h
      · unfold State.awake
        split <;> simp [State.plug]
      · simp [awake_frame]
    · exact unplug_counted h
    · exact counted_congr (by simp [State.classChange]) (by simp [State.classChange]) h
    · exact h
  · exact h

theorem passAndStop_counted (h : s.Counted) (fault : Bool) : (s.passAndStop fault).Counted := by
  have hstart : s.nextChoice.Counted := h
  unfold State.passAndStop
  (repeat' split)
  · exact settle_counted (takeStop_counted (settle_counted hstart) _)
  · exact settle_counted (settle_counted (takeStop_counted hstart _))
  · exact settle_counted h

theorem completeShift_counted (h : s.Counted) : s.completeShift.Counted := by
  have hend : s.endCycle.windowEnd.Counted :=
    counted_of_spares (windowEnd_spares _) (counted_congr (by simp) (by simp) h)
  unfold State.completeShift
  exact passAndStop_counted (counted_congr (by simp) (by simp) hend) _

/-! ### The clock (R132, R139, R159) -/

theorem taken_names (b : Fin 8) (a : Account) (i : Fin 8) :
    ({ a with tariff := b, pending := none } : Account).names i = if b = i then 1 else 0 := rfl

/-- R138, R139: a switch releases the tariff that the account leaves, and keeps the reference of the one it takes. -/
theorem switchSlot_counted (h : s.Counted) (k : Fin 16) : (s.switchSlot k).Counted := by
  cases hdue : (s.act.slots.get k).due with
  | none =>
    rw [switchSlot_of_none hdue]
    exact h
  | some b =>
    obtain ⟨a, ha, hopen, hb⟩ := due_iff.1 hdue
    have hstands := switchSlot_stands (s := s) k
    have hslot := switchSlot_slot s k
    have hself := hslot k
    rw [if_pos rfl] at hself
    have hacct : ((s.switchSlot k).act.slots.get k).acct = some { a with tariff := b, pending := none } := by
      rw [hself]
      simp [Slot.switched, Account.switched, ha, hopen, hb]
    refine counted_of_rebooked h ha (fun j hj => by rw [hslot, if_neg hj]) hacct (fun _ => rfl) (fun i => ?_)
      hstands fun i => ?_
    · rw [switchSlot_of_due ha hopen hb]
      refine (refs_releaseRef a.tariff i _).trans ?_
      simp only [modAccount_frame, taken_names]
      rw [Account.names, hb]
      simp only [Option.some.injEq]
      omega
    · rw [taken_names, Account.names, hb]
      simp only [Option.some.injEq]
      omega

theorem switchTariffs_counted (h : s.Counted) : s.switchTariffs.Counted := by
  unfold State.switchTariffs
  induction fins 16 generalizing s with
  | nil => exact h
  | cons k rest ih => exact ih (switchSlot_counted h k)

/-- R159: a delivery names no tariff. -/
theorem deliver_names (total heat price fee grace : Nat) (idle : Bool) (a : Account) :
    (a.deliver total heat price fee grace idle).tariff = a.tariff ∧
    (a.deliver total heat price fee grace idle).pending = a.pending := by
  cases hsat : a.satTotal with
  | true =>
    rw [deliver_of_saturated hsat]
    exact ⟨rfl, rfl⟩
  | false =>
    rw [deliver_of_room hsat, takeIdle_eq]
    exact ⟨rfl, rfl⟩

theorem deliver_counted (h : s.Counted) (total heat wall : Nat) : (s.deliver total heat wall).Counted := by
  cases hk : s.act.activeSlot with
  | none =>
    rw [deliver_of_none hk]
    exact h
  | some k =>
    obtain ⟨a, ha, -⟩ := acct_of_activeSlot hk
    have hbilled : (s.modAccount k fun _ => s.bill total heat wall a).Counted :=
      modAccount_counted h fun x hx => by
        cases ha.symm.trans hx
        obtain ⟨htariff, hpending⟩ := deliver_names ..
        exact ⟨htariff, hpending, fun hclosed => (deliver_standing ..).symm.trans hclosed⟩
    rw [deliver_of_some hk, deliverTo_eq ha]
    exact counted_congr (by simp) (by simp) hbilled

theorem meterTick_counted (h : s.Counted) (wall : Nat) : (s.meterTick wall).Counted := by
  have hmeter : (s.modMtr (Meter.ticks (s.tickRecord wall))).Counted := h
  rw [meterTick_eq]
  refine deliver_counted ?_ _ _ wall
  unfold State.atTick State.crossed
  split
  · exact switchTariffs_counted hmeter
  · exact hmeter

theorem secondExpires_counted (h : s.Counted) (e : PhaseEnergy) : (s.secondExpires e).Counted := by
  rcases Nat.lt_or_ge s.tck.wall 4294967295 with hwall | hwall
  · have hmetered : (s.metered e).Counted := by
      unfold State.metered
      split
      · exact meterTick_counted (s := s.tickStart e) h _
      · exact h
    rw [secondExpires_eq hwall]
    exact counted_congr (by simp) (by simp) hmetered
  · rw [secondExpires_of_last hwall]
    exact h

/-! ### The requests of the tariffs and the accounts -/

/-- R141: a tariff that is written is named by no account. -/
theorem define_counted {i : Fin 8} (h : s.Counted) (hfree : (s.tck.tariffs.get i).refs = 0) (bands : List TariffBand)
    (fee grace : Nat) : (s.modTariff i (Tariff.define bands fee grace)).Counted := by
  have hkeeps : ∀ x : Tariff, (x.define bands fee grace).refs = x.refs := fun x => by
    unfold Tariff.define
    split <;> rfl
  obtain ⟨hcount, hdefined, hcleared⟩ := h
  refine ⟨fun j => ?_, fun j hj => ?_, hcleared⟩
  · rw [refs_modTariff, apply_ite Tariff.refs, hkeeps, ite_self]
    exact hcount j
  · rw [refs_modTariff] at hj ⊢
    split at hj
    next hij => exact absurd ((hkeeps _).trans (hij ▸ hfree)) hj
    next hij =>
      rw [if_neg hij]
      exact hdefined j hj

theorem ownWriteTariff_counted : Keeps State.Counted ownWriteTariff := by
  intro p s h
  unfold ownWriteTariff
  dsimp only
  (repeat' split)
  · exact h
  · exact h
  · exact h
  · exact h
  · exact h
  · exact h
  next hrefs _ => exact define_counted h (Nat.eq_zero_of_not_pos hrefs) _ _ _
  · exact h

/-- R148: the new account's one reference is to a defined tariff. -/
theorem fillSlot_counted {tariff : Fin 8} (h : s.Counted) (hfree : s.act.freeSlot = some k)
    (hdefined : (s.tariff tariff).defined = true) (htariff : a.tariff = tariff) (hpending : a.pending = none) :
    ((s.fillSlot k a).takeRef tariff).Counted := by
  have hnone : (s.act.slots.get k).acct = none := by simpa using Table.find_some hfree
  have hacct : (((s.fillSlot k a).takeRef tariff).act.slots.get k).acct = some a := by simp [State.fillSlot]
  have hnames : ∀ i, a.names i = if tariff = i then 1 else 0 := fun i => by simp [Account.names, htariff, hpending]
  refine counted_of_moved (k := k) h (fun j hj => ?_) (cleared_of_some hacct fun _ => hpending) (fun i => ?_)
    (defined_of_stands (State.Stands.trans (modAct_stands _) (takeRef_stands tariff))) fun i _ hi => ?_
  · simp [State.fillSlot, Table.get_modify_ne _ _ hj]
  · rw [refs_takeRef, names_of_some hacct, names_of_none hnone, hnames]
    rfl
  · rw [names_of_some hacct, hnames] at hi
    split at hi
    next heq => exact heq ▸ hdefined
    next => exact absurd rfl hi

theorem ownOpenAccount_counted : Keeps State.Counted ownOpenAccount := by
  intro p s h
  unfold ownOpenAccount
  (repeat' split)
  · exact h
  · exact h
  · exact h
  · exact h
  next hfree hdefined => exact fillSlot_counted h hfree hdefined rfl rfl
  · exact h
  · exact h

/-- R138: an Amend takes the reference of the pending tariff that is new, and releases that of the old one. -/
theorem amendRefs_refs {before after : Option (Fin 8)} (h : s.amendRefs before after = some t) (i : Fin 8) :
    (t.tck.tariffs.get i).refs = (s.tck.tariffs.get i).refs + (if after = some i then 1 else 0) -
      if before = some i then 1 else 0 := by
  unfold State.amendRefs at h
  (repeat' split at h) <;> cases h
  next heq => rw [heq, Nat.add_sub_cancel]
  · simp [refs_releasePending]
  · simp [refs_releasePending, refs_takeRef]

theorem amendRefs_defined {before : Option (Fin 8)} {b : Fin 8} (h : s.amendRefs before (some b) = some t)
    (hnew : before ≠ some b) : (s.tariff b).defined = true := by
  by_contra hundefined
  simp [State.amendRefs, hnew, hundefined] at h

theorem amend_names (p : List Byte) (after : Option (Fin 8)) (a : Account) (i : Fin 8) : (a.amend p after).names i =
    (if a.tariff = i then 1 else 0) + if after = some i then 1 else 0 := rfl

/-- R152: the amended account, with the references of its pending tariffs moved. -/
theorem amended_counted {after : Option (Fin 8)} (h : s.Counted) (ha : (s.act.slots.get k).acct = some a)
    (hopen : a.state ≠ .closed) (hrefs : s.amendRefs a.pending after = some t) (p : List Byte) :
    (t.modAccount k fun _ => a.amend p after).Counted := by
  have hact := (amendRefs_frame hrefs).2.2.2.2.2.2.1
  obtain ⟨hb, hother⟩ := modAccount_slot (s := t) (by rw [hact]; exact ha) fun _ => a.amend p after
  refine counted_of_rebooked h ha (fun j hj => by rw [hother j hj, hact]) hb (fun hclosed => absurd hclosed hopen)
    (fun i => ?_) ((amendRefs_stands hrefs).trans (modAct_stands _)) fun i hold hnew => ?_
  · simp only [modAccount_frame, amendRefs_refs hrefs, amend_names]
    rw [Account.names]
    omega
  · rw [amend_names] at hnew
    rw [Account.names] at hold
    obtain rfl : after = some i := by
      by_contra hne
      rw [if_neg hne] at hnew
      omega
    exact amendRefs_defined hrefs fun hsame => by simp [hsame] at hold

theorem amendTo_counted (after : Option (Fin 8)) (k : Fin 16) (a : Account) (p : List Byte) (s : State)
    (ha : (s.act.slots.get k).acct = some a) (h : s.Counted) : (amendTo after k a p s).1.Counted := by
  unfold amendTo
  split
  · exact h
  next hopen =>
    split
    · exact h
    next u hrefs =>
      have hamended := amended_counted h ha hopen hrefs p
      refine settle_counted ?_
      split
      · exact counted_congr (by simp) (by simp) hamended
      · exact hamended

theorem ownAmendAccount_counted (k : Fin 16) (a : Account) (p : List Byte) (s : State)
    (ha : (s.act.slots.get k).acct = some a) (h : s.Counted) : (ownAmendAccount k a p s).1.Counted := by
  unfold ownAmendAccount
  (repeat' split)
  · exact h
  · exact amendTo_counted _ _ _ _ _ ha h
  · exact amendTo_counted _ _ _ _ _ ha h

theorem ownActivateAccount_counted (k : Fin 16) (a : Account) (p : List Byte) (s : State) (h : s.Counted) :
    (ownActivateAccount k a p s).1.Counted := by
  unfold ownActivateAccount
  split
  · exact settle_counted (activateSlot_counted h k)
  · exact h

theorem ownSuspendAccount_counted (k : Fin 16) (a : Account) (p : List Byte) (s : State) (h : s.Counted) :
    (ownSuspendAccount k a p s).1.Counted := by
  unfold ownSuspendAccount
  split
  · exact settle_counted (suspendSlot_counted h k .request)
  · exact h

theorem close_names (now : Nat) (a : Account) (i : Fin 8) :
    (a.close now).names i = if a.tariff = i then 1 else 0 := rfl

/-- R156, R138: a Close drops the pending tariff with its reference. -/
theorem closeSlot_counted (h : s.Counted) (ha : (s.act.slots.get k).acct = some a) : (s.closeSlot k a).Counted := by
  obtain ⟨hb, hother⟩ := modAccount_slot ha fun x => x.close s.now
  have hclosed : ((s.modAccount k fun x => x.close s.now).releasePending a.pending).Counted := by
    refine counted_of_rebooked h ha (fun j hj => ?_) ((congrArg _ (by simp)).trans hb) (fun _ => rfl) (fun i => ?_)
      (State.Stands.trans (modAct_stands _) (releasePending_stands _)) fun i => ?_
    · simp only [releasePending_frame]
      exact hother j hj
    · simp only [refs_releasePending, modAccount_frame, close_names]
      rw [Account.names]
      omega
    · rw [close_names, Account.names]
      omega
  unfold State.closeSlot
  dsimp only
  split
  · exact counted_congr (by simp) (by simp) hclosed
  · exact hclosed

theorem ownCloseAccount_counted (k : Fin 16) (a : Account) (p : List Byte) (s : State)
    (ha : (s.act.slots.get k).acct = some a) (h : s.Counted) : (ownCloseAccount k a p s).1.Counted := by
  unfold ownCloseAccount
  split
  · exact h
  · exact settle_counted (closeSlot_counted h ha)

/-- R158: the one reference of a Closed account is that of its tariff. -/
theorem retireSlot_counted (h : s.Counted) (ha : (s.act.slots.get k).acct = some a) (hclosed : a.state = .closed) :
    (s.retireSlot k a).Counted := by
  have hpending : a.pending = none := h.cleared k a ha hclosed
  have hnone : ((s.retireSlot k a).act.slots.get k).acct = none := by simp [State.retireSlot, Slot.retire]
  refine counted_of_moved (k := k) h (fun j hj => ?_) (cleared_of_none hnone) (fun i => ?_)
    (defined_of_stands (State.Stands.trans (modAct_stands _) (releaseRef_stands _))) fun i _ hi => ?_
  · simp [State.retireSlot, Table.get_modify_ne _ _ hj]
  · rw [names_of_some ha, names_of_none hnone, State.retireSlot, refs_releaseRef]
    simp [Account.names, hpending]
  · exact absurd (names_of_none hnone i) hi

theorem ownRetireAccount_counted (k : Fin 16) (a : Account) (p : List Byte) (s : State)
    (ha : (s.act.slots.get k).acct = some a) (h : s.Counted) : (ownRetireAccount k a p s).1.Counted := by
  unfold ownRetireAccount
  split
  next hclosed => exact retireSlot_counted h ha hclosed
  · exact h

theorem ownResume_counted (s : State) (h : s.Counted) : (ownResume s).1.Counted := by
  unfold ownResume
  (repeat' split)
  · exact h
  · exact h
  next c _ _ =>
    have hrestored : (s.restore c).Counted :=
      counted_congr (restore_frame c s).2.1 (congrArg _ (restore_rest c s).2.2.2.1) h
    exact settle_counted (reactivate_counted hrestored c.handle)

/-! ### Every command -/

theorem request_counted {codes : Byte → Bool} {owner : List Byte → State → State × Reply}
    (h : Keeps State.Counted owner) (hs : s.Counted) : (s.runRequest codes owner).Counted :=
  request_keeps (fun _ _ ht => ht) h hs

theorem reset_counted : State.reset.Counted := (counted_iff _).2 ⟨by decide, by decide⟩

end

/-- O54 for one command that writes the accounts or the tariffs: by the operations of its event, or by its owner. -/
theorem exec_counted_of_writes {c : Instr} {s t : State} (hc : writesAccounts c = true) (h : s.Counted)
    (ht : exec c s = .next t) : t.Counted := by
  cases c <;> cases hc <;> cases ht
  case restart => exact request_counted (keeps_noPayload fun _ hs => portReset_counted hs _) h
  case stop => exact request_counted (keeps_noPayload fun _ hs => settle_counted (takeStop_counted hs _)) h
  case resume => exact request_counted (keeps_noPayload ownResume_counted) h
  case writeTariff => exact request_counted ownWriteTariff_counted h
  case openAccount => exact request_counted ownOpenAccount_counted h
  case amendAccount => exact request_counted (keeps_withHandle_of_standing ownAmendAccount_counted) h
  case activateAccount => exact request_counted (keeps_withHandle ownActivateAccount_counted) h
  case suspendAccount => exact request_counted (keeps_withHandle ownSuspendAccount_counted) h
  case closeAccount => exact request_counted (keeps_withHandle_of_standing ownCloseAccount_counted) h
  case retireAccount => exact request_counted (keeps_withHandle_of_standing ownRetireAccount_counted) h
  case proximityReading ohms f =>
    split
    · exact settle_counted (readProximity_counted h ohms f)
    · exact h
  case clockAdvance e =>
    split
    · exact settle_counted (secondExpires_counted h e)
    · exact h
  case shiftSampleEnd =>
    split
    · exact completeShift_counted h
    · exact h
  case supplyReset => exact reset_counted
  case resetPin =>
    split
    · exact h
    · exact portReset_counted h _

theorem exec_counted {c : Instr} {s t : State} (h : s.Counted) (ht : exec c s = .next t) : t.Counted := by
  cases hc : writesAccounts c with
  | false => exact counted_of_spares (exec_spares hc ht) h
  | true => exact exec_counted_of_writes hc h ht

/-- Settles O54: one ms moves TCK's second timer alone, and every command moves the references with the namings. -/
theorem referencesAreCounted : Obligations.ReferencesAreCounted := by
  intro s t h hstep
  rw [← counted_iff] at h ⊢
  unfold step at hstep
  split at hstep
  · cases hstep
    exact counted_congr (by simp) (by rw [tick_tck]; rfl) h
  next _ rest _ => exact exec_counted (s := s.withPending rest) h hstep

end Sys2Proof.Machine
end

section
/-! How an account changes (R145, R156, R164, R165): what it keeps, what only rises, and that its ranges stand, from one
account to the next, for the changes that the events of the part bring. -/

namespace Sys2Proof.Machine

/-! ### What only rises -/

/-- What an account keeps for its life, what only rises, and that a Closed account does not change. -/
structure Account.Rises (a b : Account) : Prop where
  token      : b.token = a.token
  total      : a.totalWh * 3600 + a.totalJ ≤ b.totalWh * 3600 + b.totalJ
  heat       : a.heatWh * 3600 + a.heatJ ≤ b.heatWh * 3600 + b.heatJ
  costEnergy : a.costEnergy ≤ b.costEnergy
  costIdle   : a.costIdle ≤ b.costIdle
  idleMin    : a.idleMin ≤ b.idleMin
  graceUsed  : a.graceUsed ≤ b.graceUsed
  sticky     : a.sticky &&& b.sticky = a.sticky
  hasDrawn   : a.hasDrawn = true → b.hasDrawn = true
  satTotal   : a.satTotal = true → b.satTotal = true
  satEnergy  : a.satEnergy = true → b.satEnergy = true
  satIdle    : a.satIdle = true → b.satIdle = true
  frozen     : a.state = .closed → b = a

/-- R145: the caps that are present are within their ranges. -/
def Account.capsBounded (a : Account) : Prop :=
  (∀ c, a.energyCap = some c → c ≤ 99999999) ∧ ∀ c, a.costCap = some c → c ≤ 999999999999

/-- An account rises within its ranges; `limit` bounds the grace that it may use up. -/
structure Account.Grows (limit : Nat) (a b : Account) : Prop where
  rises     : a.Rises b
  registers : b.registersBounded = true
  grace     : b.graceUsed ≤ max a.graceUsed limit
  caps      : a.capsBounded → b.capsBounded

section

variable {a b c : Account} {limit : Nat}

theorem Account.Rises.refl (a : Account) : a.Rises a where
  token := rfl
  total := le_rfl
  heat := le_rfl
  costEnergy := le_rfl
  costIdle := le_rfl
  idleMin := le_rfl
  graceUsed := le_rfl
  sticky := BitVec.and_self
  hasDrawn := id
  satTotal := id
  satEnergy := id
  satIdle := id
  frozen _ := rfl

theorem Account.Rises.trans (h : a.Rises b) (h' : b.Rises c) : a.Rises c where
  token := h'.token.trans h.token
  total := h.total.trans h'.total
  heat := h.heat.trans h'.heat
  costEnergy := h.costEnergy.trans h'.costEnergy
  costIdle := h.costIdle.trans h'.costIdle
  idleMin := h.idleMin.trans h'.idleMin
  graceUsed := h.graceUsed.trans h'.graceUsed
  sticky := by rw [← h.sticky, BitVec.and_assoc, h'.sticky]
  hasDrawn := h'.hasDrawn ∘ h.hasDrawn
  satTotal := h'.satTotal ∘ h.satTotal
  satEnergy := h'.satEnergy ∘ h.satEnergy
  satIdle := h'.satIdle ∘ h.satIdle
  frozen hclosed := by
    obtain rfl := h.frozen hclosed
    exact h'.frozen hclosed

theorem Account.Grows.refl (h : a.registersBounded = true) : a.Grows limit a := ⟨.refl a, h, le_max_left _ _, id⟩

theorem Account.Grows.trans (h : a.Grows limit b) (h' : b.Grows limit c) : a.Grows limit c :=
  ⟨h.rises.trans h'.rises, h'.registers, h'.grace.trans (max_le h.grace (le_max_right _ _)), h'.caps ∘ h.caps⟩

/-! ### The ranges (R145, R159, R160) -/

theorem registersBounded_iff (a : Account) : a.registersBounded = true ↔
    a.totalJ < 3600 ∧ a.heatJ < 3600 ∧
    (a.totalWh < 99999999 ∨ (a.totalWh = 99999999 ∧ a.totalJ = 0 ∧ a.satTotal = true)) ∧
    a.idleSec < 60 ∧ a.idleMin ≤ 65535 ∧ a.heatWh * 3600 + a.heatJ ≤ a.totalWh * 3600 + a.totalJ ∧
    a.costEnergy ≤ 999999999999 ∧ a.costIdle ≤ 999999999999 := by
  simp only [Account.registersBounded, Bool.and_eq_true, Bool.or_eq_true, decide_eq_true_eq, and_assoc]
  exact .rfl

theorem bounded_iff (a : Account) :
    a.bounded = true ↔ a.registersBounded = true ∧ a.graceUsed ≤ 240 ∧ a.capsBounded := by
  simp only [Account.bounded, Account.capsBounded, Bool.and_eq_true, decide_eq_true_eq, Option.all_eq_true, and_assoc]
  exact .rfl

/-- R145: what grows within a grace of 240 stays within its ranges. -/
theorem bounded_of_grows (h : a.Grows 240 b) (ha : a.bounded = true) : b.bounded = true := by
  obtain ⟨-, hgrace, hcaps⟩ := (bounded_iff a).1 ha
  exact (bounded_iff b).2 ⟨h.registers, h.grace.trans (max_le hgrace le_rfl), h.caps hcaps⟩

/-! ### Changes that are no delivery -/

/-- What only a delivery or a pass changes: the token, the registers but for the idle seconds, and the flags. -/
def Account.registers (a : Account) :=
  (a.token, (a.totalWh, a.totalJ, a.heatWh, a.heatJ), (a.costEnergy, a.costIdle, a.idleMin, a.graceUsed), a.sticky,
    a.hasDrawn, a.satTotal, a.satEnergy, a.satIdle)

/-- A change of an account's standing, tariffs or caps. -/
theorem grows_of_rebooked (hregisters : b.registers = a.registers) (hidle : b.idleSec ≤ a.idleSec)
    (hcaps : a.capsBounded → b.capsBounded) (hopen : a.state ≠ .closed) (h : a.registersBounded = true) :
    a.Grows limit b := by
  simp only [Account.registers, Prod.mk.injEq] at hregisters
  obtain ⟨htoken, ⟨htotalWh, htotalJ, hheatWh, hheatJ⟩, ⟨henergy, hcost, hmin, hgrace⟩, hsticky, hdrawn, htotal,
    hsatEnergy, hsatIdle⟩ := hregisters
  obtain ⟨htotalJ', hheatJ', hroom, hsec, hrest⟩ := (registersBounded_iff a).1 h
  constructor
  case rises =>
    constructor
    case frozen => exact fun hclosed => absurd hclosed hopen
    case sticky => rw [hsticky, BitVec.and_self]
    all_goals simp only [*, le_refl, imp_self]
  case registers =>
    rw [registersBounded_iff, htotalWh, htotalJ, hheatWh, hheatJ, henergy, hcost, hmin, htotal]
    exact ⟨htotalJ', hheatJ', hroom, hidle.trans_lt hsec, hrest⟩
  case grace => exact hgrace.le.trans (le_max_left _ _)
  case caps => exact hcaps

/-- R35: causes join the sticky flags. -/
theorem grows_of_stuck (hb : b = { a with sticky := b.sticky }) (hgrows : a.sticky &&& b.sticky = a.sticky)
    (hopen : a.state ≠ .closed) (h : a.registersBounded = true) : a.Grows limit b := by
  rw [hb]
  exact ⟨{ Account.Rises.refl a with sticky := hgrows, frozen := fun hclosed => absurd hclosed hopen }, h,
    le_max_left _ _, id⟩

/-! ### A delivery (R159 to R164) -/

/-- What a delivery leaves of an account. -/
theorem deliver_rest (total heat price fee grace : Nat) (idle : Bool) (a : Account) :
    (a.deliver total heat price fee grace idle).token = a.token ∧
    (a.deliver total heat price fee grace idle).sticky = a.sticky ∧
    (a.deliver total heat price fee grace idle).energyCap = a.energyCap ∧
    (a.deliver total heat price fee grace idle).costCap = a.costCap := by
  cases hsat : a.satTotal with
  | true =>
    rw [deliver_of_saturated hsat]
    exact ⟨rfl, rfl, rfl, rfl⟩
  | false =>
    rw [deliver_of_room hsat, takeIdle_eq]
    exact ⟨rfl, rfl, rfl, rfl⟩

/-- R162: one tick's idle count keeps its registers' ranges, and lowers none but the idle seconds. -/
theorem takesIdle_grows {counts : Prop} [Decidable counts] {fee grace : Nat} (h : a.TakesIdle counts fee grace b)
    (hsec : a.idleSec < 60) (hmin : a.idleMin ≤ 65535) (hcost : a.costIdle ≤ 999999999999) :
    (a.costIdle ≤ b.costIdle ∧ b.costIdle ≤ 999999999999) ∧ (a.idleMin ≤ b.idleMin ∧ b.idleMin ≤ 65535) ∧
    (a.graceUsed ≤ b.graceUsed ∧ b.graceUsed ≤ max a.graceUsed grace) ∧ b.idleSec < 60 := by
  rw [h.costIdle, h.idleMin, h.graceUsed, h.idleSec]
  refine ⟨?_, ?_, ?_, ?_⟩
  · split <;> omega
  · split <;> omega
  · split <;> omega
  · split
    · decide
    next hminute =>
      split
      next hcounts =>
        have hearly : ¬ 59 ≤ a.idleSec := fun hlast => hminute ⟨hcounts, hlast⟩
        omega
      · exact hsec

/-- R159, R160: the energy taken keeps its registers' ranges, the heat within the total. -/
theorem takesEnergy_grows {total heat : Nat} (h : a.TakesEnergy total heat b) (hheat : heat ≤ total)
    (hroom : a.totalWh < 99999999) (hjoules : a.totalJ < 3600)
    (hshare : a.heatWh * 3600 + a.heatJ ≤ a.totalWh * 3600 + a.totalJ) :
    a.totalWh * 3600 + a.totalJ ≤ b.totalWh * 3600 + b.totalJ ∧
    a.heatWh * 3600 + a.heatJ ≤ b.heatWh * 3600 + b.heatJ ∧
    b.heatWh * 3600 + b.heatJ ≤ b.totalWh * 3600 + b.totalJ ∧
    (b.totalWh < 99999999 ∨ (b.totalWh = 99999999 ∧ b.totalJ = 0 ∧ b.satTotal = true)) := by
  obtain ⟨hholds, hshares, htotalJ, -, -, hsat⟩ := h
  rw [hsat]
  by_cases hfull : 99999999 * 3600 ≤ a.totalWh * 3600 + a.totalJ + total
  · rw [if_pos hfull] at hshares
    omega
  · rw [if_neg hfull] at hshares
    omega

/-- R159 to R164: a delivery raises the registers of an Active account within their ranges. -/
theorem deliver_grows {total heat price fee grace : Nat} {idle : Bool} (hheat : heat ≤ total) (hgrace : grace ≤ limit)
    (hactive : a.state = .active) (h : a.registersBounded = true) :
    a.Grows limit (a.deliver total heat price fee grace idle) := by
  cases hsat : a.satTotal with
  | true =>
    rw [deliver_of_saturated hsat]
    exact .refl h
  | false =>
    obtain ⟨htotalJ, -, hroom, hidleSec, hidleMin, hshare, hcostEnergy, hcostIdle⟩ := (registersBounded_iff a).1 h
    have hwh : a.totalWh < 99999999 := hroom.resolve_right fun hfull => nomatch hsat.symm.trans hfull.2.2
    have htakes : a.TakesEnergy total heat (a.deliver total heat price fee grace idle) := deliver_takes hsat hwh
    have hidles : a.TakesIdle ((a.hasDrawn || decide (0 < total)) = true ∧ idle = true) fee grace
        (a.deliver total heat price fee grace idle) := deliver_idle hsat .rfl
    obtain ⟨hmore, hwarmer, hwithin, hrange⟩ := takesEnergy_grows htakes hheat hwh htotalJ hshare
    obtain ⟨⟨hcost, hcost'⟩, ⟨hmin, hmin'⟩, ⟨hused, hused'⟩, hsec⟩ :=
      takesIdle_grows hidles hidleSec hidleMin hcostIdle
    obtain ⟨henergy, hsatEnergy⟩ := deliver_price (total := total) (heat := heat) (price := price) (fee := fee)
      (grace := grace) (idle := idle) hsat
    obtain ⟨htoken, hsticky, henergyCap, hcostCap⟩ := deliver_rest total heat price fee grace idle a
    constructor
    case rises =>
      constructor
      case token => exact htoken
      case total => exact hmore
      case heat => exact hwarmer
      case costEnergy => exact henergy ▸ le_min hcostEnergy (Nat.le_add_right _ _)
      case costIdle => exact hcost
      case idleMin => exact hmin
      case graceUsed => exact hused
      case sticky => rw [hsticky, BitVec.and_self]
      case hasDrawn => exact fun hd => by rw [htakes.hasDrawn, hd, Bool.true_or]
      case satTotal => exact fun hs => nomatch hsat.symm.trans hs
      case satEnergy => exact fun hs => hsatEnergy.2 (.inl hs)
      case satIdle => exact fun hs => hidles.satIdle.2 (.inl hs)
      case frozen => exact fun hclosed => nomatch hactive.symm.trans hclosed
    case registers =>
      exact (registersBounded_iff _).2
        ⟨htakes.totalJ, htakes.heatJ, hrange, hsec, hmin', hwithin, henergy ▸ min_le_left _ _, hcost'⟩
    case grace => exact hused'.trans (max_le_max le_rfl hgrace)
    case caps => exact fun hc => by simpa only [Account.capsBounded, henergyCap, hcostCap] using hc

end

end Sys2Proof.Machine
end

section
/-! The generations of the slots (R144): only a Retire and a supply reset write one. This file holds the commands that
write no account (`writesAccounts`). -/

namespace Sys2Proof.Machine

/-- R144: the generations, slot by slot. -/
def Accounts.gens (t : Accounts) : Table 16 Nat := t.slots.map Slot.gen

section

variable {s t : State}

theorem gen_of_gens {t u : Accounts} (h : u.gens = t.gens) (k : Fin 16) :
    (u.slots.get k).gen = (t.slots.get k).gen := by
  simpa [Accounts.gens] using congrArg (fun x => x.get k) h

theorem gens_of_slots {t u : Accounts} (h : ∀ k, (u.slots.get k).gen = (t.slots.get k).gen) : u.gens = t.gens :=
  Table.ext_get fun k => by simpa [Accounts.gens] using h k

/-! ### The passes of an event -/

theorem survives_gens (g : Table 16 Nat) : Survives fun t => t.act.gens = g :=
  survives_of_pass (fun _ _ act => act.gens = g) fun s h => (gens_of_slots fun k => (pass_act s k).1).trans h

@[simp] theorem settle_gens (s : State) : s.settle.act.gens = s.act.gens := settle_survives (survives_gens _) rfl

@[simp] theorem windowEnd_gens (s : State) : s.windowEnd.act.gens = s.act.gens :=
  windowEnd_survives (survives_gens _) rfl

/-! ### Events -/

theorem noBus_gens (up un : Nat) (s : State) : (s.noBus up un).act.gens = s.act.gens := by
  unfold State.noBus
  dsimp only
  split <;> simp

theorem poleReading_gens (up un : Nat) (s : State) : (s.poleReading up un).act.gens = s.act.gens := by
  unfold State.poleReading
  (repeat' split)
  · exact noBus_gens _ _ s
  · rfl
  · rfl

theorem enterMode_gens (mode : ParkMode) (s : State) : (s.enterMode mode).act.gens = s.act.gens := by
  unfold State.enterMode
  (repeat' split) <;> simp

/-! ### The requests -/

@[simp] theorem refuse_state (st : Status) (s : State) : (refuse st s).1 = s := rfl

section

variable {codes : Byte → Bool}

theorem request_gens {owner : List Byte → State → State × Reply}
    (h : ∀ p (u : State), (owner p u).1.act.gens = u.act.gens) (s : State) :
    (s.runRequest codes owner).act.gens = s.act.gens :=
  request_keeps (P := fun t => t.act.gens = s.act.gens) (fun _ _ ht => ht) (fun p _ ht => (h p _).trans ht) rfl

theorem noPayload_gens {owner : State → State × Reply} (h : ∀ u : State, (owner u).1.act.gens = u.act.gens)
    (s : State) : (s.runRequest codes (noPayload owner)).act.gens = s.act.gens :=
  request_gens (fun p u => keeps_noPayload (P := fun t => t.act.gens = u.act.gens)
    (fun v hv => (h v).trans hv) p u rfl) s

theorem oneByte_gens {limit : Nat} {owner : Nat → State → State × Reply}
    (h : ∀ n (u : State), (owner n u).1.act.gens = u.act.gens) (s : State) :
    (s.runRequest codes (oneByte limit owner)).act.gens = s.act.gens :=
  request_gens (fun p u => keeps_oneByte (P := fun t => t.act.gens = u.act.gens)
    (fun n v hv => (h n v).trans hv) p u rfl) s

end

theorem ownHeartbeat_gens (s : State) : (ownHeartbeat s).1.act.gens = s.act.gens := by
  unfold ownHeartbeat State.heartbeat
  (repeat' split) <;> simp

theorem ownPark_gens (p : List Byte) (s : State) : (ownPark p s).1.act.gens = s.act.gens := by
  unfold ownPark
  (repeat' split)
  · rfl
  · rfl
  · exact enterMode_gens _ _
  · rfl

theorem ownSetAllowance_gens (p : List Byte) (s : State) : (ownSetAllowance p s).1.act.gens = s.act.gens := by
  unfold ownSetAllowance State.setAllowance
  (repeat' split) <;> simp

theorem ownWriteZone_gens (p : List Byte) (s : State) : (ownWriteZone p s).1.act.gens = s.act.gens := by
  unfold ownWriteZone
  (repeat' split) <;> simp [State.takeWriteZone]

theorem ownSetThresholds_gens (p : List Byte) (s : State) : (ownSetThresholds p s).1.act.gens = s.act.gens := by
  unfold ownSetThresholds
  dsimp only
  (repeat' split) <;> rfl

theorem readAccount_gens (p : List Byte) (s : State) :
    (withHandle 3 [] ownReadAccount p s).1.act.gens = s.act.gens := by
  unfold withHandle ownReadAccount
  (repeat' split) <;> rfl

end

/-- R144: a command that writes no account leaves the generations: its owner or its event writes no slot, and the
passes that follow write sticky flags. -/
theorem exec_gens {c : Instr} {s t : State} (hc : writesAccounts c = false) (ht : exec c s = .next t) :
    t.act.gens = s.act.gens := by
  cases c <;> cases ht
  case restart | resetPin | supplyReset | stop | resume | shiftSampleEnd | proximityReading | clockAdvance |
      writeTariff | openAccount | amendAccount | activateAccount | suspendAccount | closeAccount |
      retireAccount => cases hc
  case identify | readResetCauses | readInlet | readCurve | readAllowance | readInsulation | readSnapshot |
      readClock | listAccounts | clearResetCauses | clearUnbilled => exact noPayload_gens (fun _ => rfl) s
  case readAllocation | readMeter => exact oneByte_gens (fun _ _ => rfl) s
  case unknownRequest => exact request_gens (fun _ _ => rfl) s
  case readAccount => exact request_gens readAccount_gens s
  case heartbeat => exact noPayload_gens ownHeartbeat_gens s
  case discardSnapshot => exact noPayload_gens (fun u => by unfold ownDiscardSnapshot; split <;> rfl) s
  case takeAttention => exact noPayload_gens (fun u => by unfold ownTakeAttention; (repeat' split) <;> rfl) s
  case releaseAttention => exact noPayload_gens (fun u => by unfold ownReleaseAttention; split <;> rfl) s
  case readFault => exact oneByte_gens (fun n u => by unfold ownReadFault; split <;> rfl) s
  case acknowledgeFault => exact oneByte_gens (fun n u => by unfold ownAcknowledgeFault; (repeat' split) <;> rfl) s
  case retireFault => exact oneByte_gens (fun n u => by unfold ownRetireFault; (repeat' split) <;> rfl) s
  case readTariff => exact oneByte_gens (fun n u => by unfold ownReadTariff; split <;> rfl) s
  case configure => exact request_gens (fun p u => by unfold ownConfigure; (repeat' split) <;> simp) s
  case park => exact request_gens ownPark_gens s
  case setChargeLimits => exact request_gens (fun p u => by unfold ownSetChargeLimits; split <;> simp) s
  case reportBattery => exact request_gens (fun p u => by unfold ownReportBattery; split <;> simp) s
  case writeCurve => exact request_gens (fun p u => by unfold ownWriteCurve; (repeat' split) <;> simp) s
  case writeZone => exact request_gens ownWriteZone_gens s
  case readZone => exact request_gens (fun p u => by unfold ownReadZone; (repeat' split) <;> rfl) s
  case resetZone => exact request_gens (fun p u => by unfold ownResetZone; (repeat' split) <;> simp [resetZone_act]) s
  case setAllowance => exact request_gens ownSetAllowance_gens s
  case setThresholds => exact request_gens ownSetThresholds_gens s
  case setClock => exact request_gens (fun p u => by unfold ownSetClock; split <;> rfl) s
  case findAccount => exact request_gens (fun p u => by unfold ownFindAccount; (repeat' split) <;> rfl) s
  case setAttentionSource => exact request_gens (fun p u => by unfold ownSetAttentionSource; (repeat' split) <;> rfl) s
  case transactionStart | transactionEnd | baseSettleEnd | shiftSettleEnd => split <;> rfl
  case idleTimerExpiry | pausingTimerExpiry | periodicPass | batteryReportStale | supervisionExpiry | quickReading |
      zoneSensorReading | wakeLineEdge | wakeTimerExpiry | resumptionEnd | startingEnd | cyclePeriodExpiry =>
    split <;> simp [State.expireSupervision]
  case pilotWindowEnd => split <;> simp [pilotWindow_act]
  case poleVoltageReading => split <;> simp [poleReading_gens]
  case baseSampleEnd => split <;> simp [State.completeBase]
  case resetPinRelease => rfl

end Sys2Proof.Machine
end

section
/-! The accounts that every command but Open, Retire and a supply reset leaves (R144, R145, R156): each in its slot,
with its generation, grown from what it was. -/

namespace Sys2Proof.Machine

/-- A slot keeps its generation; a Free slot stays Free, and an account within its ranges grows. -/
structure Slot.Grows (limit : Nat) (x y : Slot) : Prop where
  gen  : y.gen = x.gen
  free : x.acct = none → y.acct = none
  acct : ∀ a, x.acct = some a → a.registersBounded = true → ∃ b, y.acct = some b ∧ a.Grows limit b

/-- Every slot does. -/
def Accounts.Grows (limit : Nat) (t u : Accounts) : Prop := ∀ k, (t.slots.get k).Grows limit (u.slots.get k)

/-- R136: every tariff's grace is within `limit`. -/
def State.GraceWithin (limit : Nat) (s : State) : Prop := ∀ i, (s.tck.tariffs.get i).grace ≤ limit

section

variable {limit : Nat} {x y z : Slot} {t u v : Accounts}

theorem Slot.Grows.refl (x : Slot) : x.Grows limit x := ⟨rfl, id, fun a ha h => ⟨a, ha, .refl h⟩⟩

theorem Slot.Grows.trans (h : x.Grows limit y) (h' : y.Grows limit z) : x.Grows limit z := by
  refine ⟨h'.gen.trans h.gen, h'.free ∘ h.free, fun a ha hbounded => ?_⟩
  obtain ⟨b, hb, hgrows⟩ := h.acct a ha hbounded
  obtain ⟨c, hc, hgrows'⟩ := h'.acct b hb hgrows.registers
  exact ⟨c, hc, hgrows.trans hgrows'⟩

/-- An account changed in its slot. -/
theorem slot_grows_map {f : Account → Account}
    (hf : ∀ a, x.acct = some a → a.registersBounded = true → a.Grows limit (f a)) :
    x.Grows limit { x with acct := x.acct.map f } :=
  ⟨rfl, fun hnone => congrArg (Option.map f) hnone, fun a ha h => ⟨f a, congrArg (Option.map f) ha, hf a ha h⟩⟩

theorem Accounts.Grows.refl (t : Accounts) : t.Grows limit t := fun _ => .refl _

theorem Accounts.Grows.trans (h : t.Grows limit u) (h' : u.Grows limit v) : t.Grows limit v :=
  fun k => (h k).trans (h' k)

/-- `Accounts.Grows.trans` from its last step. -/
theorem grows_after (h' : u.Grows limit v) (h : t.Grows limit u) : t.Grows limit v := h.trans h'

theorem grows_of_eq (h : u = t) : t.Grows limit u := by
  rw [h]
  exact .refl t

/-- R35, R165: sticky flags that causes join. -/
theorem grows_of_sticks (h : t.Sticks u) (hgens : u.gens = t.gens) : t.Grows limit u := by
  obtain ⟨-, hother, hacct⟩ := h
  intro k
  by_cases hk : t.activeSlot = some k
  · obtain ⟨a, ha, hactive⟩ := acct_of_activeSlot hk
    obtain ⟨b, hb, hsame, hsticky⟩ := hacct k a ha
    refine ⟨gen_of_gens hgens k, fun hnone => (nomatch ha.symm.trans hnone), fun c hc hbounded => ?_⟩
    cases ha.symm.trans hc
    exact ⟨b, hb, grows_of_stuck hsame hsticky (by rw [hactive]; nofun) hbounded⟩
  · rw [hother k hk]
    exact .refl _

end

section

variable {limit : Nat} {s t : State} {k : Fin 16} {a : Account}

/-! ### The operations on one account -/

theorem settle_grows (s : State) : s.act.Grows limit s.settle.act := grows_of_sticks (settle_sticks s) (settle_gens s)

/-- The passes of an event whose own work grows the accounts. -/
theorem settled_grows (h : s.act.Grows limit t.act) : s.act.Grows limit t.settle.act := h.trans (settle_grows t)

theorem modAccount_grows {f : Account → Account}
    (hf : ∀ a, (s.act.slots.get k).acct = some a → a.registersBounded = true → a.Grows limit (f a)) :
    s.act.Grows limit (s.modAccount k f).act := by
  intro j
  rw [State.modAccount, modAct_act, Table.get_modify]
  split
  next hj =>
    subst hj
    exact slot_grows_map hf
  next => exact .refl _

/-- R146, R153: an account that is not Closed becomes Active. -/
theorem activateSlot_grows (hopen : ∀ a, (s.act.slots.get k).acct = some a → a.state ≠ .closed) :
    s.act.Grows limit (s.activateSlot k).act := by
  have hact : (s.activateSlot k).act = (s.modAccount k fun a =>
      { a with state := .active, reason := none, firstActive := some (a.firstActive.getD s.now) }).act := by
    simp [State.activateSlot]
  rw [hact]
  exact modAccount_grows fun a ha h => grows_of_rebooked rfl le_rfl id (hopen a ha) h

/-- R146, R154, R155: an account that is not Closed is Suspended. -/
theorem suspendSlot_grows (hopen : ∀ a, (s.act.slots.get k).acct = some a → a.state ≠ .closed) (r : SuspendReason) :
    s.act.Grows limit (s.suspendSlot k r).act := by
  have hact : (s.suspendSlot k r).act =
      (s.modAccount k fun a => { a with state := .suspended, reason := some r }).act := by
    simp [State.suspendSlot]
  rw [hact]
  exact modAccount_grows fun a ha h => grows_of_rebooked rfl le_rfl id (hopen a ha) h

theorem open_of_activeSlot (hk : s.act.activeSlot = some k) :
    ∀ a, (s.act.slots.get k).acct = some a → a.state ≠ .closed := by
  intro a ha
  obtain ⟨b, hb, hactive⟩ := acct_of_activeSlot hk
  cases ha.symm.trans hb
  rw [hactive]
  nofun

theorem autoSuspend_grows (r : SuspendReason) (e : AcctEvent) (s : State) :
    s.act.Grows limit (s.autoSuspend r e).act := by
  unfold State.autoSuspend
  split
  · exact .refl _
  next k hk => exact (suspendSlot_grows (open_of_activeSlot hk) r).trans (grows_of_eq (by simp))

theorem suspendAtReset_grows (s : State) : s.act.Grows limit s.suspendAtReset.act := by
  unfold State.suspendAtReset
  split
  · exact .refl _
  next k hk => exact suspendSlot_grows (open_of_activeSlot hk) .portReset

/-! ### Stops, resets, the inlet and the measurement -/

theorem takeStop_grows (c : StopCause) (s : State) : s.act.Grows limit (s.takeStop c).act := by
  rw [takeStop_act]
  exact grows_after (autoSuspend_grows .stop .suspendedStop _) (grows_of_eq (by simp))

theorem portReset_grows (c : ResetCauses) (s : State) : s.act.Grows limit (s.portReset c).act :=
  grows_after (suspendAtReset_grows _) (grows_of_eq (by simp))

/-- R111: the account that a Resume reactivates was suspended by the stop. -/
theorem reactivate_grows (x : Option Handle) (s : State) : s.act.Grows limit (s.reactivate x).act := by
  by_cases ho : s.resumeOutcome x = .resumed
  · obtain ⟨h, rfl, ⟨-, a, ha, hsuspended, -⟩, -⟩ := of_resumed ho
    rw [reactivate_of_resumed ho]
    refine activateSlot_grows fun b hb => ?_
    cases ha.symm.trans hb
    rw [hsuspended]
    nofun
  · rw [reactivate_of_ne ho]
    exact .refl _

theorem ownResume_grows (s : State) : s.act.Grows limit (ownResume s).1.act := by
  unfold ownResume
  (repeat' split)
  · exact .refl _
  · exact .refl _
  next c _ _ =>
    exact settled_grows (grows_after (reactivate_grows c.handle (s.restore c)) (grows_of_eq (restore_frame c s).2.1))

theorem unplug_grows (s : State) : s.act.Grows limit s.unplug.act := by
  have hsuspended := autoSuspend_grows (limit := limit) .unplug .suspendedUnplug
    ((s.modInl fun i => { i with cls := none, pilot := false, duty := 0, offered := 0 }).modAlc
      fun a => { a with chargerCmd := 0 })
  exact hsuspended.trans (grows_of_eq (by simp [State.unplug]))

theorem readProximity_grows (ohms : Nat) (f : FrontEnd) (s : State) :
    s.act.Grows limit (s.readProximity ohms f).act := by
  simp only [State.readProximity]
  split
  · unfold State.bandAccepted
    split
    · rw [plugOrWake_eq]
      refine grows_of_eq ?_
      unfold State.awake
      split <;> simp [State.plug]
    · exact grows_after (unplug_grows _) (.refl _)
    · exact grows_of_eq (by simp [State.classChange])
    · exact .refl _
  · exact .refl _

theorem passAndStop_grows (fault : Bool) (s : State) : s.act.Grows limit (s.passAndStop fault).act := by
  unfold State.passAndStop
  (repeat' split)
  · exact settled_grows (grows_after (takeStop_grows _ _) (settle_grows s.nextChoice))
  · exact settled_grows (settled_grows (takeStop_grows _ s.nextChoice))
  · exact settle_grows s

theorem completeShift_grows (s : State) : s.act.Grows limit s.completeShift.act := by
  have hend : s.act.Grows limit s.endCycle.windowEnd.act := grows_after
    (grows_of_sticks (windowEnd_spares _).2 (windowEnd_gens _)) (grows_of_eq (by simp))
  unfold State.completeShift
  exact grows_after (passAndStop_grows _ _) (hend.trans (grows_of_eq (by simp)))

/-! ### The clock (R132, R139, R159) -/

theorem switched_grows (h : a.registersBounded = true) : a.Grows limit a.switched := by
  unfold Account.switched
  split
  next hopen => exact grows_of_rebooked rfl le_rfl id hopen h
  next => exact .refl h

theorem crossed_grows (crossing : Bool) (s : State) : s.act.Grows limit (s.crossed crossing).act := by
  intro k
  rw [crossed_slot]
  split
  · exact slot_grows_map fun _ _ => switched_grows
  · exact .refl _

theorem atTick_grows (crossing : Bool) (hactive : a.state = .active) (h : a.registersBounded = true) :
    a.Grows limit (a.atTick crossing) :=
  grows_of_rebooked rfl le_rfl id (by rw [hactive]; nofun) h

/-- R159 to R164: the delivery of a tick. -/
theorem meterTick_grows (hgrace : s.GraceWithin limit) (wall : Nat) : s.act.Grows limit (s.meterTick wall).act := by
  intro k
  have hcrossed : (s.act.slots.get k).Grows limit ((s.atTick (s.tickRecord wall)).act.slots.get k) :=
    crossed_grows (s.tickRecord wall).crossing (s.modMtr (Meter.ticks (s.tickRecord wall))) k
  by_cases hk : s.act.activeSlot = some k
  · obtain ⟨a, ha, hactive⟩ := acct_of_activeSlot hk
    refine ⟨?_, fun hnone => (nomatch ha.symm.trans hnone), fun b hb hbounded => ?_⟩
    · rw [meterTick_of_some hk, deliverTo_slot (atTick_active_acct ha hactive _), if_pos rfl]
      exact hcrossed.gen
    · cases ha.symm.trans hb
      have hswitched := atTick_grows (limit := limit) (s.tickRecord wall).crossing hactive hbounded
      exact ⟨_, meterTick_acct hk ha wall,
        hswitched.trans (deliver_grows (heatShare_le _ s) (hgrace _) hactive hswitched.registers)⟩
  · rw [meterTick_other_slot hk]
    exact hcrossed

theorem secondExpires_grows (hgrace : s.GraceWithin limit) (e : PhaseEnergy) :
    s.act.Grows limit (s.secondExpires e).act := by
  rcases Nat.lt_or_ge s.tck.wall 4294967295 with hwall | hwall
  · rw [secondExpires_eq hwall, debited_act]
    unfold State.metered
    split
    · exact meterTick_grows (s := s.tickStart e) hgrace _
    · exact .refl _
  · rw [secondExpires_of_last hwall]
    exact .refl _

/-! ### The requests of the accounts -/

/-- R148, R152: a cap of a request is clamped to its range. -/
theorem capField_le {p : List Byte} {present : Bool} {most off w c : Nat} (h : capField p present most off w = some c) :
    c ≤ most := by
  unfold capField at h
  split at h
  · cases h
    exact min_le_left _ _
  · cases h

/-- R152: an Amend replaces the pending tariff and the caps. -/
theorem amend_grows (p : List Byte) (pending : Option (Fin 8)) (hopen : a.state ≠ .closed)
    (h : a.registersBounded = true) : a.Grows limit (a.amend p pending) :=
  grows_of_rebooked rfl le_rfl (fun _ => ⟨fun _ => capField_le, fun _ => capField_le⟩) hopen h

theorem amendTo_grows (after : Option (Fin 8)) (k : Fin 16) (a : Account) (p : List Byte) (s : State)
    (ha : (s.act.slots.get k).acct = some a) : s.act.Grows limit (amendTo after k a p s).1.act := by
  unfold amendTo
  split
  · exact .refl _
  next hopen =>
    split
    · exact .refl _
    next u hrefs =>
      have hact := (amendRefs_frame hrefs).2.2.2.2.2.2.1
      have hamended : s.act.Grows limit (u.modAccount k fun _ => a.amend p after).act := by
        refine grows_after (modAccount_grows fun b hb h => ?_) (grows_of_eq hact)
        rw [hact, ha] at hb
        cases hb
        exact amend_grows p after hopen h
      refine settled_grows ?_
      split
      · exact hamended.trans (grows_of_eq (by simp))
      · exact hamended

theorem ownAmendAccount_grows (k : Fin 16) (a : Account) (p : List Byte) (s : State)
    (ha : (s.act.slots.get k).acct = some a) : s.act.Grows limit (ownAmendAccount k a p s).1.act := by
  unfold ownAmendAccount
  (repeat' split)
  · exact .refl _
  · exact amendTo_grows _ _ _ _ _ ha
  · exact amendTo_grows _ _ _ _ _ ha

theorem activatable_iff (st : AcctState) : st.activatable = true ↔ st = .opened ∨ st = .suspended := by
  cases st <;> simp [AcctState.activatable]

/-- R153: the first condition is on the account's state. -/
theorem activatable_of_accepted (h : s.activateFailure a = 0) : a.state = .opened ∨ a.state = .suspended := by
  rw [← activatable_iff]
  by_contra hstate
  rw [State.activateFailure, if_pos (Bool.not_eq_true _ ▸ hstate)] at h
  cases h

theorem ownActivateAccount_grows (k : Fin 16) (a : Account) (p : List Byte) (s : State)
    (ha : (s.act.slots.get k).acct = some a) : s.act.Grows limit (ownActivateAccount k a p s).1.act := by
  unfold ownActivateAccount
  split
  next hnone =>
    refine settled_grows (activateSlot_grows fun b hb => ?_)
    cases ha.symm.trans hb
    rcases activatable_of_accepted hnone with h | h <;> rw [h] <;> nofun
  next => exact .refl _

theorem ownSuspendAccount_grows (k : Fin 16) (a : Account) (p : List Byte) (s : State)
    (ha : (s.act.slots.get k).acct = some a) : s.act.Grows limit (ownSuspendAccount k a p s).1.act := by
  unfold ownSuspendAccount
  split
  next hactive =>
    refine settled_grows (suspendSlot_grows (fun b hb => ?_) _)
    cases ha.symm.trans hb
    rw [hactive]
    nofun
  next => exact .refl _

/-- R156: a Close drops the idle seconds. -/
theorem closeSlot_grows (ha : (s.act.slots.get k).acct = some a) (hopen : a.state ≠ .closed) :
    s.act.Grows limit (s.closeSlot k a).act := by
  have hact : (s.closeSlot k a).act = (s.modAccount k fun x => x.close s.now).act := by
    unfold State.closeSlot
    dsimp only
    split <;> simp
  rw [hact]
  refine modAccount_grows fun b hb h => ?_
  cases ha.symm.trans hb
  exact grows_of_rebooked rfl (Nat.zero_le _) id hopen h

theorem ownCloseAccount_grows (k : Fin 16) (a : Account) (p : List Byte) (s : State)
    (ha : (s.act.slots.get k).acct = some a) : s.act.Grows limit (ownCloseAccount k a p s).1.act := by
  unfold ownCloseAccount
  split
  · exact .refl _
  next hopen => exact settled_grows (closeSlot_grows ha hopen)

theorem ownWriteTariff_act (p : List Byte) (s : State) : (ownWriteTariff p s).1.act = s.act := by
  unfold ownWriteTariff
  dsimp only
  (repeat' split) <;> rfl

/-! ### Every command -/

theorem request_grows {codes : Byte → Bool} {owner : List Byte → State → State × Reply}
    (h : ∀ p (u : State), u.act.Grows limit (owner p u).1.act) (s : State) :
    s.act.Grows limit (s.runRequest codes owner).act :=
  request_keeps (P := fun t => s.act.Grows limit t.act) (fun _ _ ht => ht) (fun p u hu => hu.trans (h p u)) (.refl _)

theorem noPayload_grows {codes : Byte → Bool} {owner : State → State × Reply}
    (h : ∀ u : State, u.act.Grows limit (owner u).1.act) (s : State) :
    s.act.Grows limit (s.runRequest codes (noPayload owner)).act :=
  request_grows (fun p u => keeps_noPayload (P := fun t => u.act.Grows limit t.act)
    (fun v hv => hv.trans (h v)) p u (.refl _)) s

/-- A request that carries the handle of an account that stands. -/
theorem standing_grows {codes : Byte → Bool} {length : Nat} {free : List Byte}
    {owner : Fin 16 → Account → List Byte → State → State × Reply}
    (h : ∀ i a p (u : State), (u.act.slots.get i).acct = some a → u.act.Grows limit (owner i a p u).1.act) (s : State) :
    s.act.Grows limit (s.runRequest codes (withHandle length free owner)).act :=
  request_grows (fun p u => keeps_withHandle_of_standing (P := fun t => u.act.Grows limit t.act)
    (fun i a q v ha hv => hv.trans (h i a q v ha)) p u (.refl _)) s

end

/-- A command that writes the accounts or the tariffs: by the operations of its event, or by its owner. -/
theorem exec_grows_of_writes {limit : Nat} {c : Instr} {s t : State} (hc : writesAccounts c = true)
    (hgrace : s.GraceWithin limit) (hreset : c ≠ .supplyReset) (hopen : c ≠ .openAccount) (hretire : c ≠ .retireAccount)
    (ht : exec c s = .next t) : s.act.Grows limit t.act := by
  cases c <;> cases hc <;> cases ht
  case supplyReset => exact absurd rfl hreset
  case openAccount => exact absurd rfl hopen
  case retireAccount => exact absurd rfl hretire
  case restart => exact noPayload_grows (fun u => portReset_grows _ u) s
  case stop => exact noPayload_grows (fun u => settled_grows (takeStop_grows _ u)) s
  case resume => exact noPayload_grows ownResume_grows s
  case writeTariff => exact request_grows (fun p u => grows_of_eq (ownWriteTariff_act p u)) s
  case amendAccount => exact standing_grows ownAmendAccount_grows s
  case activateAccount => exact standing_grows ownActivateAccount_grows s
  case suspendAccount => exact standing_grows ownSuspendAccount_grows s
  case closeAccount => exact standing_grows ownCloseAccount_grows s
  case proximityReading ohms f =>
    split
    · exact settled_grows (readProximity_grows ohms f s)
    · exact .refl _
  case clockAdvance e =>
    split
    · exact settled_grows (secondExpires_grows hgrace e)
    · exact .refl _
  case shiftSampleEnd =>
    split
    · exact completeShift_grows s
    · exact .refl _
  case resetPin =>
    split
    · exact .refl _
    · exact portReset_grows _ s

/-- Every command but Open, Retire and a supply reset grows the accounts. -/
theorem exec_grows {limit : Nat} {c : Instr} {s t : State} (hgrace : s.GraceWithin limit) (hreset : c ≠ .supplyReset)
    (hopen : c ≠ .openAccount) (hretire : c ≠ .retireAccount) (ht : exec c s = .next t) : s.act.Grows limit t.act := by
  cases hc : writesAccounts c with
  | false => exact grows_of_sticks (exec_spares hc ht).2 (exec_gens hc ht)
  | true => exact exec_grows_of_writes hc hgrace hreset hopen hretire ht

end Sys2Proof.Machine
end

section
/-! The accounts' ranges, tokens and generations (R144, R145, R159, R160, R164) through every command: O52, and what the
growth of every account says of its registers: O55. -/

namespace Sys2Proof.Machine

/-! ### Open and Retire (R148, R158) -/

/-- R148: an Open changes nothing, or fills the lowest Free slot with an account whose token none carries. -/
theorem ownOpenAccount_cases (p : List Byte) (s : State) : (ownOpenAccount p s).1 = s ∨
    ∃ k tariff, s.act.freeSlot = some k ∧ s.act.holder (field p 0 8) = none ∧
      (ownOpenAccount p s).1 = (s.fillSlot k (openedAccount p tariff s.now)).takeRef tariff := by
  unfold ownOpenAccount
  (repeat' split)
  · exact .inl rfl
  · exact .inl rfl
  · exact .inl rfl
  · exact .inl rfl
  next tariff _ _ hholder _ k hfree _ => exact .inr ⟨k, tariff, hfree, hholder, rfl⟩
  · exact .inl rfl
  · exact .inl rfl

section

variable {s t : State} {k : Fin 16} {a : Account} {tok : Nat}

theorem freeSlot_free (h : s.act.freeSlot = some k) : (s.act.slots.get k).acct = none := by
  simpa using Table.find_some h

theorem holder_eq_none : s.act.holder tok = none ↔ ∀ j a, (s.act.slots.get j).acct = some a → a.token ≠ tok := by
  simp [Accounts.holder, Table.find_eq_none]

theorem filled_slot (k : Fin 16) (a : Account) (tariff : Fin 8) (s : State) (j : Fin 16) :
    ((s.fillSlot k a).takeRef tariff).act.slots.get j =
      if j = k then { s.act.slots.get j with acct := some a } else s.act.slots.get j :=
  Table.get_modify _ _ _ _

theorem retired_slot (k : Fin 16) (a : Account) (s : State) (j : Fin 16) :
    (s.retireSlot k a).act.slots.get j =
      if j = k then (s.act.slots.get j).retire else s.act.slots.get j := Table.get_modify _ _ _ _

/-- R148: an Open leaves the accounts that stand. -/
theorem open_standing (ha : (s.act.slots.get k).acct = some a) (ht : exec .openAccount s = .next t) :
    t.act.slots.get k = s.act.slots.get k := by
  cases ht
  refine runRequest_keeps (fun t => t.act.slots.get k = s.act.slots.get k) _ _ s rfl (fun _ _ h => h) fun p => ?_
  rcases ownOpenAccount_cases p s with h | ⟨j, tariff, hfree, -, h⟩
  · rw [h]
  · rw [h, filled_slot, if_neg]
    rintro rfl
    cases ha.symm.trans (freeSlot_free hfree)

end

/-! ### The invariant (R144, R145, R136) -/

/-- Every account is within its ranges, no two carry one token, and every generation fits its byte. -/
structure Accounts.Sound (t : Accounts) : Prop where
  bounded : ∀ k a, (t.slots.get k).acct = some a → a.bounded = true
  tokens  : ∀ k l a b, (t.slots.get k).acct = some a → (t.slots.get l).acct = some b → a.token = b.token → k = l
  gens    : ∀ k, (t.slots.get k).gen < 256

/-- O52's invariant. -/
structure State.AccountsSound (s : State) : Prop where
  act   : s.act.Sound
  grace : s.GraceWithin 240

theorem tokensDiffer_iff (t : Accounts) : t.tokensDiffer = true ↔ ∀ k l a b,
    (t.slots.get k).acct = some a → (t.slots.get l).acct = some b → a.token = b.token → k = l := by
  rw [Accounts.tokensDiffer, decide_eq_true_eq, Accounts.standing, List.Nodup, List.pairwise_map,
    List.pairwise_filterMap, List.pairwise_iff_getElem]
  constructor
  · intro h k l a b ha hb heq
    have hlt : ∀ (i : Fin 16), i.val < t.slots.items.length := fun i => t.slots.size.symm ▸ i.isLt
    rcases lt_trichotomy k l with hkl | hkl | hkl
    · exact absurd heq (h k l (hlt k) (hlt l) hkl a ha b hb)
    · exact hkl
    · exact absurd heq.symm (h l k (hlt l) (hlt k) hkl b hb a ha)
  · intro h i j hi hj hij a ha b hb heq
    have hkl := h ⟨i, t.slots.size ▸ hi⟩ ⟨j, t.slots.size ▸ hj⟩ a b ha hb heq
    exact absurd (Fin.mk.inj_iff.1 hkl) (ne_of_lt hij)

/-- The invariant in the words of O52. -/
theorem accountsSound_iff (s : State) : s.AccountsSound ↔
    s.act.bounded = true ∧ s.act.tokensDiffer = true ∧ (∀ i, (s.act.slots.get i).gen < 256) ∧
      ∀ i, (s.tck.tariffs.get i).grace ≤ 240 := by
  have hbounded : s.act.bounded = true ↔ ∀ k a, (s.act.slots.get k).acct = some a → a.bounded = true := by
    simp only [Accounts.bounded, List.all_eq_true, mem_standing, forall_exists_index]
    exact forall_comm
  rw [hbounded, tokensDiffer_iff]
  exact ⟨fun ⟨⟨h1, h2, h3⟩, h4⟩ => ⟨h1, h2, h3, h4⟩, fun ⟨h1, h2, h3, h4⟩ => ⟨⟨h1, h2, h3⟩, h4⟩⟩

section

variable {s t : State} {u v : Accounts} {k : Fin 16} {a : Account}

/-- Accounts that grow are those that stood before, each within its ranges and with its token. -/
theorem sound_of_grows (h : u.Grows 240 v) (hu : u.Sound) : v.Sound := by
  have hback : ∀ j b, (v.slots.get j).acct = some b →
      ∃ a, (u.slots.get j).acct = some a ∧ a.Grows 240 b := fun j b hb => by
    cases ha : (u.slots.get j).acct with
    | none => cases hb.symm.trans ((h j).free ha)
    | some a =>
      obtain ⟨c, hc, hgrows⟩ := (h j).acct a ha ((bounded_iff a).1 (hu.bounded j a ha)).1
      cases hb.symm.trans hc
      exact ⟨a, rfl, hgrows⟩
  refine ⟨fun j b hb => ?_, fun j l b c hb hc heq => ?_, fun j => ?_⟩
  · obtain ⟨a, ha, hgrows⟩ := hback j b hb
    exact bounded_of_grows hgrows (hu.bounded j a ha)
  · obtain ⟨a, ha, hgrows⟩ := hback j b hb
    obtain ⟨d, hd, hgrows'⟩ := hback l c hc
    exact hu.tokens j l a d ha hd (hgrows.rises.token.symm.trans (heq.trans hgrows'.rises.token))
  · rw [(h j).gen]
    exact hu.gens j

/-- R144: a slot filled with an account within its ranges, whose token none carries. -/
theorem sound_of_filled (hu : u.Sound) (hslot : ∀ j, v.slots.get j =
      if j = k then { u.slots.get j with acct := some a } else u.slots.get j)
    (hbounded : a.bounded = true) (hnew : ∀ j b, (u.slots.get j).acct = some b → b.token ≠ a.token) : v.Sound := by
  have hcases : ∀ j b, (v.slots.get j).acct = some b → (j = k ∧ b = a) ∨ (u.slots.get j).acct = some b := by
    intro j b hb
    rw [hslot] at hb
    split at hb
    next hj => exact .inl ⟨hj, (Option.some.inj hb).symm⟩
    next => exact .inr hb
  refine ⟨fun j b hb => ?_, fun j l b c hb hc heq => ?_, fun j => ?_⟩
  · rcases hcases j b hb with ⟨-, rfl⟩ | hold
    · exact hbounded
    · exact hu.bounded j b hold
  · rcases hcases j b hb with ⟨rfl, rfl⟩ | hb' <;> rcases hcases l c hc with ⟨rfl, rfl⟩ | hc'
    · rfl
    · exact absurd heq.symm (hnew l c hc')
    · exact absurd heq (hnew j b hb')
    · exact hu.tokens j l b c hb' hc' heq
  · rw [hslot, apply_ite Slot.gen, ite_self]
    exact hu.gens j

/-- R144: a slot returned to Free. -/
theorem sound_of_retired (hu : u.Sound)
    (hslot : ∀ j, v.slots.get j = if j = k then (u.slots.get j).retire else u.slots.get j) : v.Sound := by
  have hback : ∀ j b, (v.slots.get j).acct = some b → (u.slots.get j).acct = some b := by
    intro j b hb
    rw [hslot] at hb
    split at hb
    · cases hb
    · exact hb
  refine ⟨fun j b hb => hu.bounded j b (hback j b hb),
    fun j l b c hb hc => hu.tokens j l b c (hback j b hb) (hback l c hc), fun j => ?_⟩
  rw [hslot]
  split
  · exact Nat.mod_lt _ (by decide)
  · exact hu.gens j

/-- R148: a new account's registers are 0, and its caps are clamped. -/
theorem openedAccount_bounded (p : List Byte) (tariff : Fin 8) (now : Nat) :
    (openedAccount p tariff now).bounded = true :=
  (bounded_iff _).2 ⟨by simp [registersBounded_iff, openedAccount, Account.fresh, Account.evalCaps], Nat.zero_le _,
    fun _ => capField_le, fun _ => capField_le⟩

theorem ownOpenAccount_sound (p : List Byte) (s : State) (h : s.act.Sound) : (ownOpenAccount p s).1.act.Sound := by
  rcases ownOpenAccount_cases p s with hsame | ⟨k, tariff, -, hholder, hfilled⟩
  · rw [hsame]
    exact h
  · rw [hfilled]
    exact sound_of_filled h (filled_slot k _ tariff s) (openedAccount_bounded p tariff s.now) (holder_eq_none.1 hholder)

theorem ownRetireAccount_sound (k : Fin 16) (a : Account) (p : List Byte) (s : State) (h : s.act.Sound) :
    (ownRetireAccount k a p s).1.act.Sound := by
  unfold ownRetireAccount
  split
  · exact sound_of_retired h (retired_slot k a s)
  · exact h

/-! ### The tariffs' grace (R136, R141) -/

theorem define_grace (bands : List TariffBand) (fee grace : Nat) (x : Tariff) :
    (x.define bands fee grace).grace ≤ 240 := by
  unfold Tariff.define
  split
  · exact Nat.zero_le _
  · exact min_le_left _ _

/-- R141: a tariff that is written has its grace clamped. -/
theorem ownWriteTariff_grace : Keeps (State.GraceWithin 240) ownWriteTariff := by
  intro p s h
  unfold ownWriteTariff
  dsimp only
  (repeat' split)
  · exact h
  · exact h
  · exact h
  · exact h
  · exact h
  · exact h
  · intro i
    rw [refs_modTariff]
    split
    · exact define_grace _ _ _ _
    · exact h i
  · exact h

theorem graceWithin_of_stands {limit : Nat} (h : Setting.tariffs.stands s t) (hgrace : s.GraceWithin limit) :
    t.GraceWithin limit := fun i => by
  have hi := h i
  simp only [Tariff.definition, Prod.mk.injEq] at hi
  obtain ⟨-, -, hsame⟩ := hi
  exact hsame.le.trans (hgrace i)

theorem exec_graceWithin {c : Instr} (hreset : c ≠ .supplyReset) (h : s.GraceWithin 240) (ht : exec c s = .next t) :
    t.GraceWithin 240 := by
  by_cases hc : c = .writeTariff
  · subst hc
    cases ht
    exact request_keeps (fun _ _ hu => hu) ownWriteTariff_grace h
  · exact graceWithin_of_stands (exec_standsBut ht hreset .tariffs hc) h

/-! ### Every command -/

theorem reset_accountsSound : State.reset.AccountsSound := (accountsSound_iff _).2 (by decide)

theorem exec_accountsSound {c : Instr} (h : s.AccountsSound) (ht : exec c s = .next t) : t.AccountsSound := by
  by_cases hreset : c = .supplyReset
  · subst hreset
    cases ht
    exact ⟨reset_accountsSound.act, reset_accountsSound.grace⟩
  refine ⟨?_, exec_graceWithin hreset h.grace ht⟩
  by_cases hopen : c = .openAccount
  · subst hopen
    cases ht
    exact request_keeps (P := fun u => u.act.Sound) (fun _ _ hu => hu) ownOpenAccount_sound h.act
  by_cases hretire : c = .retireAccount
  · subst hretire
    cases ht
    exact request_keeps (P := fun u => u.act.Sound) (fun _ _ hu => hu) (keeps_withHandle ownRetireAccount_sound) h.act
  · exact sound_of_grows (exec_grows h.grace hreset hopen hretire ht) h.act

end

/-- Settles O52: one ms leaves the accounts and the tariffs, and every command keeps the invariant. -/
theorem accountsStayBounded : Obligations.AccountsStayBounded := by
  intro s t h hstep
  rw [← accountsSound_iff] at h ⊢
  unfold step at hstep
  split at hstep
  · cases hstep
    exact ⟨by simpa using h.act, fun i => by rw [tick_tck]; exact h.grace i⟩
  next _ rest _ => exact exec_accountsSound (s := s.withPending rest) ⟨h.act, h.grace⟩ hstep

/-- Some bound holds of every tariff's grace. -/
theorem exists_graceWithin (s : State) : ∃ limit, s.GraceWithin limit :=
  ⟨Finset.univ.sup fun i => (s.tck.tariffs.get i).grace, fun i =>
    Finset.le_sup (f := fun i => (s.tck.tariffs.get i).grace) (Finset.mem_univ i)⟩

/-- Settles O55: an Open leaves the accounts that stand, and every other command grows them. -/
theorem accountRegistersOnlyRise : Obligations.AccountRegistersOnlyRise := by
  intro c s t i a hreset hretire ha hbounded ht
  have hgrows : ∃ limit, (s.act.slots.get i).Grows limit (t.act.slots.get i) := by
    by_cases hopen : c = .openAccount
    · subst hopen
      exact ⟨0, open_standing ha ht ▸ .refl _⟩
    · obtain ⟨limit, hgrace⟩ := exists_graceWithin s
      exact ⟨limit, exec_grows hgrace hreset hopen hretire ht i⟩
  obtain ⟨limit, hgen, -, hacct⟩ := hgrows
  obtain ⟨b, hb, hrises, -⟩ := hacct a ha hbounded
  exact ⟨hgen, b, hb, hrises.token, hrises.total, hrises.heat, hrises.costEnergy, hrises.costIdle, hrises.idleMin,
    hrises.graceUsed, hrises.sticky, hrises.hasDrawn, hrises.satTotal, hrises.satEnergy, hrises.satIdle, hrises.frozen⟩

end Sys2Proof.Machine
end

section
/-! Open Account and Find Account (R144, R148, R149): the slots that they look for, the account that an Open fills its
slot with, and O49. -/

namespace Sys2Proof.Machine

theorem find_eq_some {n : Nat} {α : Type} {t : Table n α} {p : α → Bool} {i : Fin n} :
    t.find p = some i ↔ p (t.get i) = true ∧ ∀ k, k < i → p (t.get k) = false := by
  refine ⟨fun h => ⟨Table.find_some h, Table.find_lowest h⟩, fun ⟨hi, hlow⟩ => ?_⟩
  cases h : t.find p with
  | none => cases hi.symm.trans (Table.find_eq_none.1 h i)
  | some j =>
    rcases lt_trichotomy i j with hij | rfl | hij
    · cases hi.symm.trans (Table.find_lowest h i hij)
    · rfl
    · cases (Table.find_some h).symm.trans (hlow j hij)

/-- R144: the account of slot `j` carries a token. -/
def Accounts.Holds (tok : Nat) (t : Accounts) (j : Fin 16) : Prop := ∃ a, (t.slots.get j).acct = some a ∧ a.token = tok

section

variable {s : State} {p : List Byte} {tariff : Fin 8} {j k : Fin 16} {a : Account} {tok : Nat}

/-! ### The slots looked for (R144) -/

theorem holder_of_none (h : ∀ j, ¬ s.act.Holds tok j) : s.act.holder tok = none :=
  holder_eq_none.2 fun j a ha htok => h j ⟨a, ha, htok⟩

theorem holder_of_lowest (hj : s.act.Holds tok j) (hlow : ∀ k, k < j → ¬ s.act.Holds tok k) :
    s.act.holder tok = some j := by
  obtain ⟨a, ha, htok⟩ := hj
  refine find_eq_some.2 ⟨by simp [ha, htok], fun k hk => ?_⟩
  simpa [Accounts.Holds] using hlow k hk

theorem freeSlot_of_none (h : ∀ j, (s.act.slots.get j).acct ≠ none) : s.act.freeSlot = none :=
  Table.find_eq_none.2 fun j => by simpa [Option.isSome_iff_ne_none] using h j

theorem freeSlot_of_lowest (hk : (s.act.slots.get k).acct = none)
    (hlow : ∀ j, j < k → (s.act.slots.get j).acct ≠ none) : s.act.freeSlot = some k :=
  find_eq_some.2 ⟨by simpa using hk, fun j hj => by simpa [Option.isSome_iff_ne_none] using hlow j hj⟩

/-- R148, R149: a slot with the state of its account, as a response reports it. -/
theorem standing_of_some (ha : (s.act.slots.get j).acct = some a) :
    standing j s = be 1 j.val ++ be 1 (s.act.slots.get j).gen ++ be 1 a.state.code := by
  simp only [standing, State.account, ha]
  rfl

/-! ### The new account (R148, R163) -/

/-- R148: a new account has reached a cap of 0 alone. -/
theorem openedAccount_eq (p : List Byte) (tariff : Fin 8) (now : Nat) : openedAccount p tariff now =
    { Account.fresh (field p 0 8) tariff (capField p (fieldBit p 9 0) 99999999 10 4)
        (capField p (fieldBit p 9 1) 999999999999 14 6) now with
      capReached := decide (capField p (fieldBit p 9 0) 99999999 10 4 = some 0 ∨
        capField p (fieldBit p 9 1) 999999999999 14 6 = some 0) } := by
  have hzero : ∀ e c : Option Nat, (Account.fresh (field p 0 8) tariff e c now).capMet =
      decide (e = some 0 ∨ c = some 0) := fun e c => by
    cases e <;> cases c <;> simp [Account.capMet, Account.fresh]
  exact congrArg (fun b => { Account.fresh (field p 0 8) tariff _ _ now with capReached := b }) (hzero _ _)

theorem openImage_eq (k : Fin 16) (a : Account) (s : State) : openImage k a s =
    be 1 k.val ++ be 1 (s.act.slots.get k).gen ++
      be 1 ((if a.energyCap = none then 0 else 1) + if a.costCap = none then 0 else 2) ++
      be 4 (a.energyCap.getD 0) ++ be 6 (a.costCap.getD 0) := by
  have hbits : bitIf a.energyCap.isSome 0 + bitIf a.costCap.isSome 1 =
      (if a.energyCap = none then 0 else 1) + if a.costCap = none then 0 else 2 := by
    cases a.energyCap <;> cases a.costCap <;> rfl
  rw [openImage, hbits]
  exact (List.append_assoc _ _ _).symm

theorem defined_iff (x : Tariff) : x.defined = true ↔ x.bands ≠ [] := by simp [Tariff.defined]

/-! ### Open Account in the order of its checks (R148) -/

theorem ownOpenAccount_length (h : p.length ≠ 20) : ownOpenAccount p s = (s, ⟨.length, []⟩) := if_neg h

theorem ownOpenAccount_range (hlen : p.length = 20) (h : field p 0 8 = 0 ∨ 7 < field p 8 1) :
    ownOpenAccount p s = (s, ⟨.range, []⟩) := by
  unfold ownOpenAccount
  rw [if_pos hlen]
  by_cases htok : field p 0 8 = 0
  · rw [if_pos htok]
    rfl
  · rw [if_neg htok, slotOf8_none (h.resolve_left htok)]
    rfl

section

variable (hlen : p.length = 20) (htok : field p 0 8 ≠ 0) (htariff : field p 8 1 = tariff.val)

include hlen htok htariff

theorem ownOpenAccount_duplicate (hholder : s.act.holder (field p 0 8) = some j) :
    ownOpenAccount p s = (s, ⟨.duplicate, standing j s⟩) := by
  unfold ownOpenAccount
  rw [if_pos hlen, if_neg htok, htariff, slotOf8_val]
  simp only [hholder]

theorem ownOpenAccount_full (hholder : s.act.holder (field p 0 8) = none) (hfree : s.act.freeSlot = none) :
    ownOpenAccount p s = (s, ⟨.full, []⟩) := by
  unfold ownOpenAccount
  rw [if_pos hlen, if_neg htok, htariff, slotOf8_val]
  simp only [hholder, hfree]
  rfl

theorem ownOpenAccount_undefined (hholder : s.act.holder (field p 0 8) = none) (hfree : s.act.freeSlot = some k)
    (hbands : (s.tck.tariffs.get tariff).bands = []) : ownOpenAccount p s = (s, ⟨.state, []⟩) := by
  have hundefined : ¬ (s.tariff tariff).defined = true := fun h => (defined_iff _).1 h hbands
  unfold ownOpenAccount
  rw [if_pos hlen, if_neg htok, htariff, slotOf8_val]
  simp only [hholder, hfree, if_neg hundefined]
  rfl

theorem ownOpenAccount_accepts (hholder : s.act.holder (field p 0 8) = none) (hfree : s.act.freeSlot = some k)
    (hbands : (s.tck.tariffs.get tariff).bands ≠ []) : ownOpenAccount p s =
      ((s.fillSlot k (openedAccount p tariff s.now)).takeRef tariff,
        ⟨.ok, openImage k (openedAccount p tariff s.now) s⟩) := by
  unfold ownOpenAccount
  rw [if_pos hlen, if_neg htok, htariff, slotOf8_val]
  simp only [hholder, hfree]
  exact if_pos ((defined_iff _).2 hbands)

end

/-! ### Find Account (R149) -/

theorem ownFindAccount_length (h : p.length ≠ 8) : ownFindAccount p s = (s, ⟨.length, []⟩) := if_neg h

theorem ownFindAccount_range (hlen : p.length = 8) (h : field p 0 8 = 0) : ownFindAccount p s = (s, ⟨.range, []⟩) := by
  unfold ownFindAccount
  rw [if_pos hlen, if_pos h]
  rfl

theorem ownFindAccount_missing (hlen : p.length = 8) (htok : field p 0 8 ≠ 0)
    (hholder : s.act.holder (field p 0 8) = none) : ownFindAccount p s = (s, ⟨.notFound, []⟩) := by
  unfold ownFindAccount
  rw [if_pos hlen, if_neg htok, hholder]
  rfl

theorem ownFindAccount_found (hlen : p.length = 8) (htok : field p 0 8 ≠ 0)
    (hholder : s.act.holder (field p 0 8) = some j) : ownFindAccount p s = (s, ⟨.ok, standing j s⟩) := by
  unfold ownFindAccount
  rw [if_pos hlen, if_neg htok, hholder]
  rfl

end

/-- Settles O49: the checks of each request in their order, by the slots that they look for. -/
theorem openAndFindGoByToken : Obligations.OpenAndFindGoByToken := by
  intro s p token holds report
  refine ⟨fun hserves hlen => next_of_serves hserves (ownOpenAccount_length hlen), fun hserves hlen => ⟨fun hrange =>
    next_of_serves hserves (ownOpenAccount_range hlen hrange), fun htok tariff htariff => ⟨?_, ?_, ?_⟩⟩,
    fun hserves hlen => next_of_serves hserves (ownFindAccount_length hlen),
    fun hserves hlen => ⟨fun hzero => next_of_serves hserves (ownFindAccount_range hlen hzero), ?_, ?_⟩⟩
  · intro j a ha htoken hlow
    rw [show report j a = standing j s from (standing_of_some ha).symm]
    exact next_of_serves hserves (ownOpenAccount_duplicate hlen htok htariff (holder_of_lowest ⟨a, ha, htoken⟩ hlow))
  · intro hnew hfull
    exact next_of_serves hserves
      (ownOpenAccount_full hlen htok htariff (holder_of_none hnew) (freeSlot_of_none hfull))
  · intro i hnew hnone hlow
    have hholder := holder_of_none hnew
    have hfree := freeSlot_of_lowest hnone hlow
    refine ⟨fun hbands =>
      next_of_serves hserves (ownOpenAccount_undefined hlen htok htariff hholder hfree hbands), fun hbands => ?_⟩
    intro e c a old named
    have hopened : openedAccount p tariff s.now = a := openedAccount_eq p tariff s.now
    have haccepts := ownOpenAccount_accepts hlen htok htariff hholder hfree hbands
    rw [hopened, openImage_eq i a s] at haccepts
    exact next_of_serves hserves haccepts
  · exact fun htok hnew => next_of_serves hserves (ownFindAccount_missing hlen htok (holder_of_none hnew))
  · intro htok j a ha htoken hlow
    rw [show report j a = standing j s from (standing_of_some ha).symm]
    exact next_of_serves hserves (ownFindAccount_found hlen htok (holder_of_lowest ⟨a, ha, htoken⟩ hlow))

end Sys2Proof.Machine
end

section
/-! Close Account and Retire Account (R156 to R158): what a request on an account that stands does to its slot, the
others and the references, and O51. -/

namespace Sys2Proof.Machine

section

variable {s t : State} {p : List Byte} {k : Fin 16} {a b : Account}

/-! ### A request on an account that stands (R147) -/

theorem withHandle_owner {length : Nat} (hlen : p.length = length) (hslot : field p 0 1 = k.val)
    (hgen : field p 1 1 = (s.act.slots.get k).gen) (ha : (s.act.slots.get k).acct = some a) (free : List Byte)
    (owner : Fin 16 → Account → List Byte → State → State × Reply) :
    withHandle length free owner p s = owner k a p s := by
  have hacct : s.account k = some a := ha
  unfold withHandle
  rw [if_pos hlen, hslot, slotOf16_val]
  simp only [hgen, hacct, ne_eq, not_true_eq_false, if_false]

/-! ### A slot that is not Active (R145) -/

theorem activeSlot_ne (ha : (s.act.slots.get k).acct = some a) (hstate : a.state ≠ .active) :
    s.act.activeSlot ≠ some k := fun hk => by
  obtain ⟨b, hb, hactive⟩ := acct_of_activeSlot hk
  cases ha.symm.trans hb
  exact hstate hactive

/-- R35: the passes of an event leave an account that is not Active. -/
theorem settle_inactive (ha : (s.act.slots.get k).acct = some a) (hstate : a.state ≠ .active) :
    (s.settle.act.slots.get k).acct = some a := by
  rw [settle_other_slot (activeSlot_ne ha hstate)]
  exact ha

/-- R145: where the account that alone may be Active is replaced by one that is not, none is Active. -/
theorem activeSlot_none_of_left (hone : s.act.oneActive = true) (hk : (s.act.slots.get k).isActive = true)
    (hother : ∀ j, j ≠ k → t.act.slots.get j = s.act.slots.get j) (hself : (t.act.slots.get k).isActive = false) :
    t.act.activeSlot = none := by
  refine Table.find_eq_none.2 fun j => ?_
  by_cases hj : j = k
  · rw [hj]
    exact hself
  · rw [hother j hj]
    exact Bool.eq_false_iff.2 fun hactive => hj ((oneActive_iff _).1 hone j k hactive hk)

theorem isActive_of_some {sl : Slot} (h : sl.acct = some a) : sl.isActive = decide (a.state = .active) := by
  simp only [Slot.isActive, h]

/-! ### Close (R156, R157) -/

theorem closeSlot_act (k : Fin 16) (a : Account) (s : State) :
    (s.closeSlot k a).act = (s.modAccount k fun x => x.close s.now).act := by
  unfold State.closeSlot
  dsimp only
  split <;> simp

theorem closeSlot_acct (ha : (s.act.slots.get k).acct = some a) :
    ((s.closeSlot k a).act.slots.get k).acct = some (a.close s.tck.wall) := by
  rw [closeSlot_act]
  exact (modAccount_slot ha _).1

theorem closeSlot_other {j : Fin 16} (hj : j ≠ k) (a : Account) (s : State) :
    (s.closeSlot k a).act.slots.get j = s.act.slots.get j := by
  rw [closeSlot_act]
  exact Table.get_modify_ne _ _ hj

theorem closeSlot_tck (k : Fin 16) (a : Account) (s : State) :
    (s.closeSlot k a).tck = (s.releasePending a.pending).tck := by
  unfold State.closeSlot State.releasePending
  dsimp only
  (repeat' split) <;> simp [State.releaseRef, State.modTariff]

theorem releasePending_wall (b : Option (Fin 8)) (s : State) : (s.releasePending b).tck.wall = s.tck.wall := by
  cases b <;> rfl

theorem closeSlot_rqp (k : Fin 16) (a : Account) (s : State) : (s.closeSlot k a).rqp =
    { s.rqp with sup := if a.state = .active ∧ s.rqp.sup ≠ .expired then .disarmed else s.rqp.sup } := by
  have hrqp : ((s.modAccount k fun x => x.close s.now).releasePending a.pending).rqp = s.rqp := by simp
  unfold State.closeSlot
  dsimp only
  split
  next hactive =>
    refine (disarmSupervision_rqp _).trans ?_
    rw [hrqp]
    by_cases hexpired : s.rqp.sup = .expired <;> simp [hactive, hexpired]
  next hstate =>
    rw [hrqp, if_neg fun h => hstate h.1]

@[simp] theorem closeSlot_frame (k : Fin 16) (a : Account) (s : State) : (s.closeSlot k a).mtr = s.mtr ∧
    (s.closeSlot k a).stu = s.stu ∧ (s.closeSlot k a).pwc = s.pwc := by
  unfold State.closeSlot
  dsimp only
  split <;> simp

/-- R156: the Close of an account that is not Active brings no pass. -/
theorem closeSlot_settled (hstate : a.state ≠ .active) (hwork : s.work = Work.clear) :
    (s.closeSlot k a).settle = s.closeSlot k a := by
  refine settle_idle ?_
  unfold State.closeSlot
  dsimp only
  rw [if_neg hstate]
  simpa using hwork

/-- R35, R156: a Close and its passes leave the other slots. -/
theorem close_other_slots (ha : (s.act.slots.get k).acct = some a) (hone : s.act.oneActive = true)
    (hwork : s.work = Work.clear) (j : Fin 16) (hj : j ≠ k) :
    (s.closeSlot k a).settle.act.slots.get j = s.act.slots.get j := by
  by_cases hstate : a.state = .active
  · have hnone : (s.closeSlot k a).act.activeSlot = none :=
      activeSlot_none_of_left hone ((isActive_of_some ha).trans (decide_eq_true hstate))
        (fun i hi => closeSlot_other hi a s) (isActive_of_some (closeSlot_acct ha))
    rw [settle_act_of_none hnone]
    exact closeSlot_other hj a s
  · rw [closeSlot_settled hstate hwork]
    exact closeSlot_other hj a s

/-- R157, 13.5: the response of a Close, field by field. -/
theorem closeImage_eq (k : Fin 16) (a : Account) (s : State) :
    (s.act.handle k).bytes ++ statementImage (a.form s.tck.wall) =
      be 1 k.val ++ be 1 (s.act.slots.get k).gen ++ be 4 ((a.costEnergy + a.costIdle + 5000) / 10000) ++
        be 4 a.totalWh ++ be 2 a.totalJ ++ be 4 a.heatWh ++ be 2 a.heatJ ++ be 2 a.idleMin ++
        be 3 a.sticky.toNat ++ be 4 s.tck.wall := by
  simp only [statementImage, Handle.bytes, List.append_assoc]
  rfl

theorem ownCloseAccount_refuses (h : a.state = .closed) : ownCloseAccount k a p s = (s, ⟨.state, []⟩) := if_pos h

theorem ownCloseAccount_accepts (h : a.state ≠ .closed) : ownCloseAccount k a p s =
    ((s.closeSlot k a).settle, ⟨.ok, (s.act.handle k).bytes ++ statementImage (a.form s.tck.wall)⟩) := if_neg h

/-! ### Retire (R158) -/

theorem ownRetireAccount_refuses (h : a.state ≠ .closed) : ownRetireAccount k a p s = (s, ⟨.state, []⟩) := if_neg h

theorem ownRetireAccount_accepts (h : a.state = .closed) : ownRetireAccount k a p s =
    (s.retireSlot k a, ⟨.ok, be 1 k.val ++ be 1 (((s.act.slots.get k).gen + 1) % 256)⟩) := by
  have hgen : ((s.retireSlot k a).act.slots.get k).gen = ((s.act.slots.get k).gen + 1) % 256 := by
    rw [retired_slot, if_pos rfl]
    rfl
  refine (if_pos h).trans ?_
  rw [← hgen]
  rfl

end

/-- Settles O51: each request's refusal, then what it makes of the slot, the other slots and the references. -/
theorem closeFormsTheStatementAndRetireFrees : Obligations.CloseFormsTheStatementAndRetireFrees := by
  intro s p i a ha hlen hslot hgen
  have hhandle := withHandle_owner hlen hslot hgen ha []
  refine ⟨fun hserves => ⟨fun hclosed => ?_, fun hopen => ?_⟩, fun hserves => ⟨fun hopen => ?_, fun hclosed => ?_⟩⟩
  · exact next_of_serves hserves ((hhandle _).trans (ownCloseAccount_refuses hclosed))
  · intro cost
    obtain ⟨hstu, hmtr, htck, hrqp, hpwc, -⟩ := settle_frame (s.closeSlot i a)
    rw [closeSlot_tck] at htck
    rw [closeSlot_rqp] at hrqp
    simp only [closeSlot_frame] at hstu hmtr hpwc
    have hothers := close_other_slots ha
    have hself := settle_inactive (closeSlot_acct ha) (by exact nofun)
    have hexec : exec .closeAccount s = .next ((s.closeSlot i a).settle.answer
        ⟨.ok, (s.act.handle i).bytes ++ statementImage (a.form s.tck.wall)⟩) :=
      next_of_serves hserves ((hhandle _).trans (ownCloseAccount_accepts hopen))
    rw [closeImage_eq] at hexec
    generalize (s.closeSlot i a).settle = t at *
    refine ⟨_, hexec, hself, hothers, fun j => ?_, ?_, ?_, hmtr, hstu, hpwc⟩
    · exact (congrArg (fun c : Clock => (c.tariffs.get j).refs) htck).trans (refs_releasePending a.pending j s)
    · rw [answer_rqp, hrqp]
      by_cases hactive : a.state = .active <;> cases s.rqp.sup <;> simp [hactive, cost]
    · exact (congrArg Clock.wall htck).trans (releasePending_wall a.pending s)
  · exact next_of_serves hserves ((hhandle _).trans (ownRetireAccount_refuses hopen))
  · exact next_of_serves hserves ((hhandle _).trans (ownRetireAccount_accepts hclosed))

end Sys2Proof.Machine
end

section
/-! Amend, Activate and Suspend Account (R152 to R154): the state in which the passes of each request run, what those
passes leave, and O50. -/

namespace Sys2Proof.Machine

section

variable {s t u : State} {p : List Byte} {k : Fin 16} {a b : Account} {before after : Option (Fin 8)}

/-! ### A triggered pass with an Active account (R21, R35, R163) -/

/-- R35: the causes in ALC's record are among the sticky flags of the account in slot `k`. -/
def State.Marked (k : Fin 16) (s : State) : Prop :=
  ∀ b, (s.act.slots.get k).acct = some b → s.alc.causes &&& b.sticky = s.alc.causes

theorem pass_marked (hk : s.act.activeSlot = some k) : s.pass.Marked k := by
  intro b hb
  obtain ⟨a, ha, -⟩ := acct_of_activeSlot hk
  have hrecord := pass_record s
  simp only [Alloc.record, Prod.mk.injEq] at hrecord
  obtain ⟨-, -, hcauses, -⟩ := hrecord
  cases hb.symm.trans (pass_sticky hk ha)
  rw [hcauses]
  exact and_or_self _ _

theorem activeSlot_survives (k : Fin 16) : Survives fun t => t.act.activeSlot = some k :=
  survives_of_pass (fun _ _ act => act.activeSlot = some k) fun t h => (activeSlot_alike (pass_alike t)).trans h

theorem marked_survives (k : Fin 16) : Survives fun t => t.act.activeSlot = some k ∧ t.Marked k where
  pass t h := ⟨(activeSlot_survives k).pass t h.1, pass_marked h.1⟩
  inLine t h := ⟨(activeSlot_survives k).inLine t h.1, by simpa [State.Marked] using h.2⟩
  work _ _ h := h
  choice _ h := h
  unheld _ h := h
  restart _ _ h := h

/-- R35: where ALC runs, a triggered event joins the causes of its record to the Active account's sticky flags. -/
theorem settle_marked (hk : s.act.activeSlot = some k) (htrigger : s.work.trigger = true)
    (hruns : s.blocksRun = true) : s.settle.Marked k :=
  settle_establishes (Q := State.Marked k) (activeSlot_survives k) (marked_survives k) (fun _ => pass_marked) hk
    (.inr htrigger) hruns

/-- R21: where ALC runs, a triggered pass reads that there is an Active account. -/
theorem settle_reads_active (hk : s.act.activeSlot = some k) (htrigger : s.work.trigger = true)
    (hruns : s.blocksRun = true) : s.settle.alc.inputs.acctExists = true :=
  settle_reads (R := fun x => x.acctExists = true) (activeSlot_survives k)
    (fun t ht => by
      obtain ⟨a, ha, -⟩ := acct_of_activeSlot ht
      simp [State.passInputs, active_of_slot ht ha])
    hk htrigger hruns

/-- R21, R34, R35, R163: what the passes of an event triggered for the Active account's CapReached leave, where ALC
runs. -/
theorem settle_of_cap (hk : s.act.activeSlot = some k) (hb : (s.act.slots.get k).acct = some b)
    (htrigger : s.work.trigger = true) (hsafety : b.capReached = true → s.work.safety = true)
    (hruns : s.blocksRun = true) :
    s.settle.alc.inputs.capReached = b.capReached ∧ s.settle.alc.inputs.acctExists = true ∧
    s.settle.alc.causes = s.settle.alc.inputs.causes s.rqp.config.wired s.alc.curve ∧ s.settle.Marked k ∧
    (b.capReached = true → s.settle.alc.held = false ∧ s.InForce s.settle.alc ∧
      (s.sampleOpen = true → s.settle.alc.force ≠ s.alc.force → s.settle.imon = s.imon.discarded)) := by
  have hflags := activeFlags_of_slot hk hb
  obtain ⟨hcap, -⟩ := settle_reads_flags hflags htrigger hruns
  refine ⟨hcap, settle_reads_active hk htrigger hruns, (settle_recorded htrigger hruns).causes,
    settle_marked hk htrigger hruns, fun hset => ?_⟩
  obtain ⟨happlied, himon⟩ := settle_of_gated htrigger (hsafety hset) hruns (gated_of_flags hflags (.inl hset))
  exact ⟨happlied.held, happlied.force, himon⟩

/-! ### The references of an Amend (R138, R152) -/

/-- R138: TCK refuses a new reference on an Undefined tariff, and that alone. -/
theorem amendRefs_none : s.amendRefs before after = none ↔
    after ≠ before ∧ ∃ b, after = some b ∧ (s.tck.tariffs.get b).bands = [] := by
  by_cases hsame : before = after
  · simp [State.amendRefs, hsame]
  · cases after with
    | none => simp [State.amendRefs, hsame]
    | some b => simp [State.amendRefs, hsame, Ne.symm hsame, State.tariff, Tariff.defined]

theorem amendRefs_moves (h : s.amendRefs before after = some t) (j : Fin 8) :
    (t.tck.tariffs.get j).refs = (s.tck.tariffs.get j).refs + (if after = some j ∧ before ≠ some j then 1 else 0) -
      if before = some j ∧ after ≠ some j then 1 else 0 := by
  rw [amendRefs_refs h]
  by_cases hbefore : before = some j <;> by_cases hafter : after = some j <;> simp [hbefore, hafter]

theorem amendRefs_bands (h : s.amendRefs before after = some t) (j : Fin 8) :
    (t.tck.tariffs.get j).bands = (s.tck.tariffs.get j).bands :=
  congrArg Prod.fst (amendRefs_stands h .tariffs j)

theorem amendRefs_wall (h : s.amendRefs before after = some t) : t.tck.wall = s.tck.wall := by
  obtain ⟨hwall, -⟩ := amendRefs_stands h .wall
  exact hwall

/-! ### The state in which the passes of an Amend run (R152) -/

/-- R152: account `a` of slot `k` has become `b`, and a pass is triggered where that is the Active account and
CapReached changed. -/
def State.amended (k : Fin 16) (a b : Account) (s : State) : State :=
  if a.state = .active then (s.modAccount k fun _ => b).capChange a.capReached b.capReached
  else s.modAccount k fun _ => b

@[simp] theorem amended_frame (k : Fin 16) (a b : Account) (s : State) : (s.amended k a b).inl = s.inl ∧
    (s.amended k a b).alc = s.alc ∧ (s.amended k a b).hzc = s.hzc ∧ (s.amended k a b).imon = s.imon ∧
    (s.amended k a b).stu = s.stu ∧ (s.amended k a b).mtr = s.mtr ∧ (s.amended k a b).tck = s.tck ∧
    (s.amended k a b).atn = s.atn ∧ (s.amended k a b).rqp = s.rqp ∧ (s.amended k a b).pwc = s.pwc := by
  unfold State.amended
  split <;> simp

theorem amended_act (k : Fin 16) (a b : Account) (s : State) :
    (s.amended k a b).act = (s.modAccount k fun _ => b).act := by
  unfold State.amended
  split <;> simp

theorem amended_acct (ha : (s.act.slots.get k).acct = some a) :
    ((s.amended k a b).act.slots.get k).acct = some b := by
  rw [amended_act]
  exact (modAccount_slot ha _).1

theorem amended_other {j : Fin 16} (hj : j ≠ k) (a b : Account) (s : State) :
    (s.amended k a b).act.slots.get j = s.act.slots.get j := by
  rw [amended_act]
  exact Table.get_modify_ne _ _ hj

/-- R145: an account that keeps its state leaves which account is Active. -/
theorem amended_activeSlot (ha : (s.act.slots.get k).acct = some a) (hstate : b.state = a.state) :
    (s.amended k a b).act.activeSlot = s.act.activeSlot := by
  refine find_congr fun j => ?_
  by_cases hj : j = k
  · rw [hj, isActive_of_some (amended_acct ha), isActive_of_some ha, hstate]
  · rw [amended_other hj]

theorem amended_work (h : a.state ≠ .active ∨ b.capReached = a.capReached) : (s.amended k a b).work = s.work := by
  unfold State.amended State.capChange
  split
  next hactive =>
    rw [if_pos (h.resolve_left (not_not_intro hactive))]
    rfl
  next => rfl

theorem amended_triggers (hactive : a.state = .active) (hcap : b.capReached ≠ a.capReached) :
    (s.amended k a b).work.trigger = true ∧ (b.capReached = true → (s.amended k a b).work.safety = true) := by
  rw [State.amended, if_pos hactive, State.capChange, if_neg hcap]
  split
  next => exact ⟨rfl, fun _ => rfl⟩
  next hclear => exact ⟨rfl, fun hset => absurd hset hclear⟩

/-- R138, R145, R152: what the state `v` in which the passes of an Amend of slot `k` run keeps of `s`, where account
`a` has become `b`. -/
structure State.Amends (k : Fin 16) (a b : Account) (s v : State) : Prop where
  blocks : v.inl = s.inl ∧ v.alc = s.alc ∧ v.hzc = s.hzc ∧ v.imon = s.imon ∧ v.stu = s.stu ∧ v.mtr = s.mtr ∧
    v.atn = s.atn ∧ v.rqp = s.rqp ∧ v.pwc = s.pwc
  acct   : (v.act.slots.get k).acct = some b
  others : ∀ j, j ≠ k → v.act.slots.get j = s.act.slots.get j
  active : v.act.activeSlot = s.act.activeSlot
  quiet  : a.state ≠ .active ∨ b.capReached = a.capReached → v.work = s.work
  fires  : a.state = .active → b.capReached ≠ a.capReached →
    v.work.trigger = true ∧ (b.capReached = true → v.work.safety = true)

theorem amended_amends (h : s.amendRefs before after = some u) (ha : (s.act.slots.get k).acct = some a)
    (hstate : b.state = a.state) : s.Amends k a b (u.amended k a b) := by
  obtain ⟨hinl, halc, hhzc, himon, hstu, hmtr, hact, hatn, hrqp, hpwc, hwork⟩ := amendRefs_frame h
  have hau : (u.act.slots.get k).acct = some a := by rw [hact, ha]
  exact {
    blocks := by simp [hinl, halc, hhzc, himon, hstu, hmtr, hatn, hrqp, hpwc]
    acct := amended_acct hau
    others := fun j hj => by rw [amended_other hj, hact]
    active := by rw [amended_activeSlot hau hstate, hact]
    quiet := fun hsame => (amended_work hsame).trans hwork
    fires := amended_triggers }

/-! ### The passes of an Amend (R152) -/

theorem amends_acct_of_inactive (h : s.Amends k a b t) (hother : a.state ≠ .active) (hstate : b.state = a.state) :
    (t.settle.act.slots.get k).acct = some b := settle_inactive h.acct (hstate ▸ hother)

/-- R152: without a change of CapReached on the Active account no pass runs. -/
theorem amends_settled (h : s.Amends k a b t) (hsame : a.state ≠ .active ∨ b.capReached = a.capReached)
    (hclear : s.work = Work.clear) : t.settle = t := settle_idle ((h.quiet hsame).trans hclear)

/-- R152, R163: a change of CapReached on the Active account is read by a pass, which a cap newly reached makes a
safety pass. -/
theorem amends_fires (h : s.Amends k a b t) (ha : (s.act.slots.get k).acct = some a)
    (hk : s.act.activeSlot = some k) (hcap : b.capReached ≠ a.capReached) (hruns : s.blocksRun = true) :
    t.settle.alc.inputs.capReached = b.capReached ∧ t.settle.alc.inputs.acctExists = true ∧
    t.settle.alc.causes = t.settle.alc.inputs.causes s.rqp.config.wired s.alc.curve ∧ t.settle.Marked k ∧
    (b.capReached = true → t.settle.alc.held = false ∧ s.InForce t.settle.alc ∧
      (s.sampleOpen = true → t.settle.alc.force ≠ s.alc.force → t.settle.imon = s.imon.discarded)) := by
  obtain ⟨x, hx, hactive⟩ := acct_of_activeSlot hk
  cases ha.symm.trans hx
  obtain ⟨htrigger, hsafety⟩ := h.fires hactive hcap
  obtain ⟨-, halc, hhzc, himon, -, -, -, hrqp, hpwc⟩ := h.blocks
  have hread := settle_of_cap (h.active.trans hk) h.acct htrigger hsafety ((runs_congr hpwc).1.trans hruns)
  simp only [State.InForce, State.priorities, hrqp, halc, hhzc, himon, sampleOpen_congr himon] at hread
  exact hread

/-! ### Amend (R152) -/

theorem amendTo_closed (h : a.state = .closed) : amendTo after k a p s = (s, ⟨.state, []⟩) := if_pos h

theorem amendTo_undefined (h : s.amendRefs a.pending after = none) : amendTo after k a p s = (s, ⟨.state, []⟩) := by
  unfold amendTo
  rw [h]
  exact ite_self _

theorem amendTo_accepts (hopen : a.state ≠ .closed) (h : s.amendRefs a.pending after = some u) :
    amendTo after k a p s = ((u.amended k a (a.amend p after)).settle, ⟨.ok, amendImage (a.amend p after)⟩) := by
  unfold amendTo
  rw [if_neg hopen, h]
  rfl

theorem ownAmendAccount_range (hbit : (field p 2 1).testBit 0 = true) (h : 7 < field p 3 1) :
    ownAmendAccount k a p s = (s, ⟨.range, []⟩) := by
  unfold ownAmendAccount fieldBit
  rw [if_pos hbit, slotOf8_none h]
  rfl

/-- R152, R203: the pending tariff that the presence byte and the index ask for. -/
theorem ownAmendAccount_asked (h : (field p 2 1).testBit 0 = false ∧ after = none ∨
    (field p 2 1).testBit 0 = true ∧ ∃ b, after = some b ∧ field p 3 1 = b.val) :
    ownAmendAccount k a p s = amendTo after k a p s := by
  unfold ownAmendAccount fieldBit
  rcases h with ⟨hbit, rfl⟩ | ⟨hbit, b, rfl, hindex⟩
  · simp [hbit]
  · rw [if_pos hbit, hindex, slotOf8_val]

/-! ### Activate (R153) -/

/-- R153: the six conditions in order. -/
theorem activateFailure_eq (a : Account) (s : State) : s.activateFailure a =
    if a.state ≠ .opened ∧ a.state ≠ .suspended then 1
    else if s.inl.state = .unplugged then 2
    else if s.act.activeSlot ≠ none then 3
    else if s.tck.isSet = false then 4
    else if s.rqp.configured = false then 5
    else if (s.tck.tariffs.get a.tariff).bands = [] then 6 else 0 := by
  have hstate : a.state.activatable = false ↔ a.state ≠ .opened ∧ a.state ≠ .suspended := by
    rw [← Bool.not_eq_true, activatable_iff, not_or]
  have hbands : (s.tariff a.tariff).defined = false ↔ (s.tck.tariffs.get a.tariff).bands = [] := by
    rw [← Bool.not_eq_true, defined_iff, not_not]
    rfl
  simp only [State.activateFailure, hstate, hbands, Option.isSome_iff_ne_none]

theorem activateSlot_other {j : Fin 16} (hj : j ≠ k) (s : State) :
    (s.activateSlot k).act.slots.get j = s.act.slots.get j := by
  simp [State.activateSlot, State.modAccount, Table.get_modify_ne _ _ hj]

theorem ownActivateAccount_refuses (h : s.activateFailure a ≠ 0) :
    ownActivateAccount k a p s = (s, ⟨.state, be 1 (s.activateFailure a)⟩) := if_neg h

theorem ownActivateAccount_accepts (h : s.activateFailure a = 0) : ownActivateAccount k a p s =
    ((s.activateSlot k).settle, ⟨.ok, (s.act.handle k).bytes ++ flagByte a.capReached ++ flagByte a.saturated⟩) :=
  if_pos h

/-- R153, 13.5: the response of an accepted Activate, field by field. -/
theorem activateImage_eq (k : Fin 16) (a : Account) (s : State) :
    (s.act.handle k).bytes ++ flagByte a.capReached ++ flagByte a.saturated =
      be 1 k.val ++ be 1 (s.act.slots.get k).gen ++ be 1 (if a.capReached = true then 1 else 0) ++
        be 1 (if a.satTotal = true ∨ a.satEnergy = true ∨ a.satIdle = true then 1 else 0) := by
  simp only [flagByte, Account.saturated, Bool.or_eq_true, or_assoc]
  rfl

/-! ### Suspend (R154) -/

theorem suspendSlot_acct (ha : (s.act.slots.get k).acct = some a) (r : SuspendReason) :
    ((s.suspendSlot k r).act.slots.get k).acct = some { a with state := .suspended, reason := some r } := by
  simp [State.suspendSlot, State.modAccount, ha]

theorem suspendSlot_other {j : Fin 16} (hj : j ≠ k) (r : SuspendReason) (s : State) :
    (s.suspendSlot k r).act.slots.get j = s.act.slots.get j := by
  simp [State.suspendSlot, State.modAccount, Table.get_modify_ne _ _ hj]

/-- R35, R154: a Suspend and its passes leave the other slots. -/
theorem suspend_other_slots (ha : (s.act.slots.get k).acct = some a) (hactive : a.state = .active)
    (r : SuspendReason) (hone : s.act.oneActive = true) (j : Fin 16) (hj : j ≠ k) :
    (s.suspendSlot k r).settle.act.slots.get j = s.act.slots.get j := by
  have hnone : (s.suspendSlot k r).act.activeSlot = none :=
    activeSlot_none_of_left hone ((isActive_of_some ha).trans (decide_eq_true hactive))
      (fun i hi => suspendSlot_other hi r s) (isActive_of_some (suspendSlot_acct ha r))
  rw [settle_act_of_none hnone]
  exact suspendSlot_other hj r s

theorem ownSuspendAccount_refuses (h : a.state ≠ .active) : ownSuspendAccount k a p s = (s, ⟨.state, []⟩) := if_neg h

theorem ownSuspendAccount_accepts (h : a.state = .active) : ownSuspendAccount k a p s =
    ((s.suspendSlot k .request).settle, ⟨.ok, be 1 k.val ++ be 1 (s.act.slots.get k).gen ++ be 1 1⟩) := if_pos h

end

/-- Settles O50: each request's refusals in their order, then what the passes of its event make of the state in which
they run. -/
theorem accountsAreAmendedAndActivated : Obligations.AccountsAreAmendedAndActivated := by
  intro s p i a ha hslot hgen
  refine ⟨fun hserves hlen => ?_, fun hserves hlen => ?_, fun hserves hlen => ?_⟩
  · have hhandle := withHandle_owner hlen hslot hgen ha []
    refine ⟨fun hbit hrange => next_of_serves hserves ((hhandle _).trans (ownAmendAccount_range hbit hrange)),
      fun pend hasked => ?_⟩
    intro refused
    have howner := (hhandle ownAmendAccount).trans (ownAmendAccount_asked hasked)
    refine ⟨fun hrefused => ?_, fun haccepted => ?_⟩
    · refine next_of_serves hserves (howner.trans ?_)
      rcases hrefused with hclosed | hundefined
      · exact amendTo_closed hclosed
      · exact amendTo_undefined (amendRefs_none.2 hundefined)
    · obtain ⟨hopen, hdefined⟩ := not_or.1 haccepted
      obtain ⟨u, hrefs⟩ := Option.ne_none_iff_exists'.1 (mt amendRefs_none.1 hdefined)
      have hexec := next_of_serves hserves (howner.trans (amendTo_accepts hopen hrefs))
      have hamends : s.Amends i a (a.amend p pend) _ := amended_amends hrefs ha rfl
      have hcaps := evalCaps_iff (a.amend p pend)
      obtain ⟨hstu, hmtr, htck, hrqp, hpwc, -⟩ := settle_frame (u.amended i a (a.amend p pend))
      obtain ⟨hinl, halc, hhzc, himon, hstu', hmtr', hatn, hrqp', hpwc'⟩ := hamends.blocks
      obtain ⟨c, hself⟩ := settle_acct hamends.acct
      rw [show (u.amended i a (a.amend p pend)).tck = u.tck by simp] at htck
      generalize u.amended i a (a.amend p pend) = v at *
      refine ⟨_, _, hexec, hself, rfl, hcaps, fun j => ⟨?_, ?_⟩, fun j hj hother => ?_, fun hstate => ?_,
        fun hk hcap hruns => ?_, fun hsame hclear => ?_, ?_, ?_, hmtr.trans hmtr', hstu.trans hstu',
        hpwc.trans hpwc'⟩
      · exact (congrArg (fun x : Clock => (x.tariffs.get j).refs) htck).trans (amendRefs_moves hrefs j)
      · exact (congrArg (fun x : Clock => (x.tariffs.get j).bands) htck).trans (amendRefs_bands hrefs j)
      · exact (settle_other_slot (hamends.active ▸ hother)).trans (hamends.others j hj)
      · cases hself.symm.trans (amends_acct_of_inactive hamends hstate rfl)
        rfl
      · obtain ⟨hreads, hexists, hcauses, hmarked, hgated⟩ := amends_fires hamends ha hk hcap hruns
        refine ⟨hreads, hexists, hcauses, hmarked _ hself, fun hset => ?_⟩
        obtain ⟨hheld, ⟨hforce, hcmd⟩, hdiscard⟩ := hgated hset
        exact ⟨hheld, hforce, hcmd, fun hopen hne => (hdiscard hopen hne).trans (discarded_eq hopen)⟩
      · rw [amends_settled hamends hsame hclear] at hself ⊢
        cases hself.symm.trans hamends.acct
        exact ⟨rfl, hamends.others, hinl, halc, hhzc, himon, hatn⟩
      · rw [answer_rqp, hrqp, hrqp']
        rfl
      · exact (congrArg Clock.wall htck).trans (amendRefs_wall hrefs)
  · have hhandle := withHandle_owner hlen hslot hgen ha (be 1 1)
    intro failure
    have hfailure : s.activateFailure a = failure := activateFailure_eq a s
    clear_value failure
    subst hfailure
    refine ⟨fun hrefused => next_of_serves hserves ((hhandle _).trans (ownActivateAccount_refuses hrefused)),
      fun haccepted => ?_⟩
    have hnone := activateFailure_none haccepted
    have hexec := next_of_serves hserves ((hhandle _).trans (ownActivateAccount_accepts haccepted))
    obtain ⟨c, hself⟩ := settle_acct (activateSlot_acct ha)
    have hactive := (settle_activeSlot _).trans (activateSlot_activeSlot hnone ha)
    have hothers : ∀ j, j ≠ i → (s.activateSlot i).settle.act.slots.get j = s.act.slots.get j := fun j hj =>
      (settle_other_slot (by rw [activateSlot_activeSlot hnone ha]; simpa using hj.symm)).trans
        (activateSlot_other hj s)
    obtain ⟨hstu, hmtr, htck, hrqp, hpwc, -⟩ := settle_frame (s.activateSlot i)
    rw [activateSlot_rqp] at hrqp
    simp only [activateSlot_frame] at hstu hmtr htck hpwc
    rw [activateImage_eq] at hexec
    generalize (s.activateSlot i).settle = t at *
    refine ⟨_, _, hexec, hself, rfl, hactive, hothers, ?_, htck, hmtr, hstu, hpwc⟩
    rw [answer_rqp, hrqp]
  · have hhandle := withHandle_owner hlen hslot hgen ha []
    refine ⟨fun hother => next_of_serves hserves ((hhandle _).trans (ownSuspendAccount_refuses hother)),
      fun hactive => ?_⟩
    have hexec := next_of_serves hserves ((hhandle _).trans (ownSuspendAccount_accepts hactive))
    have hself := settle_inactive (suspendSlot_acct ha .request) (by exact nofun)
    have hothers := suspend_other_slots ha hactive .request
    obtain ⟨hstu, hmtr, htck, hrqp, hpwc, -⟩ := settle_frame (s.suspendSlot i .request)
    rw [suspendSlot_rqp] at hrqp
    simp only [suspendSlot_frame] at hstu hmtr htck hpwc
    generalize (s.suspendSlot i .request).settle = t at *
    refine ⟨_, hexec, hself, hothers, ?_, htck, hmtr, hstu, hpwc⟩
    rw [answer_rqp, hrqp]
    cases s.rqp.sup <;> rfl

end Sys2Proof.Machine
end
